-- ==== Sys2Proof/Word.lean ====
section
/-! DEFINITION. The word types, the index types of the CX8 (channels, ports, inputs) and tables indexed by them. -/

namespace Sys2Proof

/-- One byte of a frame or record (12, R188). -/
abbrev Byte := BitVec 8
/-- A 16-bit field: stamp16, epoch, revision, request number. -/
abbrev W16 := BitVec 16
/-- A 32-bit period number or stamp (00, "Control Period and Period Numbers"). -/
abbrev W32 := BitVec 32

/-- Channels 0 to 7; channel 7 is the spindle channel. -/
abbrev Chan := Fin 8
/-- Master ports P0 to P3. -/
abbrev Port := Fin 4
/-- Discrete inputs DI0 to DI15. -/
abbrev Input := Fin 16

/-- The entry of a table of `n` like things. -/
def vget {α : Type} {n : Nat} (v : Vector α n) (i : Fin n) : α := v[i.val]

/-- The table with one entry replaced. -/
def vset {α : Type} {n : Nat} (v : Vector α n) (i : Fin n) (a : α) : Vector α n := v.set i.val a

theorem vget_vset {α : Type} {n : Nat} (v : Vector α n) (i j : Fin n) (a : α) :
    vget (vset v i a) j = if i = j then a else vget v j := by
  unfold vget vset
  rw [Vector.getElem_set]
  simp [Fin.ext_iff]

@[simp] theorem vget_vset_self {α : Type} {n : Nat} (v : Vector α n) (i : Fin n) (a : α) :
    vget (vset v i a) i = a := by simp [vget_vset]

theorem vget_vset_ne {α : Type} {n : Nat} (v : Vector α n) {i j : Fin n} (a : α) (h : i ≠ j) :
    vget (vset v i a) j = vget v j := by simp [vget_vset, h]

@[simp] theorem vget_replicate {α : Type} {n : Nat} (a : α) (i : Fin n) :
    vget (Vector.replicate n a) i = a := by simp [vget]

theorem vec_ext {α : Type} {n : Nat} {v w : Vector α n} (h : ∀ i, vget v i = vget w i) : v = w := by
  apply Vector.ext
  intro i hi
  exact h ⟨i, hi⟩

@[simp] theorem vset_vget_self {α : Type} {n : Nat} (v : Vector α n) (i : Fin n) :
    vset v i (vget v i) = v := by
  apply vec_ext
  intro j
  rw [vget_vset]
  split
  · next h => rw [h]
  · rfl

/-- The table with the listed entries replaced by their images. -/
def vmap {α : Type} {n : Nat} (l : List (Fin n)) (f : Fin n → α → α) (v : Vector α n) : Vector α n :=
  match l with
  | [] => v
  | i :: rest => vmap rest f (vset v i (f i (vget v i)))

theorem vget_vmap_of_not_mem {α : Type} {n : Nat} (f : Fin n → α → α) (j : Fin n) :
    ∀ (l : List (Fin n)) (v : Vector α n), j ∉ l → vget (vmap l f v) j = vget v j
  | [], _, _ => rfl
  | i :: rest, v, h => by
    simp only [List.mem_cons, not_or] at h
    unfold vmap
    rw [vget_vmap_of_not_mem f j rest _ h.2, vget_vset_ne _ _ (fun e => h.1 e.symm)]

theorem vget_vmap {α : Type} {n : Nat} (f : Fin n → α → α) (j : Fin n) :
    ∀ (l : List (Fin n)) (v : Vector α n), l.Nodup → j ∈ l → vget (vmap l f v) j = f j (vget v j)
  | [], _, _, h => by cases h
  | i :: rest, v, hn, h => by
    simp only [List.nodup_cons] at hn
    unfold vmap
    by_cases hj : j = i
    · subst hj
      rw [vget_vmap_of_not_mem f j rest _ hn.1, vget_vset_self]
    · have hm : j ∈ rest := by
        cases h with
        | head => exact absurd rfl hj
        | tail _ h => exact h
      rw [vget_vmap f j rest _ hn.2 hm, vget_vset_ne _ _ (fun e => hj e.symm)]

/-- Every channel, in order of number. -/
def allChans : List Chan := [0, 1, 2, 3, 4, 5, 6, 7]
/-- Every port, in order of number. -/
def allPorts : List Port := [0, 1, 2, 3]
/-- Every discrete input, in order of number. -/
def allInputs : List Input := [0, 1, 2, 3, 4, 5, 6, 7, 8, 9, 10, 11, 12, 13, 14, 15]

theorem nodup_allChans : allChans.Nodup := by decide
theorem nodup_allPorts : allPorts.Nodup := by decide
theorem nodup_allInputs : allInputs.Nodup := by decide
theorem mem_allChans (c : Chan) : c ∈ allChans := by revert c; decide
theorem mem_allPorts (p : Port) : p ∈ allPorts := by revert p; decide
theorem mem_allInputs (i : Input) : i ∈ allInputs := by revert i; decide

@[simp] theorem vget_vmap_chans {α : Type} (f : Chan → α → α) (v : Vector α 8) (j : Chan) :
    vget (vmap allChans f v) j = f j (vget v j) := vget_vmap f j _ v nodup_allChans (mem_allChans j)

@[simp] theorem vget_vmap_ports {α : Type} (f : Port → α → α) (v : Vector α 4) (j : Port) :
    vget (vmap allPorts f v) j = f j (vget v j) := vget_vmap f j _ v nodup_allPorts (mem_allPorts j)

@[simp] theorem vget_vmap_inputs {α : Type} (f : Input → α → α) (v : Vector α 16) (j : Input) :
    vget (vmap allInputs f v) j = f j (vget v j) := vget_vmap f j _ v nodup_allInputs (mem_allInputs j)

end Sys2Proof
end

