-- ==== Sys2Proof/Config.lean ====
section
/-! DEFINITION. What the part fixes (Table 0-3, the settle times, WAKE_LIMIT, the ranges' ends) and the free values
the manual leaves open. A free value is an opaque constant: nothing can be proved of which value it has. -/

namespace Sys2Proof

/-- FREE VALUE (log 9): the part code and revision QUERY_PART reports (11, Table 11-3); the manual states neither
their values nor their widths. -/
opaque Config.partIdentity : List Byte

/-- FREE VALUE (log 10): whether the Reaction Controller handles a trip's departure from STOPPING before the trip
report of the same action (07, R135 and R141, give no order). -/
opaque Config.departureFirst : Bool

/-- Periods per millisecond by PERIOD_CODE (Table 0-3). -/
def Config.periodsPerMs (code : Nat) : Nat :=
  match code with
  | 0 => 16
  | 1 => 10
  | 2 => 8
  | _ => 4

/-- The control period in half microseconds by PERIOD_CODE (Table 0-3: 62.5, 100, 125, 250 µs). -/
def Config.periodHalfMicros (code : Nat) : Nat :=
  match code with
  | 0 => 125
  | 1 => 200
  | 2 => 250
  | _ => 500

/-- The settle time in ms by SETTLE_CODE (05, R98); FREEZE refuses any other code. -/
def Config.settleMs (code : Nat) : Nat :=
  match code with
  | 0 => 50
  | 1 => 100
  | 2 => 200
  | 3 => 400
  | _ => 800

/-- WAKE_LIMIT, fixed at 100 ms (05, R101). -/
def Config.wakeLimitMs : Nat := 100

/-- The capacity of a port's inbound queue (09, R168). -/
def Config.inboundSlots : Nat := 4

/-- The capacity of a demand queue (03, R49). -/
def Config.queueSlots : Nat := 16

/-- The horizon in periods (00, "Control Period and Period Numbers"). -/
def Config.horizon : Nat := 64

end Sys2Proof
end

