-- ==== Sys2Proof/Syntax.lean ====
section
/-! DEFINITION. The commands of the CX8: one constructor for each row of spec/opcode_table.json. -/

namespace Sys2Proof

/-- One of the works that fall on a period start (01, R7; 05, R93; and every count that can expire there).
The order in which works falling together are taken is open in the manual, so PERIOD_START carries it (log 3). -/
inductive Work where
  | engine (c : Chan)      -- one engine's handling of the period start (R7), for a pair under the leader
  | supply                 -- the Link Supervisor's check for a supply record (R93)
  | lock (c : Chan)        -- a lock's deadline (R42)
  | handover (c : Chan)    -- a handover's deadline (R44)
  | proposal (c : Chan)    -- a proposal's deadline (R129)
  | linkTimer              -- the charge, settle or wake timer (R97, R98, R101)
  | silence (p : Port)     -- a silence timer (R167)
  | pacing (p : Port)      -- a pacing timer (R178)
  | debounce (i : Input)   -- a debounce count (R158)
  deriving DecidableEq, Repr

/-- The pins and link signals as they stand when a reset ends (08, R164; 09, R176; 11, R182). -/
structure Pins where
  straps  : Port              -- SAFSEL1, SAFSEL0 as a number
  signals : Vector Bool 4     -- link signal present, per port
  di      : Vector Bool 16    -- pin high, per discrete input
  deriving DecidableEq, Repr

/-- The commands. A request's operand is the port that takes it: the request itself is the frame at the head of
that port's inbound queue (09, R169). -/
inductive Instr where
  | periodStart (order later : List Work)
  | brakeTimerExpiry (c : Chan)
  | rampCountExpiry (c : Chan)
  | stopCountExpiry (c : Chan)
  | lockExpiry (c : Chan)
  | handoverDeadline (c : Chan)
  | proposalExpiry (c : Chan)
  | chargeTimerExpiry
  | settleTimerExpiry
  | wakeTimerExpiry
  | sampleRecord (c : Chan) (bytes : List Byte)
  | supplyRecord (bytes : List Byte)
  | frameReceived (p : Port) (bytes : List Byte)
  | linkSignalGained (p : Port)
  | linkSignalLost (p : Port) (midFrame : Bool)
  | silenceTimerExpiry (p : Port)
  | transmissionComplete (p : Port)
  | pacingTimerExpiry (p : Port)
  | pinChange (i : Input) (high : Bool)
  | debounceCountExpiry (i : Input)
  | unknownRequest (p : Port)
  | queryPart (p : Port)
  | writeConstant (p : Port)
  | readConstant (p : Port)
  | freeze (p : Port)
  | resetPart (p : Port)
  | claim (p : Port)
  | cancelClaim (p : Port)
  | release (p : Port)
  | lock (p : Port)
  | unlock (p : Port)
  | queryAuthority (p : Port)
  | engage (p : Port)
  | disengage (p : Port)
  | forceRamp (p : Port)
  | restore (p : Port)
  | queryChannel (p : Port)
  | demand (p : Port)
  | retract (p : Port)
  | flush (p : Port)
  | queryQueue (p : Port)
  | setOpen (p : Port)
  | propose (p : Port)
  | cancelProposal (p : Port)
  | confirm (p : Port)
  | reject (p : Port)
  | queryEnvelope (p : Port)
  | linkUp (p : Port)
  | linkPark (p : Port)
  | linkDown (p : Port)
  | queryLink (p : Port)
  | safeStop (p : Port)
  | safeRelease (p : Port)
  | setMask (p : Port)
  | queryFaults (p : Port)
  | inputAck (p : Port)
  | queryInputs (p : Port)
  | subscribe (p : Port)
  | setPacing (p : Port)
  | powerOn (pins : Pins)
  | line (pins : Pins)
  | commanded (pins : Pins)
  deriving DecidableEq, Repr

end Sys2Proof
end

