-- ==== Sys2Proof/Decode.lean ====
section
/-! DEFINITION. The decoder over the rows of spec/opcode_table.json that give bits. No row of this block's table
gives any, so no word spells a command. (Frames and records are decoded in Machine/Bytes.lean and
Machine/Operands.lean: they are data the commands carry.) -/

namespace Sys2Proof

/-- The command a word spells by the table's bits: none, since the table gives no row a word. -/
def decodeTableWord (_nbits _w : Nat) : Option Instr := none

end Sys2Proof
end

