-- ==== Sys2Proof/Machine/State.lean ====
section
/-! DEFINITION. The state of the CX8: every register, queue, timer, mode and pin the manual gives the part, as plain
data, block by block (Table 0-1), and the state after reset. -/

namespace Sys2Proof.Machine

/-- The two phases of the part (11, R182). -/
inductive Phase where
  | config
  | operating
  deriving DecidableEq, Repr

/-- The channel states, in the order of Table 1-1. -/
inductive ChState where
  | off
  | releasing
  | run
  | holding
  | ramping
  | stopping
  | tripped
  deriving DecidableEq, Repr

/-- The link states, in the order of Table 5-2. -/
inductive LinkState where
  | discharged
  | charging
  | settling
  | ready
  | parked
  | waking
  | draining
  deriving DecidableEq, Repr

/-- The port link states, in the order of 09, R166. -/
inductive PortLink where
  | down
  | up
  | silent
  deriving DecidableEq, Repr

/-- The thirteen fault kinds, in the order of Table 7-1. -/
inductive FaultKind where
  | supplyLost
  | linkLow
  | linkHigh
  | chargeFail
  | wakeFail
  | safeStop
  | overcurrent
  | bridgeFault
  | sampleLost
  | portSilent
  | starved
  | brakeFault
  | thermal
  deriving DecidableEq, Repr

/-- The scope of a report (07, R133). -/
inductive Scope where
  | channel (c : Chan)
  | port (p : Port)
  | link
  | all
  deriving DecidableEq, Repr

/-- The twelve notice kinds, in the order of Table 10-1. -/
inductive NoticeKind where
  | authority
  | queueLow
  | lockExpired
  | proposal
  | proposalResult
  | fault
  | linkState
  | input
  | thermal
  | safeState
  | channelState
  | started
  deriving DecidableEq, Repr

/-- The reset kinds (11, R186). -/
inductive ResetKind where
  | powerOn
  | line
  | commanded
  deriving DecidableEq, Repr

/-- The values of an input's polarity (Table 8-1). -/
inductive Polarity where
  | activeHigh
  | activeLow
  deriving DecidableEq, Repr

/-- The values of an input's mode (Table 8-1). -/
inductive InputMode where
  | level
  | edge
  deriving DecidableEq, Repr

/-- The values of an input's binding (Table 8-1). -/
inductive Binding where
  | none
  | safeStop
  | brakeFb (c : Chan)
  | wake
  deriving DecidableEq, Repr

/-- SAFE_STOP_CATEGORY (Table 11-1). -/
inductive Category where
  | immediate
  | ramped
  deriving DecidableEq, Repr

/-- How a proposal ended (06, R125). -/
inductive ProposalEnd where
  | confirmed
  | rejected
  | cancelled
  | expired
  | withdrawn
  deriving DecidableEq, Repr

/-- How a lasting reaction ended (07, R136). -/
inductive ReactionEnd where
  | completed
  | overtaken
  deriving DecidableEq, Repr

/-- A commanded reset in progress (11, R186): the RESET_PART answer has not left yet, or the reset is to be taken. -/
inductive CommandedReset where
  | none
  | answerWaiting
  | due
  deriving DecidableEq, Repr

/-- The configuration of one discrete input (Table 8-1). -/
structure InputConfig where
  polarity   : Polarity
  mode       : InputMode
  debounceMs : Nat
  binding    : Binding
  deriving DecidableEq, Repr

/-- A route entry (Table 9-1). -/
structure Route where
  valid : Bool
  tag   : Nat
  ports : BitVec 4
  chan  : Chan
  deriving DecidableEq, Repr

/-- The machine constants (Table 11-1). -/
structure Constants where
  periodCode     : Nat
  rank           : Vector Nat 4
  wakePermit     : Vector Bool 4
  silenceLimitMs : Vector Nat 4
  present        : Vector Bool 8
  ceiling        : Vector Nat 8
  reserve        : Vector Nat 8
  order          : List Chan
  tandem         : Vector Bool 3     -- of the leaders 0, 2, 4
  linkRating     : Nat
  safeLevel      : Nat
  failLevel      : Nat
  readyLevel     : Nat
  highLevel      : Nat
  settleCode     : Nat
  chargeLimitMs  : Nat
  handoverMs     : Nat
  proposalMs     : Nat
  category       : Category
  inputs         : Vector InputConfig 16
  routes         : Vector Route 32
  deriving DecidableEq, Repr

/-- A set of demand values: the active demand, a ramp start (01, R8, R12; 03, R51). -/
structure Demand where
  iq    : Int
  id    : Int
  split : Int
  vff   : Int
  deriving DecidableEq, Repr

/-- A demand entry as it was accepted (03, R50); an optional field that was absent is `none`. -/
structure Entry where
  stamp : W32
  iq    : Int
  id    : Option Int
  split : Option Int
  vff   : Option Int
  deriving DecidableEq, Repr

/-- One channel's demand queue with its counts (03, R49, R67, R68, R70). -/
structure DemandQueue where
  entries     : List Entry
  gap         : Nat
  starved     : Bool
  expired     : Nat
  lastApplied : Option W32
  deriving DecidableEq, Repr

/-- A waiting claim (02, R27). -/
structure Claim where
  port : Port
  rank : Nat
  deriving DecidableEq, Repr

/-- A handover record (02, R29); `left` is the periods left to its deadline. -/
structure Handover where
  previous  : Option Port
  newHolder : Port
  left      : Nat
  deriving DecidableEq, Repr

/-- An authority record (02, Table 2-1). A lock is held as the periods left to its deadline. -/
structure AuthRecord where
  holder     : Option Port
  holderRank : Option Nat
  epoch      : W16
  lock       : Option Nat
  waiting    : List Claim
  handover   : Option Handover
  deriving DecidableEq, Repr

/-- The guarded values of an envelope (06, Table 6-1). -/
structure Guarded where
  peak       : Nat
  continuous : Nat
  tau        : Nat
  brakeMs    : Nat
  stopMs     : Nat
  deriving DecidableEq, Repr

/-- The open values of an envelope (06, Table 6-2). -/
structure OpenValues where
  kpD      : Nat
  kpQ      : Nat
  kiD      : Nat
  kiQ      : Nat
  starve   : Nat
  lowWater : Nat
  rampMs   : Nat
  deriving DecidableEq, Repr

/-- A pending proposal (06, R122); `left` is the periods left to its deadline. -/
structure Proposal where
  proposer : Port
  values   : Guarded
  number   : Nat
  left     : Nat
  deriving DecidableEq, Repr

/-- The last outcome of an envelope (06, R125). -/
structure LastOutcome where
  proposer : Port
  number   : Nat
  outcome  : ProposalEnd
  period   : W32
  deriving DecidableEq, Repr

/-- An envelope (06, R116 to R125). -/
structure Envelope where
  guarded  : Guarded
  opens    : OpenValues
  revision : W16
  counter  : Nat
  proposal : Option Proposal
  last     : Option LastOutcome
  deriving DecidableEq, Repr

/-- A trip record (01, R14). -/
structure TripRecord where
  kind   : FaultKind
  period : W32
  detail : Nat
  deriving DecidableEq, Repr

/-- Three phase duties (04, R86). -/
structure Duties where
  a : Nat
  b : Nat
  c : Nat
  deriving DecidableEq, Repr

/-- A channel engine (01, R4 to R14, R23; 04, R73 to R91). The state, timer, ramp fields, active demand and id target
of a pair are the leader's; a follower's own copies stay at their reset values. -/
structure Engine where
  state        : ChState
  timer        : Option Nat        -- periods left on the brake timer, ramp count or stop count
  holdFault    : Bool              -- BRAKE_FAULT was reported in this stay in HOLDING (R11)
  active       : Demand
  idTarget     : Int
  rampStart    : Demand            -- the ramp start or the stop start
  rampTotal    : Nat               -- N or M of R12, R13
  feedback     : Vector Bool 16    -- the level last delivered of each input bound to the channel
  gateEnable   : Bool
  derate       : Bool
  brakeMark    : Bool
  trip         : Option TripRecord
  miss         : Nat
  sampleTaken  : Bool              -- a good sample has been taken for the period in progress
  sampleEver   : Bool              -- a good sample has been taken since the last reset
  desat        : Bool
  overtemp     : Bool
  moduleReady  : Bool
  idMeas       : Int
  iqMeas       : Int
  heat         : Nat               -- H in 1/65536 A²s
  thermalInd   : Bool
  integD       : Int               -- in 1/65536 V
  integQ       : Int
  lastDraw     : Int
  peakLimited  : Bool
  grantLimited : Bool
  voltLimited  : Bool
  lastDuties   : Duties            -- of the last gate record sent
  deriving DecidableEq, Repr

/-- A supply record (05, Table 5-1). -/
structure SupplyData where
  stamp     : W16
  voltage   : Nat
  available : Nat
  mains     : Bool
  deriving DecidableEq, Repr

/-- The Link Supervisor (05, R92 to R110). -/
structure LinkBlock where
  state       : LinkState
  timer       : Option Nat         -- periods left on the charge, settle or wake timer
  supply      : Option SupplyData  -- the last supply record
  supplyMiss  : Nat
  supplyTaken : Bool               -- a record was taken since the last period start
  ready       : Vector Bool 8      -- module readiness as last reported
  wakeLevels  : Vector Bool 16     -- the level last delivered of each WAKE-bound input
  deriving DecidableEq, Repr

/-- The Allotment Unit (05, R111, R112). -/
structure Allotment where
  budget  : Nat
  request : Vector Nat 8
  grant   : Vector Nat 8
  deriving DecidableEq, Repr

/-- An entry of the pending set (07, R134). -/
structure PendingEntry where
  kind  : FaultKind
  scope : Scope
  first : W32
  count : Nat
  epoch : Option W16
  deriving DecidableEq, Repr

/-- The reaction in service (07, R136). -/
structure InService where
  kind  : FaultKind
  scope : Scope
  first : W32
  taken : W32
  deriving DecidableEq, Repr

/-- The held repeat (07, R136, R142). -/
structure HeldRepeat where
  first : W32
  count : Nat
  deriving DecidableEq, Repr

/-- The last ended record (07, R136). -/
structure LastEnded where
  kind   : FaultKind
  scope  : Scope
  ending : ReactionEnd
  period : W32
  deriving DecidableEq, Repr

/-- The mask set: which ordinary kinds are masked (07, R150). -/
structure MaskSet where
  portSilent : Bool
  starved    : Bool
  brakeFault : Bool
  thermal    : Bool
  deriving DecidableEq, Repr

/-- The Reaction Controller (07, R134 to R156). The pending set is kept in taking order. `untilTake` holds, within one
period start, the channels whose handover deadline was taken before the take that falls on the same period start: the
reactions that the end of the handover frees are taken after that take (02, R43; log 31). -/
structure ReactionBlock where
  pendingSet : List PendingEntry
  inService  : Option InService
  held       : Option HeldRepeat
  lastEnded  : Option LastEnded
  mask       : MaskSet
  latch      : Bool
  stopLevels : Vector Bool 16      -- the level last delivered of each SAFE_STOP-bound input
  untilTake  : Vector Bool 8
  deriving DecidableEq, Repr

/-- One discrete input of the Input Block (08, R157 to R161). -/
structure InputBlock where
  level    : Bool                  -- the debounced level, true for active
  flag     : Bool
  count    : Nat
  debounce : Option Nat            -- periods left on a running debounce count
  deriving DecidableEq, Repr

/-- A request frame in an inbound queue (09, R168; 12, R190). -/
structure Frame where
  number : W16
  code   : Nat
  fields : List Byte
  deriving DecidableEq, Repr

/-- A frame to be sent on a port: its bytes, and whether it is the answer to RESET_PART (11, R186). -/
structure TxFrame where
  bytes   : List Byte
  isReset : Bool
  deriving DecidableEq, Repr

/-- One master port: the Master Port Interface's and the Notice Unit's state for it (09, R166 to R171; 10, R177,
R178). Sets of notice kinds are held by bit k for the k-th kind of Table 10-1, as the NOTICE frame carries them. -/
structure PortBlock where
  link       : PortLink
  silence    : Option Nat
  inbound    : List Frame
  answer     : Option TxFrame
  notice     : Option TxFrame
  sending    : Option TxFrame      -- in transmission, or cut and kept at the front while the port is DOWN (R171)
  overrun    : Bool
  damaged    : Nat
  subscribed : BitVec 12
  summary    : BitVec 12
  pacingMs   : Nat
  pacing     : Option Nat
  deriving DecidableEq, Repr

/-- The last severe fault (07, R153; 11, R187). -/
structure SevereFault where
  kind   : FaultKind
  scope  : Scope
  period : W32
  deriving DecidableEq, Repr

/-- The Retained Record (11, R187). -/
structure Retained where
  cause  : ResetKind
  severe : Option SevereFault
  deriving DecidableEq, Repr

/-- Something the part has put on a link: a record on a bridge link, or a whole frame on a port. -/
inductive Emission where
  | bridge (c : Chan) (bytes : List Byte)
  | frame (p : Port) (bytes : List Byte)
  deriving DecidableEq, Repr

/-- The state of the CX8. `pending` is the queue of commands waiting (the model's own); `wire` is what the part has
sent since the last reset, newest first (the model's own, log 21). -/
structure State where
  phase      : Phase
  safetyPort : Port
  retained   : Retained
  resetting  : CommandedReset
  consts     : Constants
  signals    : Vector Bool 4
  pins       : Vector Bool 16
  period     : W32                 -- P, the last period started; 0 before the first (01, R1, log 37)
  started    : Bool                -- a period has started since FREEZE
  auth       : Vector AuthRecord 8
  queues     : Vector DemandQueue 8
  engines    : Vector Engine 8
  envs       : Vector Envelope 8
  link       : LinkBlock
  allot      : Allotment
  react      : ReactionBlock
  inputs     : Vector InputBlock 16
  ports      : Vector PortBlock 4
  wire       : List Emission
  pending    : List Instr
  deriving DecidableEq, Repr

/-- No command of this part ends in a fault of the model: the part's own faults are effects on State. -/
inductive Fault where
  deriving DecidableEq, Repr

/-- Why a command has no meaning here. -/
inductive Refusal where
  /-- Raised by exec for a command that has no meaning yet, by its mnemonic in spec/opcode_table.json; safe. No
  command of this model is refused. -/
  | notModelled (mnemonic : String)
  deriving DecidableEq, Repr

/-- Table 11-1, "Reset value", for one input. -/
def InputConfig.initial : InputConfig :=
  { polarity := .activeHigh, mode := .level, debounceMs := 0, binding := .none }

/-- Table 11-1, "Reset value". -/
def Constants.initial : Constants :=
  { periodCode := 2, rank := Vector.replicate 4 0, wakePermit := Vector.replicate 4 false
    silenceLimitMs := Vector.replicate 4 0, present := Vector.replicate 8 false
    ceiling := Vector.replicate 8 100, reserve := Vector.replicate 8 0, order := []
    tandem := Vector.replicate 3 false, linkRating := 0
    safeLevel := 500, failLevel := 4000, readyLevel := 5000, highLevel := 8000
    settleCode := 2, chargeLimitMs := 5000, handoverMs := 20, proposalMs := 250, category := .ramped
    inputs := Vector.replicate 16 InputConfig.initial
    routes := Vector.replicate 32 { valid := false, tag := 0, ports := 0, chan := 0 } }

/-- The zero demand with id target 0 (01, R23). -/
def Demand.zero : Demand := { iq := 0, id := 0, split := 0, vff := 0 }

/-- An authority record after reset (02, R30). -/
def AuthRecord.initial : AuthRecord :=
  { holder := none, holderRank := none, epoch := 0, lock := none, waiting := [], handover := none }

/-- A demand queue after reset (03, R71). -/
def DemandQueue.initial : DemandQueue :=
  { entries := [], gap := 0, starved := false, expired := 0, lastApplied := none }

/-- A channel engine after reset (01, R23; 04, R91). -/
def Engine.initial : Engine :=
  { state := .off, timer := none, holdFault := false, active := Demand.zero, idTarget := 0
    rampStart := Demand.zero, rampTotal := 0, feedback := Vector.replicate 16 false, gateEnable := false
    derate := false, brakeMark := false, trip := none, miss := 0, sampleTaken := false, sampleEver := false
    desat := false, overtemp := false, moduleReady := false, idMeas := 0, iqMeas := 0, heat := 0
    thermalInd := false, integD := 0, integQ := 0, lastDraw := 0, peakLimited := false, grantLimited := false
    voltLimited := false, lastDuties := { a := 0, b := 0, c := 0 } }

/-- The open values' defaults (Table 6-2). -/
def OpenValues.initial : OpenValues :=
  { kpD := 100, kpQ := 100, kiD := 500, kiQ := 500, starve := 8, lowWater := 4, rampMs := 200 }

/-- An envelope before FREEZE forms it (06, R117); the guarded values are DESIGN CHOICE 0 until then (log 20). -/
def Envelope.initial : Envelope :=
  { guarded := { peak := 0, continuous := 0, tau := 0, brakeMs := 0, stopMs := 0 }, opens := OpenValues.initial
    revision := 0, counter := 0, proposal := none, last := none }

/-- The Link Supervisor after reset (05, R110). -/
def LinkBlock.initial : LinkBlock :=
  { state := .draining, timer := none, supply := none, supplyMiss := 0, supplyTaken := false
    ready := Vector.replicate 8 false, wakeLevels := Vector.replicate 16 false }

/-- The Allotment Unit after reset (05, R115). -/
def Allotment.initial : Allotment :=
  { budget := 0, request := Vector.replicate 8 0, grant := Vector.replicate 8 0 }

/-- The empty mask set (07, R150). -/
def MaskSet.empty : MaskSet := { portSilent := false, starved := false, brakeFault := false, thermal := false }

/-- The Reaction Controller after reset (07, R156). -/
def ReactionBlock.initial : ReactionBlock :=
  { pendingSet := [], inService := none, held := none, lastEnded := none, mask := MaskSet.empty, latch := true
    stopLevels := Vector.replicate 16 false, untilTake := Vector.replicate 8 false }

/-- An input after reset with its debounced level (08, R164). -/
def InputBlock.initial (level : Bool) : InputBlock :=
  { level := level, flag := false, count := 0, debounce := none }

/-- A port after reset, by its link signal (09, R176; 10, R181). -/
def PortBlock.initial (signal : Bool) : PortBlock :=
  { link := if signal then .up else .down, silence := none, inbound := [], answer := none, notice := none
    sending := none, overrun := false, damaged := 0, subscribed := 0, summary := 0, pacingMs := 0, pacing := none }

/-- The machine right after a power-on reset with every discrete input pin low, no link signal and both straps low
(the pins are DESIGN CHOICE, log 19; everything else is the manual's). -/
def State.reset : State :=
  { phase := .config, safetyPort := 0, retained := { cause := .powerOn, severe := none }, resetting := .none
    consts := Constants.initial, signals := Vector.replicate 4 false, pins := Vector.replicate 16 false
    period := 0, started := false
    auth := Vector.replicate 8 AuthRecord.initial, queues := Vector.replicate 8 DemandQueue.initial
    engines := Vector.replicate 8 Engine.initial, envs := Vector.replicate 8 Envelope.initial
    link := LinkBlock.initial, allot := Allotment.initial, react := ReactionBlock.initial
    inputs := Vector.replicate 16 (InputBlock.initial false)
    ports := Vector.replicate 4 (PortBlock.initial false)
    wire := [], pending := [] }

end Sys2Proof.Machine
end

