-- ==== Sys2Proof/Machine/Bytes.lean ====
section
/-! DEFINITION. Bytes on the links (chapter 12): byte order, the check, the numbering of enumerated values, the frame
envelope, the machine-side records. -/

namespace Sys2Proof.Machine

/-- A number in `k` bytes, most significant byte first: R188 says so of two and four bytes; of three and of six the
model does the same (DEDUCED, log 16). -/
def beBytes : Nat → Nat → List Byte
  | 0, _ => []
  | k + 1, n => BitVec.ofNat 8 (n / 256 ^ k) :: beBytes k n

/-- The number that bytes spell, most significant byte first (R188). -/
def ofBytes (bs : List Byte) : Nat := bs.foldl (fun acc b => acc * 256 + b.toNat) 0

/-- A signed value in two bytes of two's complement (R188). -/
def intBytes (i : Int) : List Byte := beBytes 2 (i % 65536).toNat

/-- The signed value of a 16-bit field (R188). -/
def signed16 (n : Nat) : Int := if n < 32768 then (n : Int) else (n : Int) - 65536

/-- One bit of the check: shift, and the generator x^16 + x^12 + x^5 + 1 when the top bit leaves (R188). -/
def crcBit (r : W16) : W16 := if r.msb then (r <<< 1) ^^^ 0x1021#16 else r <<< 1

/-- One byte of the check, most significant bit first (R188). -/
def crcByte (r : W16) (b : Byte) : W16 :=
  crcBit (crcBit (crcBit (crcBit (crcBit (crcBit (crcBit (crcBit (r ^^^ ((b.setWidth 16) <<< 8)))))))))

/-- The check of a frame or record: the register starts at all ones and is not inverted (R188). -/
def crc16 (bs : List Byte) : W16 := bs.foldl crcByte 0xFFFF#16

/-- Bytes followed by their check (R188). -/
def withCheck (bs : List Byte) : List Byte := bs ++ beBytes 2 (crc16 bs).toNat

/-- The last two bytes are the check of the bytes before them (R188). -/
def checkOk (bs : List Byte) : Bool :=
  decide (2 ≤ bs.length) && decide (ofBytes (bs.drop (bs.length - 2)) = (crc16 (bs.take (bs.length - 2))).toNat)

/-- A flag field (R189). Every two-valued field of an answer (set or clear, on or off, active or inactive, ready or not
ready, yes or no) is sent as one (DESIGN CHOICE, log 33). -/
def flagByte (b : Bool) : Byte := if b then 1 else 0

/-- An optional field: a presence byte, then the field if it is present (R189, log 13). -/
def optBytes (x : Option (List Byte)) : List Byte :=
  match x with
  | none => [0]
  | some bs => 1 :: bs

/-- A list: its count in one byte, then its items (R189). Which rows of an answer are sent as such a list the manual
leaves open in part (DESIGN CHOICE, log 15). -/
def listBytes (items : List (List Byte)) : List Byte := BitVec.ofNat 8 items.length :: items.flatten

def ChState.index (x : ChState) : Nat :=
  match x with
  | .off => 0
  | .releasing => 1
  | .run => 2
  | .holding => 3
  | .ramping => 4
  | .stopping => 5
  | .tripped => 6

def LinkState.index (x : LinkState) : Nat :=
  match x with
  | .discharged => 0
  | .charging => 1
  | .settling => 2
  | .ready => 3
  | .parked => 4
  | .waking => 5
  | .draining => 6

def PortLink.index (x : PortLink) : Nat :=
  match x with
  | .down => 0
  | .up => 1
  | .silent => 2

/-- The index of a fault kind in Table 7-1. -/
def FaultKind.index (x : FaultKind) : Nat :=
  match x with
  | .supplyLost => 0
  | .linkLow => 1
  | .linkHigh => 2
  | .chargeFail => 3
  | .wakeFail => 4
  | .safeStop => 5
  | .overcurrent => 6
  | .bridgeFault => 7
  | .sampleLost => 8
  | .portSilent => 9
  | .starved => 10
  | .brakeFault => 11
  | .thermal => 12

/-- The ordinary fault kinds: the maskable ones (R133). -/
def FaultKind.ordinary (x : FaultKind) : Bool := decide (9 ≤ x.index)

/-- The link kinds (R133). -/
def FaultKind.isLink (x : FaultKind) : Bool := decide (x.index ≤ 4)

/-- The fault kind of an index of Table 7-1. -/
def FaultKind.ofIndex (n : Nat) : Option FaultKind :=
  match n with
  | 0 => some .supplyLost
  | 1 => some .linkLow
  | 2 => some .linkHigh
  | 3 => some .chargeFail
  | 4 => some .wakeFail
  | 5 => some .safeStop
  | 6 => some .overcurrent
  | 7 => some .bridgeFault
  | 8 => some .sampleLost
  | 9 => some .portSilent
  | 10 => some .starved
  | 11 => some .brakeFault
  | 12 => some .thermal
  | _ => none

/-- The place of a scope in the taking order within one index (R137): channel 0 to 7, P0 to P3. -/
def Scope.number (x : Scope) : Nat :=
  match x with
  | .channel c => c.val
  | .port p => p.val
  | .link => 0
  | .all => 0

/-- The number k of a notice kind in Table 10-1, counted from 0 (Table 12-2). -/
def NoticeKind.index (x : NoticeKind) : Nat :=
  match x with
  | .authority => 0
  | .queueLow => 1
  | .lockExpired => 2
  | .proposal => 3
  | .proposalResult => 4
  | .fault => 5
  | .linkState => 6
  | .input => 7
  | .thermal => 8
  | .safeState => 9
  | .channelState => 10
  | .started => 11

/-- The bit of a notice kind in a summary (Table 12-2). -/
def NoticeKind.bit (x : NoticeKind) : BitVec 12 := 1#12 <<< x.index

/-- The seven broadcast kinds: FAULT to STARTED (Table 10-1). -/
def broadcastKinds : BitVec 12 := 0xFE0#12

def ResetKind.index (x : ResetKind) : Nat :=
  match x with
  | .powerOn => 0
  | .line => 1
  | .commanded => 2

def ProposalEnd.index (x : ProposalEnd) : Nat :=
  match x with
  | .confirmed => 0
  | .rejected => 1
  | .cancelled => 2
  | .expired => 3
  | .withdrawn => 4

def ReactionEnd.index (x : ReactionEnd) : Nat :=
  match x with
  | .completed => 0
  | .overtaken => 1

/-- A frame with the envelope of Table 12-1: kind, payload length, payload, check. -/
def frameBytes (kind : Nat) (payload : List Byte) : List Byte :=
  withCheck (BitVec.ofNat 8 kind :: BitVec.ofNat 8 payload.length :: payload)

/-- A NOTICE frame: the summary and the last period started (Table 12-2). -/
def noticeFrame (summary : BitVec 12) (period : W32) : List Byte :=
  frameBytes 3 (beBytes 2 summary.toNat ++ beBytes 4 period.toNat)

/-- An ANSWER frame (R170, Table 12-2). -/
def answerFrame (number : W16) (status : Nat) (overrun : Bool) (fields : List Byte) : List Byte :=
  frameBytes 2 (beBytes 2 number.toNat ++ BitVec.ofNat 8 status :: flagByte overrun :: fields)

/-- A REQUEST frame as a master sends it (Table 12-2). -/
def requestFrame (f : Frame) : List Byte :=
  frameBytes 1 (beBytes 2 f.number.toNat ++ BitVec.ofNat 8 f.code :: f.fields)

/-- The frame checks of R190: a valid frame's request head and fields, or none for a damaged frame. -/
def parseFrame (bs : List Byte) : Option Frame :=
  match bs with
  | kind :: len :: n1 :: n0 :: code :: rest =>
    if len.toNat ≤ 120 ∧ 3 ≤ len.toNat ∧ bs.length = 4 + len.toNat ∧ checkOk bs = true ∧ kind = 1#8 then
      some { number := BitVec.ofNat 16 (ofBytes [n1, n0]), code := code.toNat, fields := rest.take (len.toNat - 3) }
    else none
  | _ => none

/-- A period mark (Table 12-4). -/
def periodMark (stamp : W16) : List Byte := withCheck (1#8 :: beBytes 2 stamp.toNat)

/-- A gate record (Table 12-4). -/
def gateRecord (stamp : W16) (d : Duties) (enable standby : Bool) : List Byte :=
  withCheck (3#8 :: (beBytes 2 stamp.toNat ++ beBytes 2 d.a ++ beBytes 2 d.b ++ beBytes 2 d.c ++
    [flagByte enable ||| (flagByte standby <<< 1)]))

/-- The fields of a sample record (Table 4-1). -/
structure SampleData where
  stamp    : W16
  ia       : Int
  ib       : Int
  angle    : Nat
  desat    : Bool
  overtemp : Bool
  ready    : Bool
  deriving DecidableEq, Repr

/-- A sample record that passes the frame checks of R193 (Table 12-4). -/
def parseSample (bs : List Byte) : Option SampleData :=
  match bs with
  | [kind, s1, s0, a1, a0, b1, b0, t1, t0, flags, _, _] =>
    if kind = 2#8 ∧ checkOk bs = true ∧ flags.toNat < 8 then
      some { stamp := BitVec.ofNat 16 (ofBytes [s1, s0]), ia := signed16 (ofBytes [a1, a0])
             ib := signed16 (ofBytes [b1, b0]), angle := ofBytes [t1, t0]
             desat := flags.getLsbD 0, overtemp := flags.getLsbD 1, ready := flags.getLsbD 2 }
    else none
  | _ => none

/-- A sample record as a module sends it (Table 12-4). -/
def sampleBytes (d : SampleData) : List Byte :=
  withCheck (2#8 :: (beBytes 2 d.stamp.toNat ++ intBytes d.ia ++ intBytes d.ib ++ beBytes 2 d.angle ++
    [flagByte d.desat ||| (flagByte d.overtemp <<< 1) ||| (flagByte d.ready <<< 2)]))

/-- A supply record that passes the frame checks of R193 (Table 12-4). -/
def parseSupply (bs : List Byte) : Option SupplyData :=
  match bs with
  | [kind, s1, s0, v1, v0, c1, c0, status, _, _] =>
    if kind = 4#8 ∧ checkOk bs = true ∧ ofBytes [c1, c0] ≤ 32767 ∧ status.toNat < 2 then
      some { stamp := BitVec.ofNat 16 (ofBytes [s1, s0]), voltage := ofBytes [v1, v0]
             available := ofBytes [c1, c0], mains := status.getLsbD 0 }
    else none
  | _ => none

/-- A supply record as the supply module sends it (Table 12-4). -/
def supplyBytes (d : SupplyData) : List Byte :=
  withCheck (4#8 :: (beBytes 2 d.stamp.toNat ++ beBytes 2 d.voltage ++ beBytes 2 d.available ++
    [flagByte d.mains]))

end Sys2Proof.Machine
end

