-- ==== Sys2Proof/Machine/Ops.lean ====
section
/-! DEFINITION. The named operations every command is made of: reading and writing one entry of a block, channels and
pairs, durations, handing a notice, flushing a queue, recomputing the grants, following the gate enable, moving a
channel between states. Each operation says by its record update which blocks it can change. -/

namespace Sys2Proof.Machine

/-! ### One entry of a block -/

def State.eng (s : State) (c : Chan) : Engine := vget s.engines c
def State.queue (s : State) (c : Chan) : DemandQueue := vget s.queues c
def State.auRec (s : State) (c : Chan) : AuthRecord := vget s.auth c
def State.env (s : State) (c : Chan) : Envelope := vget s.envs c
def State.port (s : State) (p : Port) : PortBlock := vget s.ports p
def State.inp (s : State) (i : Input) : InputBlock := vget s.inputs i


/-! ### Channels and pairs (01, R3, R4) -/

def State.present (s : State) (c : Chan) : Bool := vget s.consts.present c

/-- The follower of the tandem pair (0,1), (2,3) or (4,5): the odd channel of a set tandem constant. -/
def Constants.isFollower (k : Constants) (c : Chan) : Bool :=
  match c.val with
  | 1 => vget k.tandem 0
  | 3 => vget k.tandem 1
  | 5 => vget k.tandem 2
  | _ => false

/-- The leader of a tandem pair: the even channel of a set tandem constant. -/
def Constants.isLeader (k : Constants) (c : Chan) : Bool :=
  match c.val with
  | 0 => vget k.tandem 0
  | 2 => vget k.tandem 1
  | 4 => vget k.tandem 2
  | _ => false

/-- The channel whose engine holds the group's state: a follower's leader, any other channel itself (R4). -/
def Constants.lead (k : Constants) (c : Chan) : Chan :=
  if k.isFollower c then ⟨c.val - 1, by omega⟩ else c

/-- The channels of the group a leader or single channel stands for, leader first. -/
def Constants.group (k : Constants) (l : Chan) : List Chan :=
  if k.isLeader l then [l, ⟨(l.val + 1) % 8, by omega⟩] else [l]

def State.lead (s : State) (c : Chan) : Chan := s.consts.lead c
def State.group (s : State) (l : Chan) : List Chan := s.consts.group l

/-- A present channel that is not a tandem follower: it has an authority record, a queue and an envelope (R24). -/
def State.served (s : State) (c : Chan) : Bool := s.present c && !s.consts.isFollower c

/-- The channel state, which a pair holds under its leader (R4). -/
def State.chState (s : State) (c : Chan) : ChState := (s.eng (s.lead c)).state

/-- RELEASING or RUN: the running states of chapters 2 and 3. -/
def ChState.running (x : ChState) : Bool :=
  match x with
  | .releasing | .run => true
  | .off | .holding | .ramping | .stopping | .tripped => false

/-- The states in which the bridge may switch (R5). -/
def ChState.driving (x : ChState) : Bool :=
  match x with
  | .releasing | .run | .holding | .ramping | .stopping => true
  | .off | .tripped => false

/-- OFF or TRIPPED: the states LINK_PARK and LINK_DOWN require (05, R107, R108). -/
def State.allIdle (s : State) : Bool := allChans.all fun c => !s.present c || !(s.chState c).driving

/-! ### Ranks, routes, time -/

def State.rank (s : State) (p : Port) : Nat := vget s.consts.rank p

/-- The part is in CONFIG. -/
def State.inConfig (s : State) : Bool := decide (s.phase = .config)

/-- A duration in periods: milliseconds times the periods per millisecond (Table 0-3; the product is whole). -/
def Constants.periods (k : Constants) (ms : Nat) : Nat := ms * Config.periodsPerMs k.periodCode

def State.periods (s : State) (ms : Nat) : Nat := s.consts.periods ms

/-- The period stamps are judged against: the last period started, or 2^32 − 1 before the first (03, R53). -/
def State.judgedPeriod (s : State) : W32 := if s.started then s.period else BitVec.allOnes 32

/-- The low 16 bits of the last period started. -/
def State.stamp16 (s : State) : W16 := s.period.setWidth 16

/-- The lookup of a route tag from a port: the first entry that is valid, has the tag and lists the port (09, R172). -/
def Constants.lookup (k : Constants) (tag : Nat) (p : Port) : Option Chan :=
  (k.routes.toList.find? fun r => r.valid && decide (r.tag = tag) && r.ports.getLsbD p.val).map (·.chan)

/-! ### Notices (10, R177): a handed notice adds its kind to summaries; the frame is formed when the command ends -/

def PortBlock.note (k : NoticeKind) (b : PortBlock) : PortBlock := { b with summary := b.summary ||| k.bit }

def PortBlock.subscribes (k : NoticeKind) (b : PortBlock) : Bool := b.subscribed.getLsbD k.index

/-- A directed notice. -/
def handTo (p : Port) (k : NoticeKind) (s : State) : State :=
  { s with ports := vset s.ports p ((s.port p).note k) }

/-- A broadcast notice: to every port whose subscription set holds the kind. -/
def broadcast (k : NoticeKind) (s : State) : State :=
  { s with ports := vmap allPorts (fun _ b => if b.subscribes k then b.note k else b) s.ports }

/-! ### Queues -/

/-- A flush: every entry is removed and nothing is counted as expired (03, R63). -/
def flushQueue (c : Chan) (s : State) : State :=
  { s with queues := vset s.queues c { s.queue c with entries := [] } }

/-- The flush of every present channel's queue by a link or SAFE_STOP reaction (07, R138, R141). -/
def flushAll (s : State) : State :=
  { s with queues := vmap allChans (fun c q => if s.present c then { q with entries := [] } else q) s.queues }

/-! ### The allotment (05, R113) -/

/-- First pass: the smallest of request, reserve and what is left. -/
def grantFirst (k : Constants) (request : Vector Nat 8) : List Chan → Nat → Vector Nat 8 → Nat × Vector Nat 8
  | [], avail, g => (avail, g)
  | c :: rest, avail, g =>
    let x := min (min (vget request c) (vget k.reserve c)) avail
    grantFirst k request rest (avail - x) (vset g c x)

/-- Second pass: the smaller of what is still requested and what is left. -/
def grantSecond (request : Vector Nat 8) : List Chan → Nat → Vector Nat 8 → Nat × Vector Nat 8
  | [], avail, g => (avail, g)
  | c :: rest, avail, g =>
    let x := min (vget request c - vget g c) avail
    grantSecond request rest (avail - x) (vset g c (vget g c + x))

/-- The grants of a recompute. -/
def grantsOf (k : Constants) (budget : Nat) (request : Vector Nat 8) : Vector Nat 8 :=
  let first := grantFirst k request k.order budget (Vector.replicate 8 0)
  (grantSecond request k.order first.1 first.2).2

/-- A recompute replaces every grant (R113). -/
def recompute (s : State) : State :=
  { s with allot := { s.allot with grant := grantsOf s.consts s.allot.budget s.allot.request } }

/-- The budget takes a new value; any change is followed by a recompute (R111). -/
def setBudget (b : Nat) (s : State) : State :=
  if b = s.allot.budget then s else recompute { s with allot := { s.allot with budget := b } }

/-- The budget of a link state: in READY the smaller of LINK_RATING and the available current of the last supply
record, else 0 (R111). -/
def budgetFor (k : Constants) (l : LinkBlock) : Nat :=
  match l.state with
  | .ready =>
    match l.supply with
    | some d => min k.linkRating d.available
    | none => 0
  | .discharged | .charging | .settling | .parked | .waking | .draining => 0

/-- A channel's request takes a new value, and the grants are recomputed (R112, R113). -/
def setRequest (c : Chan) (r : Nat) (s : State) : State :=
  recompute { s with allot := { s.allot with request := vset s.allot.request c r } }

/-! ### Gate records and the gate enable (01, R5; 04, R87) -/

/-- Standby is on while the link is PARKED (R87). -/
def State.standby (s : State) : Bool := decide (s.link.state = .parked)

/-- A gate record leaves an engine; its duties are the last sent (R74, R87). -/
def sendGate (c : Chan) (stamp : W16) (d : Duties) (enable : Bool) (s : State) : State :=
  { s with
    engines := vset s.engines c { s.eng c with lastDuties := d }
    wire := .bridge c (gateRecord stamp d enable s.standby) :: s.wire }

def Duties.zero : Duties := { a := 0, b := 0, c := 0 }

/-- The gate enable a channel's two conditions give (R5). -/
def State.gateValue (s : State) (c : Chan) : Bool :=
  s.present c && (s.chState c).driving && decide (s.link.state = .ready)

/-- The engine follows its two conditions: at a change the value is written, the request becomes 0 and the grants are
recomputed; at a change to off the last draw becomes 0 and a cut record is sent (R5, R84, R87, R112). R87 sends a cut
record at every change to off; R3, R23 and R91 put the first gate record after a reset at the first good sample. That a
cut record is sent before that sample too is the model's choice (DESIGN CHOICE, log 36). -/
def gateSync (c : Chan) (s : State) : State :=
  let v := s.gateValue c
  let e := s.eng c
  if e.gateEnable = v then s
  else if v then
    setRequest c 0 { s with engines := vset s.engines c { e with gateEnable := true } }
  else
    setRequest c 0 (sendGate c s.stamp16 Duties.zero false
      { s with engines := vset s.engines c { e with gateEnable := false, lastDraw := 0 } })

def gateSyncs : List Chan → State → State
  | [], s => s
  | c :: rest, s => gateSyncs rest (gateSync c s)

/-! ### Moves of a channel (01, R7 to R14) -/

/-- A handover record is removed; the Reaction Controller is told by its caller's taking (02, R45). -/
def dropHandover (l : Chan) (s : State) : State :=
  { s with auth := vset s.auth l { s.auRec l with handover := none } }

/-- The change of a group's state in the leader's engine, with everything every change brings: the running timer is
replaced, each gate enable follows, a handover is removed on leaving RELEASING and RUN, CHANNEL_STATE is handed
(R2, R4, R5, R7, R45). -/
def moveGroup (l : Chan) (new : ChState) (timer : Option Nat) (s : State) : State :=
  let old := (s.eng l).state
  let s1 := { s with engines := vset s.engines l { s.eng l with state := new, timer := timer, holdFault := false } }
  let s2 := gateSyncs (s.group l) s1
  let s3 := if old.running && !new.running then dropHandover l s2 else s2
  broadcast .channelState s3

/-- The zero demand: iq, split and vff 0 and the id target kept (R8). Its id is the id target, as a demand held before
any take carries it (R12, R18; 03, R51; DEDUCED, log 7). -/
def Engine.zeroDemand (e : Engine) : Demand := { iq := 0, id := e.idTarget, split := 0, vff := 0 }

/-- Entry to OFF (R8). -/
def toOff (l : Chan) (s : State) : State :=
  moveGroup l .off none { s with engines := vset s.engines l { s.eng l with active := (s.eng l).zeroDemand } }

/-- Entry to HOLDING: the queue is flushed, the active demand held, the brake timer starts afresh (R11). -/
def toHolding (l : Chan) (s : State) : State :=
  moveGroup l .holding (some (s.periods (s.env l).guarded.brakeMs)) (flushQueue l s)

/-- The ramp or stop start is the demand applied at entry; its count is recorded (R12, R13). -/
def recordStart (l : Chan) (n : Nat) (s : State) : State :=
  { s with engines := vset s.engines l { s.eng l with rampStart := (s.eng l).active, rampTotal := n } }

/-- Entry to RAMPING (R12). -/
def toRamping (l : Chan) (s : State) : State :=
  let n := s.periods (s.env l).opens.rampMs
  moveGroup l .ramping (some n) (recordStart l n s)

/-- Entry to STOPPING (R13). -/
def toStopping (l : Chan) (s : State) : State :=
  let n := s.periods (s.env l).guarded.stopMs
  moveGroup l .stopping (some n) (flushQueue l (recordStart l n s))

/-- The trip record is filled on each channel of the group (R14). -/
def fillTrips (r : TripRecord) : List Chan → State → State
  | [], s => s
  | c :: rest, s => fillTrips r rest { s with engines := vset s.engines c { s.eng c with trip := some r } }

/-- Entry to TRIPPED: the queue is flushed, the timer abandoned, the gates cut, the trip record filled (R14). -/
def toTripped (l : Chan) (kind : FaultKind) (detail : Nat) (s : State) : State :=
  let r : TripRecord := { kind := kind, period := s.period, detail := detail }
  moveGroup l .tripped none (flushQueue l (fillTrips r (s.group l) s))

/-- Entry to RELEASING by ENGAGE: the integrators of each channel of the group are cleared (R18). -/
def clearIntegrators : List Chan → State → State
  | [], s => s
  | c :: rest, s =>
    clearIntegrators rest { s with engines := vset s.engines c { s.eng c with integD := 0, integQ := 0 } }

/-- Entry to RELEASING (R9, R18); the gap count is reset and with it the starve indication (03, R68). -/
def toReleasing (l : Chan) (s : State) : State :=
  let s1 := clearIntegrators (s.group l) s
  let s2 := { s1 with queues := vset s1.queues l { s1.queue l with gap := 0, starved := false } }
  moveGroup l .releasing (some (s.periods (s.env l).guarded.brakeMs)) s2

end Sys2Proof.Machine
end

