-- ==== Sys2Proof/Machine/Authority.lean ====
section
/-! DEFINITION. What changes an authority record (02, R26 to R47) and what ends a proposal (06, R125). -/

namespace Sys2Proof.Machine

/-- The handover field after a change of holder (R36, steps 5 and 6). -/
def nextHandover (s : State) (l : Chan) (new : Option Port) : Option Handover :=
  match new with
  | none => none
  | some n =>
    if (s.eng l).state.running then
      some { previous := (s.auRec l).holder, newHolder := n, left := s.periods s.consts.handoverMs }
    else (s.auRec l).handover

/-- The record after a change of holder: holder and rank, the epoch, the lock, the handover (R36, steps 1, 2, 4 to 6). -/
def heldBy (s : State) (l : Chan) (new : Option Port) : AuthRecord :=
  { s.auRec l with
    holder := new, holderRank := new.map s.rank, epoch := (s.auRec l).epoch + 1, lock := none
    handover := nextHandover s l new }

/-- The queue's flush at a change of holder, which resets the gap count and the starve indication (03, R63, R68). -/
def DemandQueue.passed (q : DemandQueue) : DemandQueue := { q with entries := [], gap := 0, starved := false }

/-- A change of holder (R36). A running channel whose holder becomes absent goes to HOLDING in the same action. The
messages to the Reaction Controller are its caller's taking. -/
def changeHolder (l : Chan) (new : Option Port) (s : State) : State :=
  let s1 := { s with auth := vset s.auth l (heldBy s l new), queues := vset s.queues l (s.queue l).passed }
  if new = none && (s.eng l).state.running then toHolding l s1 else s1

/-- The head of the waiting list leaves it and becomes the holder, or the holder becomes absent (R39). -/
def installHead (l : Chan) (s : State) : State :=
  match (s.auRec l).waiting with
  | [] => changeHolder l none s
  | h :: rest => changeHolder l (some h.port) { s with auth := vset s.auth l { s.auRec l with waiting := rest } }

/-- The AUTHORITY notice to an installed head (R37). -/
def noticeHolder (l : Chan) (s : State) : State :=
  match (s.auRec l).holder with
  | some h => handTo h .authority s
  | none => s

/-- The head is installed over a holder that loses the channel without asking, with the notices to both (R37). -/
def displace (l : Chan) (old : Port) (s : State) : State :=
  noticeHolder l (handTo old .authority (installHead l s))

/-- The head outranks the holder (R41, R42). -/
def headOutranks (r : AuthRecord) : Bool :=
  match r.waiting, r.holderRank with
  | h :: _, some k => decide (k < h.rank)
  | _, _ => false

/-- The head preempts if its rank is above the holder's, at UNLOCK and at lock expiry (R41, R42). -/
def preemptByHead (l : Chan) (s : State) : State :=
  if headOutranks (s.auRec l) then
    match (s.auRec l).holder with
    | some old => displace l old s
    | none => s
  else s

/-- A claim joins the waiting list at its rank position (R35). -/
def insertClaim (x : Claim) : List Claim → List Claim
  | [] => [x]
  | y :: rest => if y.rank < x.rank then x :: y :: rest else y :: insertClaim x rest

/-- The position of a port in a waiting list, the head being 1 (R27). -/
def waitPosition (p : Port) : List Claim → Option Nat
  | [] => none
  | y :: rest => if y.port = p then some 1 else (waitPosition p rest).map (· + 1)

/-- The revocation of one channel's holder for STARVED, under the epoch reported (R46). -/
def revokeStarved (l : Chan) (epoch : Option W16) (s : State) : State :=
  match (s.auRec l).holder with
  | some old => if some (s.auRec l).epoch = epoch then displace l old s else s
  | none => s

/-- The revocation of one port from one record for PORT_SILENT (R47). -/
def revokePortFrom (p : Port) (l : Chan) (s : State) : State :=
  let r := s.auRec l
  let s1 := { s with auth := vset s.auth l { r with waiting := r.waiting.filter fun x => decide (x.port ≠ p) } }
  if r.holder = some p then displace l p s1 else s1

def revokePortFroms (p : Port) : List Chan → State → State
  | [], s => s
  | l :: rest, s => revokePortFroms p rest (if s.served l then revokePortFrom p l s else s)

/-! ### The end of a proposal (06, R125) -/

/-- The notices of Table 6-3. -/
def proposalNotices (e : ProposalEnd) (proposer : Port) (s : State) : State :=
  match e with
  | .confirmed | .rejected => handTo proposer .proposalResult s
  | .cancelled => handTo s.safetyPort .proposal s
  | .expired | .withdrawn => handTo s.safetyPort .proposal (handTo proposer .proposalResult s)

/-- A proposal ends: it is removed, the last outcome is written and the notices are handed (R125). -/
def endProposal (l : Chan) (e : ProposalEnd) (s : State) : State :=
  match (s.env l).proposal with
  | none => s
  | some pr =>
    proposalNotices e pr.proposer
      { s with envs := vset s.envs l { s.env l with
                 proposal := none
                 last := some { proposer := pr.proposer, number := pr.number, outcome := e, period := s.period } } }

/-- The withdrawal of one port's proposals for PORT_SILENT (R130). -/
def withdrawProposals (p : Port) : List Chan → State → State
  | [], s => s
  | l :: rest, s =>
    withdrawProposals p rest
      (if (s.env l).proposal.any (fun pr => decide (pr.proposer = p)) then endProposal l .withdrawn s else s)

end Sys2Proof.Machine
end

