-- ==== Sys2Proof/Machine/Reactions.lean ====
section
/-! DEFINITION. The Reaction Controller (chapter 7): the pending set, the taking, each reaction, the trip reaction,
departures from STOPPING, the overtaking, the safe-stop detection. -/

namespace Sys2Proof.Machine

/-! ### The pending set (R134) -/

/-- The place of a key in the taking order: by index, then by scope (R137). -/
def keyOrder (k : FaultKind) (sc : Scope) : Nat := k.index * 16 + sc.number

/-- A report merges into its entry, or joins the set at its place in the taking order (R134). -/
def insertPending (x : PendingEntry) : List PendingEntry → List PendingEntry
  | [] => [x]
  | y :: rest =>
    if y.kind = x.kind ∧ y.scope = x.scope then
      { y with count := min 255 (y.count + x.count), epoch := if x.epoch.isSome then x.epoch else y.epoch } :: rest
    else if keyOrder x.kind x.scope < keyOrder y.kind y.scope then x :: y :: rest
    else y :: insertPending x rest

/-- A report enters the pending set, or merges there (R134). -/
def pendReport (k : FaultKind) (sc : Scope) (epoch : Option W16) (s : State) : State :=
  { s with react := { s.react with
      pendingSet := insertPending { kind := k, scope := sc, first := s.period, count := 1, epoch := epoch }
        s.react.pendingSet } }

/-! ### Masks and deferral (R145, R150) -/

def MaskSet.has (m : MaskSet) (k : FaultKind) : Bool :=
  match k with
  | .portSilent => m.portSilent
  | .starved => m.starved
  | .brakeFault => m.brakeFault
  | .thermal => m.thermal
  | .supplyLost | .linkLow | .linkHigh | .chargeFail | .wakeFail | .safeStop => false
  | .overcurrent | .bridgeFault | .sampleLost => false

/-- A channel's handover holds back the ordinary reactions in its scope: it is open, or its deadline was taken before the
take that falls on the same period start, and that take is still to come (R145; 02, R43, log 31). -/
def State.handoverHolds (s : State) (l : Chan) : Bool := (s.auRec l).handover.isSome || vget s.react.untilTake l

/-- A handover holds back the reactions on a channel within the scope (R145). -/
def State.deferred (s : State) (sc : Scope) : Bool :=
  match sc with
  | .channel c => s.handoverHolds (s.lead c)
  | .port p => allChans.any fun c => decide ((s.auRec c).holder = some p) && s.handoverHolds c
  | .link | .all => false

/-- Which entries the taking may take: every severe one; an ordinary one unmasked and not deferred (R137). -/
def State.takeable (s : State) (x : PendingEntry) : Bool :=
  !x.kind.ordinary || (!s.react.mask.has x.kind && !s.deferred x.scope)

/-! ### Lasting reactions (R136, R138, R139, R141, R142) -/

def putInService (x : PendingEntry) (s : State) : State :=
  { s with react := { s.react with
      inService := some { kind := x.kind, scope := x.scope, first := x.first, taken := s.period } } }

/-- The last severe fault of the Retained Record (R153). -/
def writeSevere (k : FaultKind) (sc : Scope) (s : State) : State :=
  { s with retained := { s.retained with severe := some { kind := k, scope := sc, period := s.period } } }

/-- A lasting reaction ends: nothing is in service and the last ended record is written (R136, R139, R141, R143). -/
def endInService (k : FaultKind) (sc : Scope) (e : ReactionEnd) (s : State) : State :=
  { s with react := { s.react with
      inService := none
      lastEnded := some { kind := k, scope := sc, ending := e, period := s.period } } }

/-- A present held repeat becomes the entry {SAFE_STOP, all} of the pending set (R142). -/
def releaseHeld (s : State) : State :=
  match s.react.held with
  | none => s
  | some h =>
    { s with react := { s.react with
        held := none
        pendingSet := insertPending { kind := .safeStop, scope := .all, first := h.first, count := h.count, epoch := none }
          s.react.pendingSet } }

/-- The SAFE_STOP reaction ends (R141, R142, R143). -/
def endSafeStop (e : ReactionEnd) (s : State) : State :=
  releaseHeld (broadcast .safeState (endInService .safeStop .all e s))

/-- A link reaction ends as COMPLETED (R139). -/
def endLinkReaction (k : FaultKind) (s : State) : State :=
  broadcast .linkState (endInService k .link .completed s)

/-- No present channel is in STOPPING (R141). -/
def State.noneStopping (s : State) : Bool := allChans.all fun c => !s.present c || decide (s.chState c ≠ .stopping)

/-- Taking a link reaction; it ends at its own taking if the link is DISCHARGED (R138, R139). -/
def beginLinkReaction (x : PendingEntry) (s : State) : State :=
  let s1 := writeSevere x.kind .link (broadcast .linkState (broadcast .fault (flushAll (putInService x s))))
  if s1.link.state = .discharged then endLinkReaction x.kind s1 else s1

/-- Taking a SAFE_STOP reaction; it ends at its own taking if no channel is in STOPPING (R141). -/
def beginSafeStop (x : PendingEntry) (s : State) : State :=
  let s1 := writeSevere .safeStop .all (broadcast .safeState (flushAll (putInService x s)))
  if s1.noneStopping then endSafeStop .completed s1 else s1

/-! ### Ordinary reactions (R146 to R149) -/

def portSilentReaction (p : Port) (s : State) : State :=
  broadcast .fault (withdrawProposals p allChans (revokePortFroms p allChans s))

def starvedReaction (c : Chan) (epoch : Option W16) (s : State) : State :=
  broadcast .fault (revokeStarved (s.lead c) epoch s)

def brakeFaultReaction (c : Chan) (s : State) : State :=
  broadcast .fault (flushQueue (s.lead c)
    { s with engines := vset s.engines c { s.eng c with brakeMark := true } })

def thermalReaction (c : Chan) (s : State) : State :=
  broadcast .thermal { s with engines := vset s.engines c { s.eng c with derate := true } }

/-- The reaction of one entry that has left the pending set. -/
def performReaction (x : PendingEntry) (s : State) : State :=
  match x.kind, x.scope with
  | .safeStop, _ => beginSafeStop x s
  | .portSilent, .port p => portSilentReaction p s
  | .starved, .channel c => starvedReaction c x.epoch s
  | .brakeFault, .channel c => brakeFaultReaction c s
  | .thermal, .channel c => thermalReaction c s
  | .supplyLost, _ => beginLinkReaction x s
  | .linkLow, _ => beginLinkReaction x s
  | .linkHigh, _ => beginLinkReaction x s
  | .chargeFail, _ => beginLinkReaction x s
  | .wakeFail, _ => beginLinkReaction x s
  | _, _ => s

/-! ### The taking (R137) -/

/-- The first entry that the test takes, and the set without it. -/
def takeFirst (test : PendingEntry → Bool) : List PendingEntry → Option (PendingEntry × List PendingEntry)
  | [] => none
  | x :: rest =>
    if test x then some (x, rest)
    else
      match takeFirst test rest with
      | none => none
      | some (y, others) => some (y, x :: others)

def withPending (l : List PendingEntry) (s : State) : State := { s with react := { s.react with pendingSet := l } }

/-- The taking, entry after entry, until a reaction stays in service or no entry is takeable. -/
def takeUpTo : Nat → State → State
  | 0, s => s
  | n + 1, s =>
    match s.react.inService with
    | some _ => s
    | none =>
      match takeFirst s.takeable s.react.pendingSet with
      | none => s
      | some (x, others) => takeUpTo n (performReaction x (withPending others s))

/-- The Reaction Controller takes pending reactions (R137). Each entry leaves the set once, and at most one held
repeat joins it, so two more rounds than entries are enough. -/
def takeReactions (s : State) : State := takeUpTo (s.react.pendingSet.length + 2) s

/-! ### Reports -/

/-- An ordinary report (R144). -/
def reportOrdinary (k : FaultKind) (sc : Scope) (epoch : Option W16) (s : State) : State :=
  takeReactions (pendReport k sc epoch s)

/-- A report of a link kind (R138, R143): a SAFE_STOP reaction in service is overtaken first. -/
def reportLink (k : FaultKind) (s : State) : State :=
  match s.react.inService with
  | some i =>
    if i.kind = .safeStop then takeReactions (pendReport k .link none (endSafeStop .overtaken s))
    else pendReport k .link none s
  | none => takeReactions (pendReport k .link none s)

/-- The trip reaction, at once and outside the pending set (R135). -/
def tripReaction (k : FaultKind) (c : Chan) (s : State) : State :=
  writeSevere k (.channel c) (broadcast .fault (flushQueue (s.lead c) s))

/-- An engine reports a departure from STOPPING (R141). -/
def reportDeparture (s : State) : State :=
  match s.react.inService with
  | some i => if i.kind = .safeStop && s.noneStopping then takeReactions (endSafeStop .completed s) else s
  | none => s

/-- The Link Supervisor reports DISCHARGED: a link reaction in service completes (R139). -/
def reportDischarged (s : State) : State :=
  match s.react.inService with
  | some i => if i.kind.isLink then takeReactions (endLinkReaction i.kind s) else s
  | none => s

/-! ### Trips (01, R14) -/

/-- A trip kind detected on a channel: nothing if its group is in TRIPPED already; else entry to TRIPPED, the trip
report with its reaction, and, out of STOPPING, the departure (log 10 for their order). -/
def detectTrip (k : FaultKind) (c : Chan) (detail : Nat) (s : State) : State :=
  let l := s.lead c
  match (s.eng l).state with
  | .tripped => s
  | .stopping =>
    let s1 := takeReactions (toTripped l k detail s)
    if Config.departureFirst then tripReaction k c (reportDeparture s1) else reportDeparture (tripReaction k c s1)
  | .off | .releasing | .run | .holding | .ramping => tripReaction k c (takeReactions (toTripped l k detail s))

/-! ### The safe stop (R140, R141; 01, R16) -/

/-- One group's action at a safe-stop assertion (Table 1-4). A handover that it ends frees its deferred reactions to
the taking that follows the report, ahead of which the SAFE_STOP entry is taken (R137, R141, log 12). -/
def assertStopOn (l : Chan) (s : State) : State :=
  match (s.eng l).state with
  | .releasing | .run | .holding | .ramping =>
    match s.consts.category with
    | .immediate => toOff l s
    | .ramped => toStopping l s
  | .off | .stopping | .tripped => s

def assertStops : List Chan → State → State
  | [], s => s
  | l :: rest, s => assertStops rest (if s.served l then assertStopOn l s else s)

/-- How a SAFE_STOP report was handled (R154). -/
inductive StopHandling where
  | taken
  | heldRepeat
  | pended
  deriving DecidableEq, Repr

def StopHandling.index (x : StopHandling) : Nat :=
  match x with
  | .taken => 0
  | .heldRepeat => 1
  | .pended => 2

/-- The held repeat is created, or counts one more (R142). -/
def holdRepeat (s : State) : State :=
  { s with react := { s.react with
      held := match s.react.held with
        | none => some { first := s.period, count := 1 }
        | some h => some { h with count := min 255 (h.count + 1) } } }

/-- The handling of the SAFE_STOP report by the Reaction Controller's state (R141, step 3). -/
def handleStopReport (s : State) : State × StopHandling :=
  match s.react.inService with
  | none => (takeReactions (pendReport .safeStop .all none s), .taken)
  | some i =>
    if i.kind = .safeStop then (holdRepeat s, .heldRepeat) else (pendReport .safeStop .all none s, .pended)

def setLatch (b : Bool) (s : State) : State := { s with react := { s.react with latch := b } }

/-- A SAFE_STOP detection: the latch, the assertion, the report (R141). -/
def detectSafeStop (s : State) : State × StopHandling := handleStopReport (assertStops allChans (setLatch true s))

end Sys2Proof.Machine
end

