-- ==== Sys2Proof/Machine/LinkOps.lean ====
section
/-! DEFINITION. The Link Supervisor (chapter 5): changes of link state, the wake, link faults, supply records. -/

namespace Sys2Proof.Machine

/-- The timer a link state starts at entry (Table 5-2, R97, R98, R101). -/
def linkTimerOf (k : Constants) (x : LinkState) : Option Nat :=
  match x with
  | .charging => some (k.periods k.chargeLimitMs)
  | .settling => some (k.periods (Config.settleMs k.settleCode))
  | .waking => some (k.periods Config.wakeLimitMs)
  | .discharged | .ready | .parked | .draining => none

/-- The link state and its timer change, and every gate enable follows (R95; 01, R5). -/
def enterLink (x : LinkState) (s : State) : State :=
  gateSyncs allChans { s with link := { s.link with state := x, timer := linkTimerOf s.consts x } }

/-- What a new link state is handed to, in OPERATING: the Notice Unit, the Reaction Controller, the Allotment Unit (R95). -/
def handLinkState (s : State) : State :=
  if s.inConfig then s
  else
    let s1 := broadcast .linkState s
    let s2 := if s1.link.state = .discharged then reportDischarged s1 else s1
    setBudget (budgetFor s2.consts s2.link) s2

/-- A change of link state that is not a link fault (R95). -/
def changeLink (x : LinkState) (s : State) : State := handLinkState (enterLink x s)

/-- The wake condition: every present channel holds its module as ready (R101). -/
def State.wakeCondition (s : State) : Bool := allChans.all fun c => !s.present c || vget s.link.ready c

/-- In WAKING, when the wake condition holds, the link moves to READY (R101). -/
def judgeWake (s : State) : State :=
  if s.link.state = .waking && s.wakeCondition then changeLink .ready s else s

/-- A wake moves a PARKED link to WAKING, which judges the wake condition at entry; in any other state it changes
nothing (R101, R108). -/
def wakeLink (s : State) : State := if s.link.state = .parked then judgeWake (changeLink .waking s) else s

/-- The link voltage of the last supply record, 0 before the first (R92, R103). -/
def State.vlink (s : State) : Nat :=
  match s.link.supply with
  | some d => d.voltage
  | none => 0

/-- The engines are told that the link has left READY by a fault: each driving group goes to TRIPPED with the link
kind, without a trip report and without a departure report (01, R15; 07, R141). A handover that this ends frees its
deferred reactions to the taking that follows the report of the fault, ahead of which the link reaction is taken (R103;
07, R137, R138, log 12). -/
def tripDriving (k : FaultKind) : List Chan → State → State
  | [], s => s
  | l :: rest, s =>
    tripDriving k rest
      (if s.served l && (s.eng l).state.driving then toTripped l k s.vlink s else s)

/-- A link fault: the four steps of R103; in DRAINING only the report is made. -/
def linkFault (k : FaultKind) (s : State) : State :=
  if s.link.state = .draining then reportLink k s
  else
    let s1 := enterLink .draining s
    let s2 := if s.link.state = .ready then tripDriving k allChans s1 else s1
    reportLink k (handLinkState s2)

/-- The level checks for link faults (R94). -/
def levelFault (k : Constants) (x : LinkState) (voltage : Nat) : Option FaultKind :=
  match x with
  | .ready | .parked | .waking =>
    if voltage < k.failLevel then some .linkLow else if k.highLevel < voltage then some .linkHigh else none
  | .charging | .settling => if k.highLevel < voltage then some .linkHigh else none
  | .discharged | .draining => none

/-- The level test of the present link state (R97, R98, R102). -/
def levelTest (voltage : Nat) (s : State) : State :=
  match s.link.state with
  | .charging => if s.consts.readyLevel ≤ voltage then changeLink .settling s else s
  | .settling => if voltage < s.consts.readyLevel then changeLink .charging s else s
  | .draining => if voltage < s.consts.safeLevel then changeLink .discharged s else s
  | .discharged | .ready | .parked | .waking => s

/-- Step 4 of R92: the available current is handed on in READY, and a change of mains present is announced. -/
def supplyStep4 (before : Option SupplyData) (d : SupplyData) (s : State) : State :=
  let s1 := if s.link.state = .ready then setBudget (min s.consts.linkRating d.available) s else s
  match before with
  | some b => if b.mains ≠ d.mains then broadcast .linkState s1 else s1
  | none => s1

/-- Step 1 of R92: the record becomes the last supply record; from OPERATING onward the miss count is reset. -/
def keepSupply (d : SupplyData) (s : State) : State :=
  { s with link := { s.link with
      supply := some d, supplyTaken := true
      supplyMiss := if s.inConfig then s.link.supplyMiss else 0 } }

/-- A taken supply record (R92). -/
def takeSupply (d : SupplyData) (s : State) : State :=
  let s1 := keepSupply d s
  if s.inConfig then levelTest d.voltage s1
  else
    match levelFault s1.consts s1.link.state d.voltage with
    | some k => linkFault k s1
    | none => supplyStep4 s.link.supply d (levelTest d.voltage s1)

/-- A record with the stamp of the last one taken is a repeat (R92). -/
def isRepeat (d : SupplyData) (s : State) : Bool := s.link.supply.any fun b => decide (b.stamp = d.stamp)

/-- A supply record arrives on SL: it must pass the frame checks and be no repeat (R92; 12, R193). -/
def receiveSupply (bytes : List Byte) (s : State) : State :=
  match parseSupply bytes with
  | none => s
  | some d => if isRepeat d s then s else takeSupply d s

/-- The Link Supervisor's work at a period start (R93); `first` is the first period start after FREEZE. -/
def supplyCheck (first : Bool) (s : State) : State :=
  let taken := s.link.supplyTaken
  let s1 := { s with link := { s.link with supplyTaken := false } }
  if first || taken then s1
  else if s.link.supplyMiss < 4 then
    let s2 := { s1 with link := { s1.link with supplyMiss := s.link.supplyMiss + 1 } }
    if s.link.supplyMiss + 1 = 4 then linkFault .supplyLost s2 else s2
  else s1

/-- The expiry of the charge timer (R97). -/
def chargeExpiry (s : State) : State :=
  if s.link.state = .charging && decide (s.link.timer = some 0) then linkFault .chargeFail s else s

/-- The expiry of the settle timer (R98). -/
def settleExpiry (s : State) : State :=
  if s.link.state = .settling && decide (s.link.timer = some 0) then changeLink .ready s else s

/-- The expiry of the wake timer (R101). -/
def wakeExpiry (s : State) : State :=
  if s.link.state = .waking && decide (s.link.timer = some 0) then linkFault .wakeFail s else s

/-- An engine reports a change of its module's readiness (04, R73; R101). -/
def reportReady (c : Chan) (b : Bool) (s : State) : State :=
  judgeWake { s with link := { s.link with ready := vset s.link.ready c b } }

end Sys2Proof.Machine
end

