-- ==== Sys2Proof/Machine/Inputs.lean ====
section
/-! DEFINITION. The Input Block (chapter 8): the pin by its polarity, the debounced level, deliveries, the debounce
count. -/

namespace Sys2Proof.Machine

def State.inputConfig (s : State) (i : Input) : InputConfig := vget s.consts.inputs i

/-- The level at the pin, judged by the polarity (R157). -/
def Polarity.activeAt (x : Polarity) (high : Bool) : Bool :=
  match x with
  | .activeHigh => high
  | .activeLow => !high

def State.activeAtPin (s : State) (i : Input) : Bool := (s.inputConfig i).polarity.activeAt (vget s.pins i)

/-- The receiver named by a binding records the level delivered (R160). -/
def recordLevel (b : Binding) (i : Input) (level : Bool) (s : State) : State :=
  match b with
  | .none => s
  | .safeStop => { s with react := { s.react with stopLevels := vset s.react.stopLevels i level } }
  | .brakeFb c =>
    { s with engines := vset s.engines c { s.eng c with feedback := vset (s.eng c).feedback i level } }
  | .wake => { s with link := { s.link with wakeLevels := vset s.link.wakeLevels i level } }

/-- What a delivered change to active does at its receiver, from FREEZE on: a SAFE_STOP detection or a wake (R160). -/
def actOnActive (b : Binding) (s : State) : State :=
  match b with
  | .safeStop => if s.inConfig then s else (detectSafeStop s).1
  | .wake => wakeLink s
  | .none | .brakeFb _ => s

/-- A delivery that reports a level and is not a change: at a binding write, at FREEZE, at the end of a reset (R160, R164). -/
def deliverLevel (i : Input) (s : State) : State := recordLevel (s.inputConfig i).binding i (s.inp i).level s

def deliverLevels : List Input → State → State
  | [], s => s
  | i :: rest, s => deliverLevels rest (deliverLevel i s)

/-- The input's own part of a change of its debounced level: a change to active in OPERATING sets the flag and counts
(R159). -/
def InputBlock.changed (b : InputBlock) (level operating : Bool) : InputBlock :=
  if level && operating then { level := level, flag := true, count := min 255 (b.count + 1), debounce := none }
  else { b with level := level, debounce := none }

/-- A change of an input's debounced level (R159). -/
def changeLevel (i : Input) (level : Bool) (s : State) : State :=
  let s1 := { s with inputs := vset s.inputs i ((s.inp i).changed level (!s.inConfig)) }
  let s2 := if level && !s.inConfig then broadcast .input s1 else s1
  let s3 := recordLevel (s.inputConfig i).binding i level s2
  if level then actOnActive (s.inputConfig i).binding s3 else s3

def setDebounce (i : Input) (n : Option Nat) (s : State) : State :=
  { s with inputs := vset s.inputs i { s.inp i with debounce := n } }

/-- The level at the pin has been judged anew: in CONFIG the debounced level follows at once; in OPERATING the debounce
count starts, is abandoned, or, with 0 ms, the level changes in this action (R157, R158). -/
def qualify (i : Input) (s : State) : State :=
  let level := s.activeAtPin i
  if level = (s.inp i).level then setDebounce i none s
  else if s.inConfig || decide ((s.inputConfig i).debounceMs = 0) then changeLevel i level s
  else setDebounce i (some (s.periods (s.inputConfig i).debounceMs)) s

/-- A pin takes a level; only a change is an event (R157). -/
def changePin (i : Input) (high : Bool) (s : State) : State :=
  if vget s.pins i = high then s else qualify i { s with pins := vset s.pins i high }

/-- The expiry of a debounce count: the debounced level takes the new level (R158). -/
def debounceExpiry (i : Input) (s : State) : State :=
  if (s.inp i).debounce = some 0 then changeLevel i (!(s.inp i).level) s else s

end Sys2Proof.Machine
end

