-- ==== Sys2Proof/Machine/Flags.lean ====
section
/-! DEFINITION. The outputs and flags that are views of the state (Table 8-4; 01, R6), and the answer statuses. -/

namespace Sys2Proof.Machine

/-- BRKn is asserted while channel n is in RELEASING or RUN (01, R5). -/
def State.brk (s : State) (c : Chan) : Bool := (s.chState c).running

/-- PRECHG (05, Table 5-2). -/
def State.prechg (s : State) : Bool := decide (s.link.state = .charging) || decide (s.link.state = .settling)

/-- MAIN (05, Table 5-2). -/
def State.main (s : State) : Bool :=
  decide (s.link.state = .ready) || decide (s.link.state = .parked) || decide (s.link.state = .waking)

/-- RDY (05, Table 5-2; 07, R140). -/
def State.rdy (s : State) : Bool := decide (s.link.state = .ready) && !s.react.latch

/-- NLp (10, R177). -/
def State.nl (s : State) (p : Port) : Bool := decide ((s.port p).summary ≠ 0) || (s.port p).notice.isSome

/-- The inputs that carry the binding BRAKE_FB for a channel (01, R6). -/
def State.boundFeedback (s : State) (c : Chan) : List Input :=
  allInputs.filter fun i => decide ((s.inputConfig i).binding = .brakeFb c)

/-- A channel's brake feedback as its engine holds it (01, R6). -/
inductive Feedback where
  | released
  | engaged
  | unbound
  deriving DecidableEq, Repr

def Feedback.index (x : Feedback) : Nat :=
  match x with
  | .released => 0
  | .engaged => 1
  | .unbound => 2

/-- Released while every bound input is active, engaged while any is inactive, unbound without one (01, R6). -/
def State.feedback (s : State) (c : Chan) : Feedback :=
  match s.boundFeedback c with
  | [] => .unbound
  | i :: rest => if (i :: rest).all (fun j => vget (s.eng c).feedback j) then .released else .engaged

/-- Some SAFE_STOP-bound input is held active at the Reaction Controller (07, R152). -/
def State.stopInputActive (s : State) : Bool :=
  allInputs.any fun i => decide ((s.inputConfig i).binding = .safeStop) && vget s.react.stopLevels i

/-- Some WAKE-bound input is held active at the Link Supervisor (05, Table 5-5). -/
def State.wakeInputActive (s : State) : Bool :=
  allInputs.any fun i => decide ((s.inputConfig i).binding = .wake) && vget s.link.wakeLevels i

/-- A link reaction is in service (01, R18, R21; 05, R106). -/
def State.linkReactionInService (s : State) : Bool := s.react.inService.any fun i => i.kind.isLink

/-- The answer statuses, in the order of Table 9-3. -/
inductive Status where
  | ok
  | unknown
  | length
  | field
  | range
  | unfrozen
  | frozen
  | notSafety
  | unrouted
  | tandem
  | rank
  | notHolder
  | epoch
  | taken
  | already
  | notWaiting
  | notLocked
  | state
  | link
  | parked
  | waking
  | safeLatch
  | busy
  | stale
  | pending
  | retry
  | self
  | noProposal
  | mismatch
  | active
  deriving DecidableEq, Repr

/-- The status codes (R189). -/
def Status.code (x : Status) : Nat :=
  match x with
  | .ok => 0
  | .unknown => 1
  | .length => 2
  | .field => 3
  | .range => 4
  | .unfrozen => 5
  | .frozen => 6
  | .notSafety => 7
  | .unrouted => 8
  | .tandem => 9
  | .rank => 10
  | .notHolder => 11
  | .epoch => 12
  | .taken => 13
  | .already => 14
  | .notWaiting => 15
  | .notLocked => 16
  | .state => 17
  | .link => 18
  | .parked => 19
  | .waking => 20
  | .safeLatch => 21
  | .busy => 22
  | .stale => 23
  | .pending => 24
  | .retry => 25
  | .self => 26
  | .noProposal => 27
  | .mismatch => 28
  | .active => 29

/-- An answer: its status and the bytes of its further fields (09, R170). -/
structure Reply where
  status : Status
  fields : List Byte
  deriving DecidableEq, Repr

/-- An answer with its status alone. -/
def Reply.bare (x : Status) : Reply := { status := x, fields := [] }

/-- The answer OK with the bytes of its fields. -/
def Reply.okWith (bs : List Byte) : Reply := { status := .ok, fields := bs }

end Sys2Proof.Machine
end

