-- ==== Sys2Proof/Machine/Ports.lean ====
section
/-! DEFINITION. The Master Port Interface (chapter 9) and the forming of NOTICE frames (10, R178): link states and
silence, the receive path, the service of a request, the transmitter. -/

namespace Sys2Proof.Machine

/-! ### The end of every command: notice frames are formed and idle transmitters begin (R171, R178, log 6) -/

/-- The test for forming a NOTICE frame (R178). The frame carries the last period started; between FREEZE and the first
period start, when none has started, it carries 0 (DESIGN CHOICE, log 37). -/
def PortBlock.formNotice (k : Constants) (period : W32) (b : PortBlock) : PortBlock :=
  if b.summary ≠ 0#12 ∧ b.pacing = none ∧ b.notice = none then
    { b with
      notice := some { bytes := noticeFrame b.summary period, isReset := false }
      summary := 0
      pacing := if k.periods b.pacingMs = 0 then none else some (k.periods b.pacingMs) }
  else b

/-- An idle transmitter of a port with link signal begins the answer, else the notice frame (R171). -/
def PortBlock.begin (b : PortBlock) : PortBlock :=
  if b.sending = none ∧ b.link ≠ .down then
    match b.answer, b.notice with
    | some f, _ => { b with sending := some f, answer := none }
    | none, some f => { b with sending := some f, notice := none }
    | none, none => b
  else b

/-- A port at the end of a command: a frame is formed, the transmitter begins, and the test is made again for a slot
that has emptied. -/
def PortBlock.settle (k : Constants) (period : W32) (b : PortBlock) : PortBlock :=
  ((b.formNotice k period).begin).formNotice k period

/-- The end of every command. -/
def settle (s : State) : State :=
  { s with ports := vmap allPorts (fun _ b => b.settle s.consts s.period) s.ports }

/-- A command's effect is complete. -/
def done (s : State) : Host.Outcome State Fault Refusal := .next (settle s)

/-! ### Link state and silence (R166, R167) -/

/-- The silence timer a port's limit starts, from FREEZE onward; a limit of 0 disables it (R167). -/
def State.silenceStart (s : State) (p : Port) : Option Nat :=
  let n := vget s.consts.silenceLimitMs p
  if s.inConfig ∨ n = 0 then none else some (s.periods n)

/-- A port in DOWN gains its link signal (R166). -/
def gainSignal (p : Port) (s : State) : State :=
  if (s.port p).link = .down then
    { s with
      signals := vset s.signals p true
      ports := vset s.ports p { s.port p with link := .up, silence := s.silenceStart p } }
  else s

/-- The commanded reset is taken at once if the safety port loses its signal before the answer completes (11, R186). -/
def resetIfLost (p : Port) (s : State) : State :=
  if p = s.safetyPort ∧ s.resetting = .answerWaiting then { s with resetting := .due } else s

/-- The report of PORT_SILENT, if the port has a silence limit and the part is in OPERATING (R166, R167). -/
def reportSilent (p : Port) (s : State) : State :=
  if s.inConfig ∨ vget s.consts.silenceLimitMs p = 0 then s else reportOrdinary .portSilent (.port p) none s

/-- A port in UP or SILENT loses its link signal; a frame cut short is damaged (R166, R168). -/
def loseSignal (p : Port) (midFrame : Bool) (s : State) : State :=
  let b := s.port p
  if b.link = .down then s
  else
    let s1 := resetIfLost p
      { s with
        signals := vset s.signals p false
        ports := vset s.ports p
          { b with
            link := .down
            silence := none
            damaged := if midFrame then min 65535 (b.damaged + 1) else b.damaged } }
    if b.link = .up then reportSilent p s1 else s1

/-- The expiry of a silence timer (R167). -/
def silenceExpiry (p : Port) (s : State) : State :=
  let b := s.port p
  if b.link = .up ∧ b.silence = some 0 then
    reportOrdinary .portSilent (.port p) none
      { s with ports := vset s.ports p { b with link := .silent, silence := none } }
  else s

/-! ### The receive path (R168) -/

/-- A valid frame: the silence timer restarts, SILENT returns to UP, and the frame joins the inbound queue or overruns
it (R167, R168). -/
def PortBlock.receive (silence : Option Nat) (f : Frame) (b : PortBlock) : PortBlock :=
  if b.inbound.length < Config.inboundSlots then
    { b with link := .up, silence := silence, inbound := b.inbound ++ [f] }
  else { b with link := .up, silence := silence, overrun := true }

/-- A frame whose last byte has been received on a port with link signal (R168; 12, R190). -/
def receiveFrame (p : Port) (bytes : List Byte) (s : State) : State :=
  let b := s.port p
  if b.link = .down then s
  else
    match parseFrame bytes with
    | none => { s with ports := vset s.ports p { b with damaged := min 65535 (b.damaged + 1) } }
    | some f => { s with ports := vset s.ports p (b.receive (s.silenceStart p) f) }

/-! ### The service of a request (R169, R170) -/

/-- The frame a port takes next: the head of its inbound queue, when the answer slot is empty and no RESET_PART has
been served (R169; 11, R186). -/
def State.nextRequest (s : State) (p : Port) : Option Frame :=
  if s.resetting = .none ∧ (s.port p).answer = none then (s.port p).inbound.head? else none

/-- The taking removes the frame from the queue (R169). -/
def popRequest (p : Port) (s : State) : State :=
  { s with ports := vset s.ports p { s.port p with inbound := (s.port p).inbound.tail } }

/-- The answer is placed in the answer slot; it carries the overrun flag, which is cleared (R169, R170). -/
def putAnswer (p : Port) (number : W16) (isReset : Bool) (r : Reply) (s : State) : State :=
  let f : TxFrame := { bytes := answerFrame number r.status.code (s.port p).overrun r.fields, isReset := isReset }
  { s with ports := vset s.ports p { s.port p with overrun := false, answer := some f } }

/-- The service of the request at the head of a port's queue, in one action (R169): the length check, then the owner.
`parse` reads the request fields and answers none where their length fits no form of the request. -/
def serve {α : Type} (p : Port) (code : Nat) (parse : List Byte → Option α) (owner : α → State → State × Reply)
    (s : State) : State :=
  match s.nextRequest p with
  | none => s
  | some f =>
    if f.code ≠ code then s
    else
      match parse f.fields with
      | none => putAnswer p f.number false (.bare .length) (popRequest p s)
      | some a => putAnswer p f.number false (owner a (popRequest p s)).2 (owner a (popRequest p s)).1

/-- The service of a frame whose code names no request (R169, step 1; 12, R190). -/
def serveUnknown (p : Port) (s : State) : State :=
  match s.nextRequest p with
  | none => s
  | some f =>
    if f.code = 0 ∨ 38 < f.code then putAnswer p f.number false (.bare .unknown) (popRequest p s) else s

/-! ### The transmitter (R171) -/

/-- The last byte of a frame leaves: the frame has been sent. The answer to RESET_PART makes the commanded reset due
(11, R186). -/
def completeSend (p : Port) (s : State) : State :=
  let b := s.port p
  match b.sending with
  | none => s
  | some f =>
    if b.link = .down then s
    else
      { s with
        wire := .frame p f.bytes :: s.wire
        resetting := if f.isReset then .due else s.resetting
        ports := vset s.ports p { b with sending := none } }

/-- The expiry of a pacing timer (10, R178): the timer is absent, and the test is made at the end of the command. -/
def pacingExpiry (p : Port) (s : State) : State :=
  if (s.port p).pacing = some 0 then { s with ports := vset s.ports p { s.port p with pacing := none } } else s

end Sys2Proof.Machine
end

