-- ==== Sys2Proof/Machine/Operands.lean ====
section
/-! DEFINITION. The fields of requests (12, R189, R192): each reader answers none where the length fits no form of the
request, so that R169 answers LENGTH. -/

namespace Sys2Proof.Machine

/-- No fields. -/
def readNothing (bs : List Byte) : Option Unit :=
  match bs with
  | [] => some ()
  | _ => none

/-- One byte: a route tag or a page number. -/
def readByte (bs : List Byte) : Option Nat :=
  match bs with
  | [t] => some t.toNat
  | _ => none

/-- A route tag and a flag (CLAIM's wait). -/
def readTagFlag (bs : List Byte) : Option (Nat × Bool) :=
  match bs with
  | [t, w] => some (t.toNat, decide (w ≠ 0#8))
  | _ => none

/-- A route tag and one byte (a proposal number). -/
def readTagByte (bs : List Byte) : Option (Nat × Nat) :=
  match bs with
  | [t, n] => some (t.toNat, n.toNat)
  | _ => none

/-- A route tag and two bytes (LOCK's duration, FLUSH's epoch). -/
def readTagWord (bs : List Byte) : Option (Nat × Nat) :=
  match bs with
  | [t, a, b] => some (t.toNat, ofBytes [a, b])
  | _ => none

/-- Two bytes (SET_PACING's interval). -/
def readWord (bs : List Byte) : Option Nat :=
  match bs with
  | [a, b] => some (ofBytes [a, b])
  | _ => none

/-- A list of one-byte items at its own count (R189). -/
def readList (bs : List Byte) : Option (List Nat) :=
  match bs with
  | [] => none
  | n :: items => if items.length = n.toNat then some (items.map (·.toNat)) else none

/-- RETRACT: tag, epoch, from-stamp. -/
structure RetractFields where
  tag   : Nat
  epoch : W16
  stamp : W32
  deriving DecidableEq, Repr

def readRetract (bs : List Byte) : Option RetractFields :=
  match bs with
  | [t, e1, e0, s3, s2, s1, s0] =>
    some { tag := t.toNat, epoch := BitVec.ofNat 16 (ofBytes [e1, e0]), stamp := BitVec.ofNat 32 (ofBytes [s3, s2, s1, s0]) }
  | _ => none

/-- A DEMAND entry as it stands in the frame (Table 12-3). -/
structure RawEntry where
  stamp    : W32
  iq       : Int
  id       : Int
  split    : Int
  vff      : Int
  presence : Byte
  deriving DecidableEq, Repr

/-- The entries of a DEMAND: n entries of 13 bytes each and nothing after them (R192). -/
def readEntries : Nat → List Byte → Option (List RawEntry)
  | 0, [] => some []
  | 0, _ :: _ => none
  | n + 1, s3 :: s2 :: s1 :: s0 :: q1 :: q0 :: d1 :: d0 :: p1 :: p0 :: v1 :: v0 :: pr :: rest =>
    (readEntries n rest).map fun es =>
      { stamp := BitVec.ofNat 32 (ofBytes [s3, s2, s1, s0]), iq := signed16 (ofBytes [q1, q0])
        id := signed16 (ofBytes [d1, d0]), split := signed16 (ofBytes [p1, p0])
        vff := signed16 (ofBytes [v1, v0]), presence := pr } :: es
  | _ + 1, _ => none

/-- DEMAND: tag, epoch, entries. -/
structure DemandFields where
  tag     : Nat
  epoch   : W16
  entries : List RawEntry
  deriving DecidableEq, Repr

def readDemand (bs : List Byte) : Option DemandFields :=
  match bs with
  | t :: e1 :: e0 :: n :: rest =>
    if n.toNat = 0 ∨ 8 < n.toNat then none
    else (readEntries n.toNat rest).map fun es =>
      { tag := t.toNat, epoch := BitVec.ofNat 16 (ofBytes [e1, e0]), entries := es }
  | _ => none

/-- The open values, in the order their names stand in Table 6-2 (R189). -/
inductive OpenName where
  | kpD
  | kpQ
  | kiD
  | kiQ
  | starve
  | lowWater
  | rampMs
  deriving DecidableEq, Repr

def OpenName.index (x : OpenName) : Nat :=
  match x with
  | .kpD => 0
  | .kpQ => 1
  | .kiD => 2
  | .kiQ => 3
  | .starve => 4
  | .lowWater => 5
  | .rampMs => 6

def OpenName.ofIndex (n : Nat) : Option OpenName :=
  match n with
  | 0 => some .kpD
  | 1 => some .kpQ
  | 2 => some .kiD
  | 3 => some .kiQ
  | 4 => some .starve
  | 5 => some .lowWater
  | 6 => some .rampMs
  | _ => none

/-- The starve limit and the low-water mark take one byte, every other open value two (R189, log 16). -/
def OpenName.oneByte (x : OpenName) : Bool :=
  match x with
  | .starve | .lowWater => true
  | .kpD | .kpQ | .kiD | .kiQ | .rampMs => false

/-- The list of a SET_OPEN: its named values, and whether a name that names no open value ended the reading (log 17). -/
structure OpenChanges where
  items   : List (OpenName × Nat)
  unknown : Bool
  deriving DecidableEq, Repr

def OpenChanges.cons (x : OpenName × Nat) (o : OpenChanges) : OpenChanges := { o with items := x :: o.items }

def readOpens : Nat → List Byte → Option OpenChanges
  | 0, [] => some { items := [], unknown := false }
  | 0, _ :: _ => none
  | _ + 1, [] => none
  | n + 1, name :: rest =>
    match OpenName.ofIndex name.toNat with
    | none => some { items := [], unknown := true }
    | some x =>
      match x.oneByte, rest with
      | true, v :: more => (readOpens n more).map (·.cons (x, v.toNat))
      | false, v1 :: v0 :: more => (readOpens n more).map (·.cons (x, ofBytes [v1, v0]))
      | _, _ => none

/-- SET_OPEN: tag, expected revision, changes. -/
structure SetOpenFields where
  tag      : Nat
  revision : W16
  changes  : OpenChanges
  deriving DecidableEq, Repr

def readSetOpen (bs : List Byte) : Option SetOpenFields :=
  match bs with
  | t :: r1 :: r0 :: n :: rest =>
    (readOpens n.toNat rest).map fun o =>
      { tag := t.toNat, revision := BitVec.ofNat 16 (ofBytes [r1, r0]), changes := o }
  | _ => none

/-- PROPOSE: tag, expected revision, the five guarded values. A current is signed (Table 0-2). -/
structure ProposeFields where
  tag        : Nat
  revision   : W16
  peak       : Int
  continuous : Int
  tau        : Nat
  brakeMs    : Nat
  stopMs     : Nat
  deriving DecidableEq, Repr

def readPropose (bs : List Byte) : Option ProposeFields :=
  match bs with
  | [t, r1, r0, p1, p0, c1, c0, u1, u0, b1, b0, s1, s0] =>
    some { tag := t.toNat, revision := BitVec.ofNat 16 (ofBytes [r1, r0])
           peak := signed16 (ofBytes [p1, p0]), continuous := signed16 (ofBytes [c1, c0])
           tau := ofBytes [u1, u0], brakeMs := ofBytes [b1, b0], stopMs := ofBytes [s1, s0] }
  | _ => none

/-! ### Machine constants by name (R183, R189) -/

/-- The machine constants, in the order their names stand in Table 11-1. -/
inductive ConstName where
  | periodCode
  | rank
  | wakePermit
  | silenceLimit
  | present
  | ceiling
  | reserve
  | order
  | tandem
  | linkRating
  | safeLevel
  | failLevel
  | readyLevel
  | highLevel
  | settleCode
  | chargeLimit
  | handoverLimit
  | proposalWindow
  | category
  | polarity
  | mode
  | debounce
  | binding
  | route
  deriving DecidableEq, Repr

def ConstName.ofIndex (n : Nat) : Option ConstName :=
  match n with
  | 0 => some .periodCode
  | 1 => some .rank
  | 2 => some .wakePermit
  | 3 => some .silenceLimit
  | 4 => some .present
  | 5 => some .ceiling
  | 6 => some .reserve
  | 7 => some .order
  | 8 => some .tandem
  | 9 => some .linkRating
  | 10 => some .safeLevel
  | 11 => some .failLevel
  | 12 => some .readyLevel
  | 13 => some .highLevel
  | 14 => some .settleCode
  | 15 => some .chargeLimit
  | 16 => some .handoverLimit
  | 17 => some .proposalWindow
  | 18 => some .category
  | 19 => some .polarity
  | 20 => some .mode
  | 21 => some .debounce
  | 22 => some .binding
  | 23 => some .route
  | _ => none

/-- How many copies a constant has; a constant without copies carries no index (R183). -/
def ConstName.copies (x : ConstName) : Option Nat :=
  match x with
  | .rank | .wakePermit | .silenceLimit => some 4
  | .present | .ceiling | .reserve | .tandem => some 8
  | .polarity | .mode | .debounce | .binding => some 16
  | .route => some 32
  | .periodCode | .order | .linkRating | .safeLevel | .failLevel | .readyLevel | .highLevel => none
  | .settleCode | .chargeLimit | .handoverLimit | .proposalWindow | .category => none

/-- The size of a constant's value in bytes; the allotment order is a list of its own count (R189, log 16). -/
def ConstName.size (x : ConstName) : Option Nat :=
  match x with
  | .order => none
  | .periodCode | .rank | .wakePermit | .present | .tandem | .settleCode | .category | .polarity | .mode => some 1
  | .silenceLimit | .ceiling | .reserve | .linkRating | .safeLevel | .failLevel | .readyLevel | .highLevel => some 2
  | .chargeLimit | .handoverLimit | .proposalWindow | .debounce | .binding => some 2
  | .route => some 4

/-- A constant named in a request: its name byte, its name if there is one, its index (0 where it has no copies), and
for WRITE_CONSTANT the bytes of the value. -/
structure ConstFields where
  nameByte : Byte
  name     : Option ConstName
  index    : Nat
  value    : List Byte
  deriving DecidableEq, Repr

/-- The name and index of a constant, and the bytes after them; whatever follows an unknown name (R189). -/
def readConstHead (bs : List Byte) : Option ConstFields :=
  match bs with
  | [] => none
  | b :: rest =>
    match ConstName.ofIndex b.toNat with
    | none => some { nameByte := b, name := none, index := 0, value := [] }
    | some x =>
      match x.copies, rest with
      | none, v => some { nameByte := b, name := some x, index := 0, value := v }
      | some _, i :: v => some { nameByte := b, name := some x, index := i.toNat, value := v }
      | some _, [] => none

/-- The value has the size of the constant named (R189). -/
def valueFits (x : ConstName) (v : List Byte) : Bool :=
  match x.size, v with
  | some n, v => decide (v.length = n)
  | none, n :: items => decide (items.length = n.toNat)
  | none, [] => false

def readWriteConstant (bs : List Byte) : Option ConstFields :=
  match readConstHead bs with
  | none => none
  | some f =>
    match f.name with
    | none => some f
    | some x => if valueFits x f.value then some f else none

def readReadConstant (bs : List Byte) : Option ConstFields :=
  match readConstHead bs with
  | none => none
  | some f =>
    match f.name with
    | none => some f
    | some _ => if f.value.isEmpty then some f else none

end Sys2Proof.Machine
end

