-- ==== Sys2Proof/Machine/PartRequests.lean ====
section
/-! DEFINITION. The requests to the Machine Constants Store (chapter 11): QUERY_PART, WRITE_CONSTANT, READ_CONSTANT,
FREEZE, RESET_PART; and the frame whose code names no request. -/

namespace Sys2Proof.Machine

/-! ### Encodings shared by the answers (12, R189) -/

def portByte (p : Port) : List Byte := beBytes 1 p.val
def stampBytes (x : W32) : List Byte := beBytes 4 x.toNat
def wordBytes (x : W16) : List Byte := beBytes 2 x.toNat

/-- A fault record {kind, scope, period} (log 14 for the scope's byte). -/
def faultBytes (k : FaultKind) (sc : Scope) : List Byte := beBytes 1 k.index ++ beBytes 1 sc.number

/-- The Retained Record (Tables 7-2 and 11-3). -/
def Retained.bytes (r : Retained) : List Byte :=
  beBytes 1 r.cause.index ++ optBytes (r.severe.map fun f => faultBytes f.kind f.scope ++ stampBytes f.period)

/-! ### QUERY_PART (11, R185; 09, R175) -/

/-- A port record (Table 9-4); `safety port` is a flag, 1 for yes (DESIGN CHOICE, log 33). -/
def State.portRecord (s : State) (p : Port) : List Byte :=
  let b := s.port p
  beBytes 1 b.link.index ++ optBytes (b.silence.map (beBytes 3)) ++ beBytes 1 b.inbound.length ++
    [flagByte b.overrun] ++ beBytes 2 b.damaged ++ beBytes 1 (s.rank p) ++ [flagByte (decide (p = s.safetyPort))] ++
    [flagByte (vget s.consts.wakePermit p)]

/-- The fields of Table 11-3. The identity is a free value of a length that leaves the payload within 120 bytes (log
9); the port records are those of P0 to P3 in turn, without a count (DESIGN CHOICE, log 15). -/
def State.partFields (s : State) : List Byte :=
  Config.partIdentity.take 53 ++ [flagByte (!s.inConfig)] ++ stampBytes s.period ++
    beBytes 1 s.consts.periodCode ++ portByte s.safetyPort ++ (allPorts.map s.portRecord).flatten ++ s.retained.bytes

/-- QUERY_PART is served from any port in either phase. -/
def queryPartOwner (_ : Unit) (s : State) : State × Reply := (s, .okWith s.partFields)

/-! ### Constants (11, R183) -/

/-- The index named exists (R183, check 2; Table 11-1: tandem exists for channels 0, 2 and 4). -/
def ConstName.indexOk (x : ConstName) (i : Nat) : Bool :=
  match x, x.copies with
  | .tandem, _ => decide (i = 0) || decide (i = 2) || decide (i = 4)
  | _, some n => decide (i < n)
  | _, none => true

/-- The FIELD check on a value: the allotment order lists a channel twice or more than 8 channels (R183, check 2). -/
def ConstName.fieldOk (x : ConstName) (v : List Byte) : Bool :=
  match x with
  | .order => decide v.tail.Nodup && decide (v.tail.length ≤ 8)
  | _ => true

def inRange (lo hi n : Nat) : Bool := decide (lo ≤ n) && decide (n ≤ hi)

/-- The value lies in the range of Table 11-1, 8-1 or 9-1 (R183, check 3; log 18). -/
def ConstName.rangeOk (x : ConstName) (v : List Byte) : Bool :=
  let n := ofBytes v
  match x with
  | .periodCode => inRange 0 3 n
  | .rank => inRange 0 15 n
  | .silenceLimit => decide (n = 0) || inRange 5 5000 n
  | .ceiling => inRange 100 32000 n
  | .reserve | .linkRating => inRange 0 32767 n
  | .order => v.tail.all fun b => decide (b.toNat < 8)
  | .chargeLimit => inRange 2000 20000 n
  | .handoverLimit => inRange 1 1000 n
  | .proposalWindow => inRange 20 2000 n
  | .category | .polarity | .mode => inRange 0 1 n
  | .debounce => inRange 0 20 n
  | .binding => decide (n / 256 < 4) && (decide (n / 256 ≠ 2) || decide (n % 256 < 8))
  | .route =>
    match v with
    | [_, tag, ports, chan] => decide (tag.toNat < 64) && decide (ports.toNat < 16) && decide (chan.toNat < 8)
    | _ => false
  | .wakePermit | .present | .tandem | .safeLevel | .failLevel | .readyLevel | .highLevel | .settleCode => true

/-- A binding from its two bytes, kind and channel (log 16). -/
def Binding.ofNat (n : Nat) : Binding :=
  match n / 256 with
  | 1 => .safeStop
  | 2 => .brakeFb (Fin.ofNat 8 (n % 256))
  | 3 => .wake
  | _ => .none

def Binding.bytes (b : Binding) : List Byte :=
  match b with
  | .none => [0, 0]
  | .safeStop => [1, 0]
  | .brakeFb c => 2 :: beBytes 1 c.val
  | .wake => [3, 0]

def Route.ofBytes (v : List Byte) : Route :=
  match v with
  | [valid, tag, ports, chan] =>
    { valid := decide (valid ≠ 0#8), tag := tag.toNat, ports := ports.setWidth 4, chan := Fin.ofNat 8 chan.toNat }
  | _ => { valid := false, tag := 0, ports := 0, chan := 0 }

def Route.bytes (r : Route) : List Byte :=
  [flagByte r.valid] ++ beBytes 1 r.tag ++ beBytes 1 r.ports.toNat ++ beBytes 1 r.chan.val

/-- One input's configuration replaced. -/
def Constants.setInput (k : Constants) (i : Input) (f : InputConfig → InputConfig) : Constants :=
  { k with inputs := vset k.inputs i (f (vget k.inputs i)) }

/-- The constants after an accepted write (R183). -/
def Constants.write (k : Constants) (x : ConstName) (i : Nat) (v : List Byte) : Constants :=
  let n := Sys2Proof.Machine.ofBytes v
  let flag : Bool := decide (n ≠ 0)
  match x with
  | .periodCode => { k with periodCode := n }
  | .rank => { k with rank := vset k.rank (Fin.ofNat 4 i) n }
  | .wakePermit => { k with wakePermit := vset k.wakePermit (Fin.ofNat 4 i) flag }
  | .silenceLimit => { k with silenceLimitMs := vset k.silenceLimitMs (Fin.ofNat 4 i) n }
  | .present => { k with present := vset k.present (Fin.ofNat 8 i) flag }
  | .ceiling => { k with ceiling := vset k.ceiling (Fin.ofNat 8 i) n }
  | .reserve => { k with reserve := vset k.reserve (Fin.ofNat 8 i) n }
  | .order => { k with order := v.tail.map fun b => Fin.ofNat 8 b.toNat }
  | .tandem => { k with tandem := vset k.tandem (Fin.ofNat 3 (i / 2)) flag }
  | .linkRating => { k with linkRating := n }
  | .safeLevel => { k with safeLevel := n }
  | .failLevel => { k with failLevel := n }
  | .readyLevel => { k with readyLevel := n }
  | .highLevel => { k with highLevel := n }
  | .settleCode => { k with settleCode := n }
  | .chargeLimit => { k with chargeLimitMs := n }
  | .handoverLimit => { k with handoverMs := n }
  | .proposalWindow => { k with proposalMs := n }
  | .category => { k with category := if n = 0 then .immediate else .ramped }
  | .polarity => k.setInput (Fin.ofNat 16 i) fun c => { c with polarity := if n = 0 then .activeHigh else .activeLow }
  | .mode => k.setInput (Fin.ofNat 16 i) fun c => { c with mode := if n = 0 then .level else .edge }
  | .debounce => k.setInput (Fin.ofNat 16 i) fun c => { c with debounceMs := n }
  | .binding => k.setInput (Fin.ofNat 16 i) fun c => { c with binding := Binding.ofNat n }
  | .route => { k with routes := vset k.routes (Fin.ofNat 32 i) (Route.ofBytes v) }

/-- What a write moves in the Input Block: a polarity write judges the pin anew, a binding write that changes the
binding delivers the level to the new receiver (R183; 08, R157, R160). -/
def afterWrite (x : ConstName) (i : Input) (before : Binding) (s : State) : State :=
  match x with
  | .polarity => qualify i s
  | .binding => if (s.inputConfig i).binding = before then s else deliverLevel i s
  | _ => s

def storeConstant (x : ConstName) (i : Nat) (v : List Byte) (s : State) : State :=
  afterWrite x (Fin.ofNat 16 i) (s.inputConfig (Fin.ofNat 16 i)).binding { s with consts := s.consts.write x i v }

/-- The item a RANGE answer names: the constant's name, and its index where it has copies (log 18). -/
def ConstFields.item (f : ConstFields) (x : ConstName) : List Byte :=
  f.nameByte :: (if x.copies.isSome then beBytes 1 f.index else [])

/-- WRITE_CONSTANT (R183). -/
def writeConstantOwner (p : Port) (f : ConstFields) (s : State) : State × Reply :=
  if p ≠ s.safetyPort then (s, .bare .notSafety)
  else if !s.inConfig then (s, .bare .frozen)
  else
    match f.name with
    | none => (s, .bare .field)
    | some x =>
      if !(x.indexOk f.index && x.fieldOk f.value) then (s, .bare .field)
      else if !x.rangeOk f.value then (s, { status := .range, fields := f.item x })
      else (storeConstant x f.index f.value s, .bare .ok)

/-- A stored value as READ_CONSTANT answers it (R183, R189). -/
def Constants.valueBytes (k : Constants) (x : ConstName) (i : Nat) : List Byte :=
  match x with
  | .periodCode => beBytes 1 k.periodCode
  | .rank => beBytes 1 (vget k.rank (Fin.ofNat 4 i))
  | .wakePermit => [flagByte (vget k.wakePermit (Fin.ofNat 4 i))]
  | .silenceLimit => beBytes 2 (vget k.silenceLimitMs (Fin.ofNat 4 i))
  | .present => [flagByte (vget k.present (Fin.ofNat 8 i))]
  | .ceiling => beBytes 2 (vget k.ceiling (Fin.ofNat 8 i))
  | .reserve => beBytes 2 (vget k.reserve (Fin.ofNat 8 i))
  | .order => listBytes (k.order.map fun c => beBytes 1 c.val)
  | .tandem => [flagByte (vget k.tandem (Fin.ofNat 3 (i / 2)))]
  | .linkRating => beBytes 2 k.linkRating
  | .safeLevel => beBytes 2 k.safeLevel
  | .failLevel => beBytes 2 k.failLevel
  | .readyLevel => beBytes 2 k.readyLevel
  | .highLevel => beBytes 2 k.highLevel
  | .settleCode => beBytes 1 k.settleCode
  | .chargeLimit => beBytes 2 k.chargeLimitMs
  | .handoverLimit => beBytes 2 k.handoverMs
  | .proposalWindow => beBytes 2 k.proposalMs
  | .category => beBytes 1 (if k.category = .immediate then 0 else 1)
  | .polarity => beBytes 1 (if (vget k.inputs (Fin.ofNat 16 i)).polarity = .activeHigh then 0 else 1)
  | .mode => beBytes 1 (if (vget k.inputs (Fin.ofNat 16 i)).mode = .level then 0 else 1)
  | .debounce => beBytes 2 (vget k.inputs (Fin.ofNat 16 i)).debounceMs
  | .binding => (vget k.inputs (Fin.ofNat 16 i)).binding.bytes
  | .route => (vget k.routes (Fin.ofNat 32 i)).bytes

/-- READ_CONSTANT, served in either phase (R183). -/
def readConstantOwner (p : Port) (f : ConstFields) (s : State) : State × Reply :=
  if p ≠ s.safetyPort then (s, .bare .notSafety)
  else
    match f.name with
    | none => (s, .bare .field)
    | some x =>
      if x.indexOk f.index then (s, .okWith (s.consts.valueBytes x f.index)) else (s, .bare .field)

/-! ### FREEZE (11, R184) -/

/-- Check 1: the first port whose nonzero rank a lower port has already (log 18). -/
def Constants.rankClash (k : Constants) : Option Nat :=
  (allPorts.find? fun p => decide (vget k.rank p ≠ 0) &&
    allPorts.any fun q => decide (q < p) && decide (vget k.rank q = vget k.rank p)).map (·.val)

/-- Check 2: the first channel whose place in the allotment order and present constant disagree. -/
def Constants.orderClash (k : Constants) : Option Nat :=
  (allChans.find? fun c => decide (k.order.contains c ≠ vget k.present c)).map (·.val)

/-- The reserves of the present channels summed. -/
def Constants.reserveSum (k : Constants) : Nat :=
  (allChans.map fun c => if vget k.present c then vget k.reserve c else 0).sum

/-- Check 3: LINK_RATING at least 1, and not below the reserves. -/
def Constants.ratingClash (k : Constants) : Option Nat :=
  if k.linkRating = 0 then some 0 else if k.linkRating < k.reserveSum then some 1 else none

/-- Check 4: a leader whose pair is not present in both channels. -/
def Constants.tandemClash (k : Constants) : Option Nat :=
  (allChans.find? fun c => k.isLeader c && (k.group c).any fun d => !vget k.present d).map (·.val)

/-- Check 5: the first valid route entry that names an absent channel. -/
def Constants.routeClash (k : Constants) : Option Nat :=
  k.routes.toList.findIdx? fun r => r.valid && !vget k.present r.chan

/-- Check 6: the first input bound to SAFE_STOP that is not in LEVEL mode. -/
def Constants.modeClash (k : Constants) : Option Nat :=
  (allInputs.find? fun i => decide ((vget k.inputs i).binding = .safeStop) &&
    decide ((vget k.inputs i).mode ≠ .level)).map (·.val)

/-- Check 7: the first of the three comparisons of the levels that fails. -/
def Constants.levelClash (k : Constants) : Option Nat :=
  if k.failLevel ≤ k.safeLevel then some 0
  else if k.readyLevel ≤ k.failLevel then some 1
  else if k.highLevel ≤ k.readyLevel then some 2
  else none

/-- Check 8: SETTLE_CODE is 0 to 4. -/
def Constants.settleClash (k : Constants) : Option Nat := if 4 < k.settleCode then some 0 else none

/-- The checks of Table 11-2 in order: the first that fails, as {check index, item index}. -/
def Constants.freezeFault (k : Constants) : Option (Nat × Nat) :=
  let checks : List (Nat × Option Nat) :=
    [(1, k.rankClash), (2, k.orderClash), (3, k.ratingClash), (4, k.tandemClash), (5, k.routeClash),
      (6, k.modeClash), (7, k.levelClash), (8, k.settleClash)]
  checks.findSome? fun c => c.2.map fun item => (c.1, item)

/-- The envelope ceiling: the smallest rating ceiling of the group (06, R116). -/
def Constants.ceilingOf (k : Constants) (l : Chan) : Nat :=
  (k.group l).foldl (fun acc c => min acc (vget k.ceiling c)) (vget k.ceiling l)

/-- An envelope as FREEZE forms it (06, R116, R117). -/
def Envelope.formed (ceiling : Nat) : Envelope :=
  { Envelope.initial with
    guarded := { peak := ceiling * 25 / 100, continuous := ceiling * 10 / 100, tau := 60, brakeMs := 200, stopMs := 500 } }

/-- Steps 1 and 2 of FREEZE: the phase, and the records, queues and envelopes (R184; 02, R30; 03, R71; 06, R117). -/
def formRecords (s : State) : State :=
  { s with
    phase := .operating
    auth := Vector.replicate 8 AuthRecord.initial
    queues := Vector.replicate 8 DemandQueue.initial
    envs := vmap allChans (fun c _ => Envelope.formed (s.consts.ceilingOf c)) s.envs }

/-- Step 4: the first recompute, with B = 0 (R184; 05, R115). -/
def firstRecompute (s : State) : State := recompute { s with allot := { s.allot with budget := 0 } }

/-- Step 5: the silence timer of every port in UP starts (R184; 09, R167). -/
def startSilence (s : State) : State :=
  { s with ports := vmap allPorts (fun p b => if b.link = .up then { b with silence := s.silenceStart p } else b) s.ports }

/-- Step 7: every port subscribes to all broadcast kinds, and STARTED is handed (R184; 10, R181). -/
def announceStart (s : State) : State :=
  broadcast .started { s with ports := vmap allPorts (fun _ b => { b with subscribed := broadcastKinds }) s.ports }

/-- The Period Timer starts with no period started (step 6; 01, R1). -/
def startTimer (s : State) : State := { s with period := 0, started := false }

/-- The action of an accepted FREEZE, in its order (R184). -/
def freezePart (s : State) : State :=
  announceStart (startTimer (startSilence (firstRecompute (deliverLevels allInputs (formRecords s)))))

def freezeOwner (p : Port) (_ : Unit) (s : State) : State × Reply :=
  if p ≠ s.safetyPort then (s, .bare .notSafety)
  else if !s.inConfig then (s, .bare .frozen)
  else
    match s.consts.freezeFault with
    | some (check, item) => (s, { status := .range, fields := beBytes 1 check ++ beBytes 1 item })
    | none => (freezePart s, .bare .ok)

/-! ### RESET_PART (11, R186) -/

/-- The safety port's RESET_PART is answered OK, and the reset waits for that answer; with the port DOWN it is due at
once (R186). -/
def armReset (p : Port) (s : State) : State :=
  { s with resetting := if (s.port p).link = .down then .due else .answerWaiting }

/-- The service of RESET_PART: its answer is marked, so that its completion makes the reset due. -/
def serveReset (p : Port) (s : State) : State :=
  match s.nextRequest p with
  | none => s
  | some f =>
    if f.code ≠ 5 then s
    else
      match readNothing f.fields with
      | none => putAnswer p f.number false (.bare .length) (popRequest p s)
      | some _ =>
        if p = s.safetyPort then putAnswer p f.number true (.bare .ok) (armReset p (popRequest p s))
        else putAnswer p f.number false (.bare .notSafety) (popRequest p s)

/-! ### The commands -/

/-- A frame whose code names no request (09, R169). -/
def execUnknownRequest (p : Port) (s : State) : Host.Outcome State Fault Refusal := done (serveUnknown p s)

/-- QUERY_PART (11, R185). -/
def execQueryPart (p : Port) (s : State) : Host.Outcome State Fault Refusal :=
  done (serve p 1 readNothing queryPartOwner s)

/-- WRITE_CONSTANT (11, R183). -/
def execWriteConstant (p : Port) (s : State) : Host.Outcome State Fault Refusal :=
  done (serve p 2 readWriteConstant (writeConstantOwner p) s)

/-- READ_CONSTANT (11, R183). -/
def execReadConstant (p : Port) (s : State) : Host.Outcome State Fault Refusal :=
  done (serve p 3 readReadConstant (readConstantOwner p) s)

/-- FREEZE (11, R184). -/
def execFreeze (p : Port) (s : State) : Host.Outcome State Fault Refusal :=
  done (serve p 4 readNothing (freezeOwner p) s)

/-- RESET_PART (11, R186). -/
def execResetPart (p : Port) (s : State) : Host.Outcome State Fault Refusal := done (serveReset p s)

end Sys2Proof.Machine
end

