-- ==== Sys2Proof/Machine/AuthorityRequests.lean ====
section
/-! DEFINITION. The requests to the Authority Unit (chapter 2): CLAIM, CANCEL_CLAIM, RELEASE, LOCK, UNLOCK,
QUERY_AUTHORITY; and the route checks that every tagged request makes first. -/

namespace Sys2Proof.Machine

/-- The checks shared by every tagged request (01, R17; 02, R31; 03, R55; 06, R120): UNFROZEN, UNROUTED, TANDEM; a
request that passes goes on with its channel. -/
def onRoute (p : Port) (tag : Nat) (own : Chan → State → State × Reply) (s : State) : State × Reply :=
  if s.inConfig then (s, .bare .unfrozen)
  else
    match s.consts.lookup tag p with
    | none => (s, .bare .unrouted)
    | some c => if s.consts.isFollower c then (s, .bare .tandem) else own c s

/-- The port holds the channel's authority record. -/
def State.holds (s : State) (p : Port) (l : Chan) : Bool := decide ((s.auRec l).holder = some p)

/-- An optional port. -/
def optPort (x : Option Port) : List Byte := optBytes (x.map portByte)

/-- The rank a present holder's record carries; 0 where there is none. -/
def AuthRecord.rankOf (r : AuthRecord) : Nat := r.holderRank.getD 0

/-! ### CLAIM (R32 to R35) -/

/-- CLAIM on a channel without a holder (R32, R33). -/
def grantFree (p : Port) (l : Chan) (s : State) : State × Reply :=
  let s1 := changeHolder l (some p) s
  (takeReactions s1, .okWith ([0] ++ wordBytes (s1.auRec l).epoch ++ optPort none))

/-- CLAIM granted by preemption (R33, R34, R37): the old holder is displaced without being queued. "Handover opened" is
answered yes just in RELEASING and RUN, where R36 makes a new handover record, one that replaces an open record
included (DESIGN CHOICE, log 38). -/
def grantOver (p old : Port) (l : Chan) (s : State) : State × Reply :=
  let s1 := handTo old .authority (changeHolder l (some p) s)
  (takeReactions s1,
    .okWith ([0] ++ wordBytes (s1.auRec l).epoch ++ optPort (some old) ++ [flagByte (s.eng l).state.running]))

/-- A claim that waits (R33, R35). -/
def queueClaim (p : Port) (l : Chan) (old : Port) (s : State) : State × Reply :=
  let r := s.auRec l
  let w := insertClaim { port := p, rank := s.rank p } r.waiting
  ({ s with auth := vset s.auth l { r with waiting := w } },
    .okWith ([1] ++ beBytes 1 ((waitPosition p w).getD 0) ++ portByte old ++ beBytes 1 r.rankOf))

/-- The judgement of a CLAIM against a record (Table 2-2). -/
def claimOn (p : Port) (wait : Bool) (l : Chan) (s : State) : State × Reply :=
  let r := s.auRec l
  if s.rank p = 0 then (s, .bare .rank)
  else if r.holder = some p then (s, { status := .already, fields := [0] })
  else
    match waitPosition p r.waiting, r.holder with
    | some n, _ => (s, { status := .already, fields := 1 :: beBytes 1 n })
    | none, none => grantFree p l s
    | none, some old =>
      if r.rankOf < s.rank p ∧ r.lock = none then grantOver p old l s
      else if wait then queueClaim p l old s
      else (s, { status := .taken, fields := portByte old ++ beBytes 1 r.rankOf ++ [flagByte r.lock.isSome] })

/-- A CLAIM from a port with the wake permit wakes a PARKED link once it has been served, whatever its outcome (R32;
05, R108; log 28). -/
def claimOwner (p : Port) (f : Nat × Bool) (s : State) : State × Reply :=
  let out := onRoute p f.1 (claimOn p f.2) s
  (if vget s.consts.wakePermit p then wakeLink out.1 else out.1, out.2)

/-! ### CANCEL_CLAIM (R38) -/

def cancelOn (p : Port) (l : Chan) (s : State) : State × Reply :=
  let r := s.auRec l
  match waitPosition p r.waiting with
  | none => (s, .bare .notWaiting)
  | some _ =>
    ({ s with auth := vset s.auth l { r with waiting := r.waiting.filter fun x => decide (x.port ≠ p) } }, .bare .ok)

def cancelClaimOwner (p : Port) (tag : Nat) (s : State) : State × Reply := onRoute p tag (cancelOn p) s

/-! ### RELEASE (R39) -/

def releaseOn (p : Port) (l : Chan) (s : State) : State × Reply :=
  if s.holds p l then
    let s1 := noticeHolder l (installHead l s)
    (takeReactions s1, .okWith (optPort (s1.auRec l).holder))
  else (s, .bare .notHolder)

def releaseOwner (p : Port) (tag : Nat) (s : State) : State × Reply := onRoute p tag (releaseOn p) s

/-! ### LOCK and UNLOCK (R40, R41) -/

/-- LOCK (R40). Its RANGE answer carries no item: the duration is the one value that can fail (DESIGN CHOICE, log 18). -/
def lockOn (p : Port) (ms : Nat) (l : Chan) (s : State) : State × Reply :=
  if s.holds p l then
    if inRange 1 10000 ms then
      ({ s with auth := vset s.auth l { s.auRec l with lock := some (s.periods ms) } },
        .okWith (beBytes 3 (s.periods ms)))
    else (s, .bare .range)
  else (s, .bare .notHolder)

def lockOwner (p : Port) (f : Nat × Nat) (s : State) : State × Reply := onRoute p f.1 (lockOn p f.2) s

def unlockOn (p : Port) (l : Chan) (s : State) : State × Reply :=
  if s.holds p l then
    if (s.auRec l).lock.isSome then
      let s1 := preemptByHead l { s with auth := vset s.auth l { s.auRec l with lock := none } }
      (takeReactions s1, .okWith (portByte ((s1.auRec l).holder.getD p)))
    else (s, .bare .notLocked)
  else (s, .bare .notHolder)

def unlockOwner (p : Port) (tag : Nat) (s : State) : State × Reply := onRoute p tag (unlockOn p) s

/-! ### QUERY_AUTHORITY (R48) -/

/-- The sending port's own standing: HOLDER, WAITING with its position, or NONE (Table 2-6). The position follows the code
of WAITING and has no presence byte; nothing follows the other codes (DESIGN CHOICE, log 30). -/
def AuthRecord.standing (r : AuthRecord) (p : Port) : List Byte :=
  if r.holder = some p then [0]
  else
    match waitPosition p r.waiting with
    | some n => 1 :: beBytes 1 n
    | none => [2]

/-- The fields of Table 2-6. -/
def State.authorityFields (s : State) (p : Port) (l : Chan) : List Byte :=
  let r := s.auRec l
  optPort r.holder ++ optBytes (r.holderRank.map (beBytes 1)) ++ wordBytes r.epoch ++
    optBytes (r.lock.map (beBytes 3)) ++ listBytes (r.waiting.map fun x => portByte x.port ++ beBytes 1 x.rank) ++
    optBytes (r.handover.map fun h => optPort h.previous ++ portByte h.newHolder ++ beBytes 2 h.left) ++
    r.standing p ++ stampBytes s.period

def queryAuthorityOwner (p : Port) (tag : Nat) (s : State) : State × Reply :=
  onRoute p tag (fun l s => (s, .okWith (s.authorityFields p l))) s

/-! ### The commands -/

/-- CLAIM (R32). -/
def execClaim (p : Port) (s : State) : Host.Outcome State Fault Refusal := done (serve p 6 readTagFlag (claimOwner p) s)

/-- CANCEL_CLAIM (R38). -/
def execCancelClaim (p : Port) (s : State) : Host.Outcome State Fault Refusal :=
  done (serve p 7 readByte (cancelClaimOwner p) s)

/-- RELEASE (R39). -/
def execRelease (p : Port) (s : State) : Host.Outcome State Fault Refusal := done (serve p 8 readByte (releaseOwner p) s)

/-- LOCK (R40). -/
def execLock (p : Port) (s : State) : Host.Outcome State Fault Refusal := done (serve p 9 readTagWord (lockOwner p) s)

/-- UNLOCK (R41). -/
def execUnlock (p : Port) (s : State) : Host.Outcome State Fault Refusal := done (serve p 10 readByte (unlockOwner p) s)

/-- QUERY_AUTHORITY (R48). -/
def execQueryAuthority (p : Port) (s : State) : Host.Outcome State Fault Refusal :=
  done (serve p 11 readByte (queryAuthorityOwner p) s)

end Sys2Proof.Machine
end

