-- ==== Sys2Proof/Machine/ChannelRequests.lean ====
section
/-! DEFINITION. The channel requests (chapter 1): ENGAGE, DISENGAGE, FORCE_RAMP, RESTORE, QUERY_CHANNEL. -/

namespace Sys2Proof.Machine

/-! ### ENGAGE (R18) -/

/-- Check 2 of ENGAGE: the status of a link that is not READY. -/
def LinkState.engageStatus (x : LinkState) : Option Status :=
  match x with
  | .ready => none
  | .parked => some .parked
  | .waking => some .waking
  | .discharged | .charging | .settling | .draining => some .link

/-- Some channel of the group has its brake-fault mark set (R18, check 5). -/
def State.brakeMarked (s : State) (l : Chan) : Bool := (s.group l).any fun c => (s.eng c).brakeMark

/-- The checks of ENGAGE that follow the permission, in their order. -/
def State.engageFault (s : State) (l : Chan) : Option Status :=
  if s.linkReactionInService then some .busy
  else
    match s.link.state.engageStatus with
    | some x => some x
    | none =>
      if s.react.latch then some .safeLatch
      else if (s.eng l).state ≠ .off then some .state
      else if s.brakeMarked l then some .state
      else none

def engageOn (p : Port) (l : Chan) (s : State) : State × Reply :=
  if s.holds p l then
    match s.engageFault l with
    | some x => (if x = .parked ∧ vget s.consts.wakePermit p = true then wakeLink s else s, .bare x)
    | none => (toReleasing l s, .bare .ok)
  else (s, .bare .notHolder)

def engageOwner (p : Port) (tag : Nat) (s : State) : State × Reply := onRoute p tag (engageOn p) s

/-! ### DISENGAGE (R19) -/

def disengageOn (p : Port) (l : Chan) (s : State) : State × Reply :=
  if s.holds p l then
    if (s.eng l).state.running then (takeReactions (toHolding l s), .bare .ok) else (s, .bare .state)
  else (s, .bare .notHolder)

def disengageOwner (p : Port) (tag : Nat) (s : State) : State × Reply := onRoute p tag (disengageOn p) s

/-! ### FORCE_RAMP (R20) -/

/-- FORCE_RAMP and RESTORE require the holder or the safety port (R17). -/
def State.holdsOrSafety (s : State) (p : Port) (l : Chan) : Bool := s.holds p l || decide (p = s.safetyPort)

def forceRampOn (p : Port) (l : Chan) (s : State) : State × Reply :=
  if s.holdsOrSafety p l then
    if (s.eng l).state = .holding then (toRamping l s, .bare .ok) else (s, .bare .state)
  else (s, .bare .notHolder)

def forceRampOwner (p : Port) (tag : Nat) (s : State) : State × Reply := onRoute p tag (forceRampOn p) s

/-! ### RESTORE (R21) -/

/-- The trip record is removed and the brake-fault mark cleared on each channel of the group. -/
def clearTrips : List Chan → State → State
  | [], s => s
  | c :: rest, s =>
    clearTrips rest { s with engines := vset s.engines c { s.eng c with trip := none, brakeMark := false } }

/-- The brake-fault mark is cleared on each channel of the group. -/
def clearMarks : List Chan → State → State
  | [], s => s
  | c :: rest, s => clearMarks rest { s with engines := vset s.engines c { s.eng c with brakeMark := false } }

/-- The last good sample of a channel of the group carries desat or overtemp (R21, check 3). -/
def State.bridgeActive (s : State) (l : Chan) : Bool := (s.group l).any fun c => (s.eng c).desat || (s.eng c).overtemp

def restoreOn (p : Port) (l : Chan) (s : State) : State × Reply :=
  if s.holdsOrSafety p l then
    if s.linkReactionInService then (s, .bare .busy)
    else
      match (s.eng l).state with
      | .tripped =>
        if s.bridgeActive l then (s, .bare .active) else (toOff l (clearTrips (s.group l) s), .bare .ok)
      | .off => (clearMarks (s.group l) s, .bare .ok)
      | .releasing | .run | .holding | .ramping | .stopping => (s, .bare .state)
  else (s, .bare .notHolder)

def restoreOwner (p : Port) (tag : Nat) (s : State) : State × Reply := onRoute p tag (restoreOn p) s

/-! ### QUERY_CHANNEL (R22) -/

/-- A trip record {fault kind, period number, detail value}. -/
def TripRecord.bytes (r : TripRecord) : List Byte :=
  beBytes 1 r.kind.index ++ stampBytes r.period ++ beBytes 3 r.detail

/-- The per-channel fields of Table 1-6; the gate enable is a flag, 1 for on (DESIGN CHOICE, log 33). -/
def State.channelFields (s : State) (c : Chan) : List Byte :=
  let e := s.eng c
  [flagByte e.gateEnable] ++ beBytes 1 (s.feedback c).index ++ [flagByte e.derate, flagByte e.brakeMark] ++
    intBytes e.idMeas ++ intBytes e.iqMeas ++ beBytes 2 (vget s.allot.grant c) ++
    [flagByte e.peakLimited, flagByte e.grantLimited, flagByte e.voltLimited] ++ beBytes 6 e.heat ++
    optBytes (e.trip.map TripRecord.bytes)

/-- The fields of Table 1-6: the group's once, then each channel's, leader first. -/
def State.groupFields (s : State) (l : Chan) : List Byte :=
  let e := s.eng l
  beBytes 1 e.state.index ++ stampBytes s.period ++ optBytes (e.timer.map (beBytes 3)) ++
    intBytes e.active.iq ++ intBytes e.active.id ++ intBytes e.active.split ++ intBytes e.active.vff ++
    ((s.group l).map s.channelFields).flatten

def queryChannelOwner (p : Port) (tag : Nat) (s : State) : State × Reply :=
  onRoute p tag (fun l s => (s, .okWith (s.groupFields l))) s

/-! ### The commands -/

/-- ENGAGE (R18). -/
def execEngage (p : Port) (s : State) : Host.Outcome State Fault Refusal := done (serve p 12 readByte (engageOwner p) s)

/-- DISENGAGE (R19). -/
def execDisengage (p : Port) (s : State) : Host.Outcome State Fault Refusal :=
  done (serve p 13 readByte (disengageOwner p) s)

/-- FORCE_RAMP (R20). -/
def execForceRamp (p : Port) (s : State) : Host.Outcome State Fault Refusal :=
  done (serve p 14 readByte (forceRampOwner p) s)

/-- RESTORE (R21). -/
def execRestore (p : Port) (s : State) : Host.Outcome State Fault Refusal := done (serve p 15 readByte (restoreOwner p) s)

/-- QUERY_CHANNEL (R22). -/
def execQueryChannel (p : Port) (s : State) : Host.Outcome State Fault Refusal :=
  done (serve p 16 readByte (queryChannelOwner p) s)

end Sys2Proof.Machine
end

