-- ==== Sys2Proof/Machine/Trig.lean ====
section
/-! DEFINITION. The exact arithmetic of the current loop: square roots, the cosine and sine of an electrical angle,
and rounding toward zero of a value known to far more bits than its rounding needs (log 8). -/

namespace Sys2Proof.Machine

/-- Bits of the fraction of a fixed-point cosine, sine or root. -/
def fracBits : Nat := 320

/-- One in fixed point. -/
def fixOne : Nat := 2 ^ fracBits

/-- Bits of the fraction to which a value is resolved before it is rounded toward zero (log 8). -/
def snapBits : Nat := 224

/-- The greatest r < 2^k with r * r ≤ n above the bits already chosen in `r`. -/
def isqrtFrom : Nat → Nat → Nat → Nat
  | 0, _, r => r
  | k + 1, n, r => if (r + 2 ^ k) * (r + 2 ^ k) ≤ n then isqrtFrom k n (r + 2 ^ k) else isqrtFrom k n r

/-- The square root rounded down. -/
def isqrt (n : Nat) : Nat := isqrtFrom (n.log2 / 2 + 1) n 0

/-- The cosine and sine of 2π·2^j/65536, for j from 0 to 13, in fixed point, each to the nearest: from
cos 45° = sin 45° = √½ by the half-angle formulas (checked in Tests/Slice0.lean by the double-angle formulas). -/
def trigTable (j : Nat) : Int × Int :=
  match j with
  | 0 => (0xffffffec42c33682aa9dc5cd19cf3965edad8abfc8a30e74fd1b8d4952e2428e1b1e5d7f88339d19,
      0x6487ed4e7b3cc45ac447f348e8be919fd3e8125837a1a259bf2995353d0341e420bf565934596)
  | 1 => (0xffffffb10b0cdd15f048884e0338678a68473ffd5ab2f6391952b16cde6e42c9d55fdaa94e721774,
      0xc90fda8d75abdcb23c56dd27796af9d52ef5e3af7bf5b79551c6549352acbfd2d058cfca90887)
  | 2 => (0xfffffec42c33a50c1e35716e2aa0a861b035c2722fc1ac23876c0385e96061f447e13347c0eebd37,
      0x1921fb49ee4ea67a2535d12914f7f68472c230a19a693a9c14b511d495387147e2904b1eade20c)
  | 3 => (0xfffffb10b0d19f76491a703231e0a12de2468146348ae7f19fc366b71fbcdbaefd1d861023053a6c,
      0x3243f655d966c0c3b0abf2b35a62f7dd643b4d5699435c13c89feea7ca50456028110d76611b7a)
  | 4 => (0xffffec42c3773235ec9e2e75cb525f2b82fb1595a802d7ca524d23c1db14e4385ecd631a37891330,
      0x6487eabb991cb611ad1d7b5620834a0c9da5aaf22266df3b2c5ce879374c25e5b90c24854ee7a5)
  | 5 => (0xffffb10b10e80e953031437d7eccb9de8258789aa03304cff809aff08417d907ffe7c48b4bbfe9f2,
      0xc90fc5f66525d257480f7956b647076519d644d66eee778005e3ef562e1ed4c0b269db47325c35)
  | 6 => (0xfffec42c7454926b38e310779edfec68315b99d9065e7168c011651d61f1b359f432241a8c46a9ec,
      0x1921f0fe6700711ab967fe6b7a9b037548e66218b87e81853f145827349ad8fd886fa37066bd60d)
  | 7 => (0xfffb10b4dc96dabbb47903f7a19f8ee1ff8d89566a2181dbab255bf76857a287c7e9f8e9e7f57264,
      0x3243a3f9bd8f08cc3c75f41b6ce7aa7f0257406fa2c2f2506e03a898ebf83dbe36885f0fd7b869a)
  | 8 => (0xffec4304266865d95657552366961732568fb69282182f32ef6f30da8fe307e8ab5dc1a419785765,
      0x648557de8d99f7e4e29cf6e5fed067962652f9e1aa508ac0cf31ac036de81c6a8390bc33658b7d6)
  | 9 => (0xffb10f1bcb6bef1d421e8edaaf59453dcf53e4baa403250b5750700a6df265241bf58f6a90d520d6,
      0xc8fb2f886ec09f376a17954b2b7c5171216769fcda0d0ebf36fc97b1fef1fdea8902b24fdd1fb46)
  | 10 => (0xfec46d1e89292cf041390efdc726e9ef5a2c976d196a3567b2681b468efba361a0e9ee7a85258e45,
      0x1917a6bc29b42be1d8e72d912977ee7121030810a8ddd093d9abe105fe0fbea301af208bbd6f4013)
  | 11 => (0xfb14be7fbae581562172a361fd2a722ec5f40e3fd8f18ae1b1997321b48e8b1b947a5373353c45a5,
      0x31f17078d34c156c9732300393f33613f394e58d12972f1d39438767895414c1a28fbdbe7eb1987e)
  | 12 => (0xec835e79946a31457e610231ac1d6180f0a83d3cd0dae9b5db897c2384083746a6340cb65c4b11d6,
      0x61f78a9abaa58b4698916152cf7eee1bbdf1f5b4ab3de24c3a3c159062718f716d12d59bba9c4881)
  | 13 => (0xb504f333f9de6484597d89b3754abe9f1d6f60ba893ba84ced17ac85833399154afc83043ab8a2c4,
      0xb504f333f9de6484597d89b3754abe9f1d6f60ba893ba84ced17ac85833399154afc83043ab8a2c4)
  | _ => (0, 0)

/-- A product of two fixed-point numbers, to the nearest. -/
def fixMul (x y : Int) : Int := (x * y + (fixOne / 2 : Nat)) / (fixOne : Nat)

/-- The sum of two angles by their cosines and sines. -/
def turnBy (p q : Int × Int) : Int × Int :=
  (fixMul p.1 q.1 - fixMul p.2 q.2, fixMul p.2 q.1 + fixMul p.1 q.2)

/-- The cosine and sine of an angle below a quarter revolution, bit by bit of its count. -/
def cosSinQuarter (n : Nat) : Int × Int :=
  [0, 1, 2, 3, 4, 5, 6, 7, 8, 9, 10, 11, 12, 13].foldl
    (fun p j => if n.testBit j then (if p = ((fixOne : Int), 0) then trigTable j else turnBy p (trigTable j)) else p)
    ((fixOne : Int), 0)

/-- The cosine and sine of an electrical angle of `n` counts, 65536 to the revolution (04, R79), in fixed point.
Quarter revolutions only exchange and negate, so they are exact. -/
def cosSin (n : Nat) : Int × Int :=
  let p := cosSinQuarter (n % 16384)
  match n / 16384 % 4 with
  | 0 => (p.1, p.2)
  | 1 => (-p.2, p.1)
  | 2 => (-p.1, -p.2)
  | _ => (p.2, -p.1)

/-- √3 in fixed point, rounded down. -/
def fixSqrt3 : Int := isqrt (3 * (fixOne * fixOne))

/-- num/den rounded toward zero, where num/den is an exact value but for an error far below 2^-snapBits: a value that
close to a whole number is taken as that number (log 8). -/
def snapDiv (num : Int) (den : Nat) : Int :=
  let q := (num * (2 ^ (snapBits + 1) : Nat) + (den : Int)) / (2 * (den : Int))
  q.tdiv ((2 ^ snapBits : Nat) : Int)

/-- A value limited to a lower and an upper end. -/
def clampInt (lo hi x : Int) : Int := if x < lo then lo else if hi < x then hi else x

end Sys2Proof.Machine
end

