-- ==== Sys2Proof/Machine/Loop.lean ====
section
/-! DEFINITION. The current loop (chapter 4): the arithmetic of one good sample as functions of plain values, and the
handling of a sample record. -/

namespace Sys2Proof.Machine

/-! ### Checks and measured currents (R77 to R79) -/

/-- The third phase current (R77). -/
def thirdPhase (ia ib : Int) : Int := -ia - ib

/-- The largest of the three magnitudes (R77). -/
def largestPhase (ia ib : Int) : Nat := max (max ia.natAbs ib.natAbs) (thirdPhase ia ib).natAbs

/-- The trip level: 125 % of the rating ceiling, rounded toward zero, at most 32767 (R77). -/
def tripLevel (ceiling : Nat) : Nat := min 32767 (ceiling * 125 / 100)

/-- The detail value of BRIDGE_FAULT: 1 for desat, 2 for overtemp, 3 for both (R78). -/
def bridgeDetail (desat overtemp : Bool) : Nat := (if desat then 1 else 0) + (if overtemp then 2 else 0)

/-- The measured flux and torque currents (R79): α = ia, β = (ia + 2·ib)/√3, turned by the angle. -/
def measured (ia ib : Int) (angle : Nat) : Int × Int :=
  let cs := cosSin angle
  let m := ia + 2 * ib
  let one : Int := (fixOne : Nat)
  let den : Nat := 3 * (fixOne * fixOne)
  let d := 3 * ia * cs.1 * one + m * fixSqrt3 * cs.2
  let q := m * fixSqrt3 * cs.1 - 3 * ia * cs.2 * one
  (clampInt (-32767) 32767 (snapDiv d den), clampInt (-32767) 32767 (snapDiv q den))

/-! ### Thermal accounting (R80, R81) -/

/-- The upper end of H, in 1/65536 A²s. -/
def heatMax : Int := 4294967295 * 65536

/-- The new value of H, in 1/65536 A²s: H + (id² + iq² − Ic²)·T, rounded toward zero and bounded (R80). Currents are
counts of 10 mA and T is counted in half microseconds, so the fraction's denominator is 10^4 · 2·10^6. -/
def heatNext (heat : Nat) (idm iqm : Int) (ic halfMicros : Nat) : Nat :=
  let den : Int := 20000000000
  let excess : Int := idm * idm + iqm * iqm - (ic * ic : Nat)
  (clampInt 0 heatMax (((heat : Int) * den + excess * (halfMicros : Int) * 65536).tdiv den)).toNat

/-- H is at or above the threshold Θ = Ic²·τ (R80). -/
def heatAbove (heat ic tau : Nat) : Bool := decide (ic * ic * tau * 65536 ≤ heat * 10000)

/-- H is below Θ/2 (R81). -/
def heatBelowHalf (heat ic tau : Nat) : Bool := decide (heat * 20000 < ic * ic * tau * 65536)

/-! ### Targets (R82 to R84) -/

/-- Half the split added to or taken from the torque demand, rounded toward zero (03, R52). -/
def splitTarget (iq split : Int) : Int := (2 * iq + split).tdiv 2

/-- A magnitude limit with the sign kept (R83). -/
def limitTo (m : Nat) (x : Int) : Int := clampInt (-(m : Int)) m x

/-- The targets under the effective peak, flux first, and whether either clamp changed its target (R83). -/
structure PeakTargets where
  idT     : Int
  iqU     : Int
  limited : Bool
  deriving DecidableEq, Repr

def peakTargets (effectivePeak : Nat) (idD iqD : Int) : PeakTargets :=
  let idT := limitTo effectivePeak idD
  let room := isqrt (effectivePeak * effectivePeak - idT.natAbs * idT.natAbs)
  let iqU := limitTo room iqD
  { idT := idT, iqU := iqU, limited := decide (idT ≠ idD) || decide (iqU ≠ iqD) }

/-- The grant limits the torque target (R84): the applied target and the grant-limited flag. -/
def grantTarget (iqU : Int) (grant : Nat) (lastDraw : Int) : Int × Bool :=
  if 0 < lastDraw ∧ (grant : Int) < lastDraw then ((iqU * (grant : Int)).tdiv lastDraw, true) else (iqU, false)

/-! ### The PI law (R85). Voltages are held over the denominator 10^4 · 65536 V, so that gains in 0.01 V/A, errors in
counts of 0.01 A, integrators in 1/65536 V and feed-forward in 0.1 V are whole numbers of it. -/

/-- The denominator of a voltage. -/
def voltDen : Nat := 655360000

/-- An axis voltage over voltDen: kp·e + I + feed-forward. -/
def axisVoltage (kp : Nat) (error integ vff : Int) : Int :=
  (kp : Int) * error * 65536 + integ * 10000 + vff * 65536000

/-- The voltage limit 0.577·Vlink over voltDen (Vlink in 0.1 V). -/
def voltLimit (vlink : Nat) : Nat := 577 * vlink * 65536

/-- The square of the magnitude of the voltage vector. -/
def voltSquare (vd vq : Int) : Nat := vd.natAbs * vd.natAbs + vq.natAbs * vq.natAbs

/-- The magnitude exceeds the voltage limit. -/
def voltOver (vlink : Nat) (vd vq : Int) : Bool := decide (voltLimit vlink * voltLimit vlink < voltSquare vd vq)

/-- The end of an integrator's range, 6553.5 V in 1/65536 V. -/
def integMax : Int := 429490176

/-- An integrator advanced by ki·e·T, rounded toward zero to 1/65536 V and bounded (R85). -/
def integNext (integ : Int) (ki : Nat) (error : Int) (halfMicros : Nat) : Int :=
  clampInt (-integMax) integMax ((integ * 200000000 + (ki : Int) * error * (halfMicros : Int) * 65536).tdiv 200000000)

/-! ### The inverse transform and the duties (R86) -/

/-- The factor that brings the voltage vector to the limit, in fixed point; one where it does not exceed it (R85). -/
def voltScale (vlink : Nat) (vd vq : Int) : Nat :=
  if voltOver vlink vd vq then isqrt (voltLimit vlink * voltLimit vlink * (fixOne * fixOne) / voltSquare vd vq) else fixOne

/-- One phase duty from twice the shifted phase voltage, whose unit is voltDen · 4 · fixOne³ to the volt (R86). -/
def dutyOf (vlink : Nat) (x : Int) : Nat :=
  let den : Nat := 4 * voltDen * (fixOne * fixOne * fixOne) * vlink
  (clampInt 0 65535 (snapDiv (32768 * (den : Int) + 655360 * x) den)).toNat

/-- The three duties: the vector limited, turned back by the angle, split into phases and shifted to mid-point (R86). -/
def dutiesOf (vlink : Nat) (vd vq : Int) (angle : Nat) : Duties :=
  let cs := cosSin angle
  let k : Int := (voltScale vlink vd vq : Nat)
  let one : Int := (fixOne : Nat)
  let alpha := (vd * cs.1 - vq * cs.2) * k
  let beta := (vd * cs.2 + vq * cs.1) * k
  let a := 2 * alpha * one
  let b := -(alpha * one) + fixSqrt3 * beta
  let c := -(alpha * one) - fixSqrt3 * beta
  let mid := max (max a b) c + min (min a b) c
  { a := dutyOf vlink (2 * a - mid), b := dutyOf vlink (2 * b - mid), c := dutyOf vlink (2 * c - mid) }

/-! ### The draw report (R88) -/

/-- The draw, 1.5·(v_d·id_m + v_q·iq_m)/Vlink in current counts, rounded toward zero and limited. Where the vector is
limited the exact value holds the root of a whole number, so its magnitude is the root, rounded down, of its square. -/
def drawOf (vlink : Nat) (vd vq idm iqm : Int) : Int :=
  let p := 15 * (vd * idm + vq * iqm)
  let den := voltDen * vlink
  let raw : Int :=
    if voltOver vlink vd vq then
      let lim := voltLimit vlink
      let m := isqrt (p.natAbs * p.natAbs * (lim * lim) / (den * den * voltSquare vd vq))
      if p < 0 then -(m : Int) else m
    else p.tdiv den
  clampInt (-32767) 32767 raw

/-- The request of a draw report (R88). -/
def requestOf (draw lastDraw iqU iqT : Int) (grantLimited : Bool) : Nat :=
  let base : Int := max 0 draw
  let raw : Int :=
    if !grantLimited || decide (iqU = 0) then base
    else if iqT ≠ 0 then (base * (iqU.natAbs : Int)).tdiv iqT.natAbs
    else lastDraw
  (clampInt 0 32767 raw).toNat

/-! ### The handling of a good sample (R76) -/

/-- Steps 1 to 3's records on the engine: the sample is taken for the period, the miss count is 0, flags and measured
currents are kept (R73, R74, R79). -/
def Engine.keepSample (e : Engine) (d : SampleData) : Engine :=
  let m := measured d.ia d.ib d.angle
  { e with
    sampleTaken := true, sampleEver := true, miss := 0
    desat := d.desat, overtemp := d.overtemp, moduleReady := d.ready
    idMeas := m.1, iqMeas := m.2 }

/-- Step 2: the overcurrent check, then the bridge-fault check (R77, R78). -/
def sampleChecks (c : Chan) (d : SampleData) (s : State) : State :=
  let s1 :=
    if tripLevel (vget s.consts.ceiling c) < largestPhase d.ia d.ib then
      detectTrip .overcurrent c (largestPhase d.ia d.ib) s
    else s
  if d.desat || d.overtemp then detectTrip .bridgeFault c (bridgeDetail d.desat d.overtemp) s1 else s1

/-- The guarded values a channel reads: its group's (R89; 01, R4). -/
def State.guardedOf (s : State) (c : Chan) : Guarded := (s.env (s.lead c)).guarded

/-- The accumulator takes its new value; at or above the threshold with the indication clear, THERMAL is reported (R80). -/
def chargeHeat (c : Chan) (heat : Nat) (above : Bool) (s : State) : State :=
  let e := s.eng c
  if above && !e.thermalInd then
    reportOrdinary .thermal (.channel c) none
      { s with engines := vset s.engines c { e with heat := heat, thermalInd := true } }
  else { s with engines := vset s.engines c { e with heat := heat } }

/-- The new accumulator of a channel from its measured currents (R80). -/
def State.heatOf (s : State) (c : Chan) : Nat :=
  heatNext (s.eng c).heat (s.eng c).idMeas (s.eng c).iqMeas (s.guardedOf c).continuous
    (Config.periodHalfMicros s.consts.periodCode)

/-- Step 4, first half: the accumulator, and the THERMAL report with its indication (R80). -/
def thermalUpdate (c : Chan) (s : State) : State :=
  chargeHeat c (s.heatOf c) (heatAbove (s.heatOf c) (s.guardedOf c).continuous (s.guardedOf c).tau) s

/-- The indication is cleared, and with it the derate mark the sample found, with its THERMAL notice (R81). A mark that
a reaction freed by the sample's own trip has set since is not the one the sample reads: it stays set for the next good
sample to judge (R89, R149). -/
def clearThermal (c : Chan) (found below : Bool) (s : State) : State :=
  let e := s.eng c
  if below then
    let s1 := { s with engines := vset s.engines c { e with thermalInd := false, derate := e.derate && !found } }
    if found then broadcast .thermal s1 else s1
  else s

/-- Step 4, second half: the comparison with Θ/2 (R81). -/
def thermalClear (c : Chan) (found : Bool) (s : State) : State :=
  clearThermal c found (heatBelowHalf (s.eng c).heat (s.guardedOf c).continuous (s.guardedOf c).tau) s

/-- The torque target a channel forms from the demand of its group (R82; 03, R52). -/
def State.torqueDemand (s : State) (c : Chan) (d : Demand) : Int :=
  if s.consts.isFollower c then splitTarget d.iq (-d.split)
  else if s.consts.isLeader c then splitTarget d.iq d.split
  else d.iq

/-- What a loop run computes (steps 5 to 7 and 9). -/
structure LoopRun where
  peakLimited  : Bool
  grantLimited : Bool
  voltLimited  : Bool
  integD       : Int
  integQ       : Int
  duties       : Duties
  draw         : Int
  request      : Nat
  deriving DecidableEq, Repr

/-- A loop run of a channel, against the values it reads (R82 to R88); `derate` is the mark the sample found, less a
clearing in its own step 4 (R81, R89). -/
def loopRun (c : Chan) (angle : Nat) (derate : Bool) (s : State) : LoopRun :=
  let e := s.eng c
  let g := s.guardedOf c
  let o := (s.env (s.lead c)).opens
  let d := (s.eng (s.lead c)).active
  let t := peakTargets (if derate then g.continuous else g.peak) d.id (s.torqueDemand c d)
  let q := grantTarget t.iqU (vget s.allot.grant c) e.lastDraw
  let ed := t.idT - e.idMeas
  let eq := q.1 - e.iqMeas
  let vd := axisVoltage o.kpD ed e.integD 0
  let vq := axisVoltage o.kpQ eq e.integQ d.vff
  let limited := voltOver s.vlink vd vq
  let thu := Config.periodHalfMicros s.consts.periodCode
  let draw := drawOf s.vlink vd vq e.idMeas e.iqMeas
  { peakLimited := t.limited, grantLimited := q.2, voltLimited := limited
    integD := if limited then e.integD else integNext e.integD o.kiD ed thu
    integQ := if limited then e.integQ else integNext e.integQ o.kiQ eq thu
    duties := dutiesOf s.vlink vd vq angle
    draw := draw, request := requestOf draw e.lastDraw t.iqU q.1 q.2 }

/-- The engine keeps what a loop run leaves. -/
def Engine.keepRun (e : Engine) (r : LoopRun) : Engine :=
  { e with
    peakLimited := r.peakLimited, grantLimited := r.grantLimited, voltLimited := r.voltLimited
    integD := r.integD, integQ := r.integQ, lastDraw := r.draw }

/-- Steps 5 to 9: with the gate enable on, the loop run, its gate record and its draw report; else a gate record with
enable off and zero duties (R76, R87, R88). -/
def loopAndRecord (c : Chan) (angle : Nat) (derate : Bool) (s : State) : State :=
  let next := s.stamp16 + 1
  if (s.eng c).gateEnable then
    let r := loopRun c angle derate s
    setRequest c r.request
      (sendGate c next r.duties true { s with engines := vset s.engines c ((s.eng c).keepRun r) })
  else sendGate c next Duties.zero false s

/-- The derate mark the loop run reads: the mark found at the sample, unless its own step 4 has cleared it (R81, R89). -/
def State.derateFor (found : Bool) (s : State) (c : Chan) : Bool := found && (s.eng c).derate

/-- The sample's records on the engine (R73, R74, R79). -/
def recordSample (c : Chan) (d : SampleData) (s : State) : State :=
  { s with engines := vset s.engines c ((s.eng c).keepSample d) }

/-- A change of the module's readiness is reported (R73). -/
def noteReadiness (c : Chan) (before after : Bool) (s : State) : State :=
  if before = after then s else reportReady c after s

/-- Step 4, under the derate mark the sample found (R80, R81, R89). -/
def thermalStep (c : Chan) (found : Bool) (s : State) : State := thermalClear c found (thermalUpdate c s)

/-- Steps 4 to 9, under the derate mark the sample found (R80 to R89). -/
def finishSample (c : Chan) (angle : Nat) (found : Bool) (s : State) : State :=
  loopAndRecord c angle ((thermalStep c found s).derateFor found c) (thermalStep c found s)

/-- A good sample, in the steps of Table 4-3 (R76). -/
def takeSample (c : Chan) (d : SampleData) (s : State) : State :=
  finishSample c d.angle (s.eng c).derate
    (sampleChecks c d (noteReadiness c (s.eng c).moduleReady d.ready (recordSample c d s)))

/-- A sample record is good (R73). -/
def State.goodSample (s : State) (c : Chan) (d : SampleData) : Bool :=
  !s.inConfig && s.started && s.present c && decide (d.stamp = s.stamp16) && !(s.eng c).sampleTaken

/-- A sample record arrives on a bridge link (R73; 12, R193). -/
def receiveSample (c : Chan) (bytes : List Byte) (s : State) : State :=
  match parseSample bytes with
  | none => s
  | some d => if s.goodSample c d then takeSample c d s else s

end Sys2Proof.Machine
end

