-- ==== Sys2Proof/Machine/DemandRequests.lean ====
section
/-! DEFINITION. The requests to the Demand Unit (chapter 3): DEMAND, RETRACT, FLUSH, QUERY_QUEUE. -/

namespace Sys2Proof.Machine

/-! ### Stamps (R53) -/

/-- The distance of a stamp from the period it is judged against. -/
def distance (judged stamp : W32) : Nat := (stamp - judged).toNat

/-- The stamp is late: D = 0 or D from 2^31 on. -/
def isLate (judged stamp : W32) : Bool := decide (distance judged stamp = 0) || decide (2147483648 ≤ distance judged stamp)

/-- The stamp is far: D from 65 to 2^31 − 1. -/
def isFar (judged stamp : W32) : Bool :=
  decide (Config.horizon < distance judged stamp) && decide (distance judged stamp < 2147483648)

/-! ### The judgement of entries (R57, R58; 12, R192) -/

/-- The outcomes of one DEMAND entry, in the order of Table 3-2. -/
inductive EntryOutcome where
  | field
  | late
  | far
  | replaced
  | full
  | accepted
  deriving DecidableEq, Repr

def EntryOutcome.index (x : EntryOutcome) : Nat :=
  match x with
  | .field => 0
  | .late => 1
  | .far => 2
  | .replaced => 3
  | .full => 4
  | .accepted => 5

/-- A value of −32767 to 32767: −32768 is excluded (R50). -/
def inSpan (x : Int) : Bool := decide (-32767 ≤ x) && decide (x ≤ 32767)

/-- The FIELD check passes (R58, R192). -/
def RawEntry.fieldOk (leader : Bool) (x : RawEntry) : Bool :=
  decide (x.presence.toNat < 8) && inSpan x.iq && (!x.presence.getLsbD 0 || inSpan x.id) &&
    (!x.presence.getLsbD 2 || inSpan x.vff) &&
    (!x.presence.getLsbD 1 ||
      (leader && inSpan x.split && inSpan (splitTarget x.iq x.split) && inSpan (splitTarget x.iq (-x.split))))

/-- The entry as the queue stores it: a field whose presence bit is clear is absent (R50, R192). -/
def RawEntry.stored (x : RawEntry) : Entry :=
  { stamp := x.stamp, iq := x.iq
    id := if x.presence.getLsbD 0 then some x.id else none
    split := if x.presence.getLsbD 1 then some x.split else none
    vff := if x.presence.getLsbD 2 then some x.vff else none }

/-- The queued entry of the same stamp is overwritten whole (R57). -/
def overwriteEntry (x : Entry) (q : List Entry) : List Entry := q.map fun y => if y.stamp = x.stamp then x else y

/-- The entry is inserted at its stamp position (R57). -/
def insertEntry (judged : W32) (x : Entry) : List Entry → List Entry
  | [] => [x]
  | y :: rest =>
    if distance judged x.stamp < distance judged y.stamp then x :: y :: rest else y :: insertEntry judged x rest

/-- One entry's outcome and the queue it leaves (Table 3-2). -/
def judgeEntry (judged : W32) (leader : Bool) (x : RawEntry) (q : List Entry) : List Entry × EntryOutcome :=
  if !x.fieldOk leader then (q, .field)
  else if isLate judged x.stamp then (q, .late)
  else if isFar judged x.stamp then (q, .far)
  else if q.any (fun y => decide (y.stamp = x.stamp)) then (overwriteEntry x.stored q, .replaced)
  else if Config.queueSlots ≤ q.length then (q, .full)
  else (insertEntry judged x.stored q, .accepted)

/-- The entries of a request in turn, each against the queue as the ones before it left it (R57). -/
def judgeEntries (judged : W32) (leader : Bool) : List RawEntry → List Entry → List Entry × List EntryOutcome
  | [], q => (q, [])
  | x :: rest, q =>
    let one := judgeEntry judged leader x q
    let more := judgeEntries judged leader rest one.1
    (more.1, one.2 :: more.2)

/-! ### DEMAND (R55 to R59) -/

/-- Checks 4 and 5 of R55: the holder, then the epoch. -/
def asHolder (p : Port) (epoch : W16) (own : Chan → State → State × Reply) (l : Chan) (s : State) : State × Reply :=
  if s.holds p l then if epoch = (s.auRec l).epoch then own l s else (s, .bare .epoch) else (s, .bare .notHolder)

/-- The channel states that accept DEMAND (R55, check 6). -/
def ChState.demandable (x : ChState) : Bool :=
  match x with
  | .off | .releasing | .run => true
  | .holding | .ramping | .stopping | .tripped => false

def setEntries (l : Chan) (es : List Entry) (s : State) : State :=
  { s with queues := vset s.queues l { s.queue l with entries := es } }

/-- DEMAND, past the checks of the holder and the epoch (R55 to R59): the state, the judgement entry by entry, the
answer. The answer gives the outcomes as a counted list (DESIGN CHOICE, log 15). -/
def demandOn (es : List RawEntry) (l : Chan) (s : State) : State × Reply :=
  if (s.eng l).state.demandable then
    let out := judgeEntries s.judgedPeriod (s.consts.isLeader l) es (s.queue l).entries
    (setEntries l out.1 s,
      .okWith (listBytes (out.2.map fun o => beBytes 1 o.index) ++ beBytes 1 out.1.length ++
        optBytes ((s.queue l).lastApplied.map stampBytes)))
  else (s, .bare .state)

def demandOwner (p : Port) (f : DemandFields) (s : State) : State × Reply :=
  onRoute p f.tag (asHolder p f.epoch (demandOn f.entries)) s

/-! ### RETRACT, FLUSH, QUERY_QUEUE (R61, R62, R64) -/

/-- The entries a RETRACT leaves (R61). -/
def keptBefore (judged from_ : W32) (q : List Entry) : List Entry :=
  if isLate judged from_ then []
  else if isFar judged from_ then q
  else q.filter fun y => decide (distance judged y.stamp < distance judged from_)

def retractOn (from_ : W32) (l : Chan) (s : State) : State × Reply :=
  let kept := keptBefore s.judgedPeriod from_ (s.queue l).entries
  (setEntries l kept s, .okWith (beBytes 1 ((s.queue l).entries.length - kept.length) ++ beBytes 1 kept.length))

def retractOwner (p : Port) (f : RetractFields) (s : State) : State × Reply :=
  onRoute p f.tag (asHolder p f.epoch (retractOn f.stamp)) s

def flushOn (l : Chan) (s : State) : State × Reply :=
  (flushQueue l s, .okWith (beBytes 1 (s.queue l).entries.length))

def flushOwner (p : Port) (f : Nat × Nat) (s : State) : State × Reply :=
  onRoute p f.1 (asHolder p (BitVec.ofNat 16 f.2) flushOn) s

/-- The fields of Table 3-4. -/
def State.queueFields (s : State) (l : Chan) : List Byte :=
  let q := s.queue l
  beBytes 1 q.entries.length ++ optBytes (q.entries.head?.map fun x => stampBytes x.stamp) ++
    optBytes (q.lastApplied.map stampBytes) ++ beBytes 2 q.gap ++ beBytes 1 (s.env l).opens.lowWater ++
    beBytes 2 q.expired ++ wordBytes (s.auRec l).epoch ++ stampBytes s.period

def queryQueueOwner (p : Port) (tag : Nat) (s : State) : State × Reply :=
  onRoute p tag (fun l s => (s, .okWith (s.queueFields l))) s

/-! ### The commands -/

/-- DEMAND (R55 to R59). -/
def execDemand (p : Port) (s : State) : Host.Outcome State Fault Refusal := done (serve p 17 readDemand (demandOwner p) s)

/-- RETRACT (R61). -/
def execRetract (p : Port) (s : State) : Host.Outcome State Fault Refusal :=
  done (serve p 18 readRetract (retractOwner p) s)

/-- FLUSH (R62). -/
def execFlush (p : Port) (s : State) : Host.Outcome State Fault Refusal := done (serve p 19 readTagWord (flushOwner p) s)

/-- QUERY_QUEUE (R64). -/
def execQueryQueue (p : Port) (s : State) : Host.Outcome State Fault Refusal :=
  done (serve p 20 readByte (queryQueueOwner p) s)

end Sys2Proof.Machine
end

