-- ==== Sys2Proof/Machine/EnvelopeRequests.lean ====
section
/-! DEFINITION. The requests to the Envelope Unit (chapter 6): SET_OPEN, PROPOSE, CANCEL_PROPOSAL, CONFIRM, REJECT,
QUERY_ENVELOPE. -/

namespace Sys2Proof.Machine

/-! ### SET_OPEN (R121) -/

/-- The range of an open value (Table 6-2). -/
def OpenName.rangeOk (x : OpenName) (v : Nat) : Bool :=
  match x with
  | .kpD | .kpQ | .kiD | .kiQ => true
  | .starve => inRange 1 255 v
  | .lowWater => inRange 0 15 v
  | .rampMs => inRange 10 5000 v

/-- One open value written. -/
def OpenValues.set (o : OpenValues) (x : OpenName × Nat) : OpenValues :=
  match x.1 with
  | .kpD => { o with kpD := x.2 }
  | .kpQ => { o with kpQ := x.2 }
  | .kiD => { o with kiD := x.2 }
  | .kiQ => { o with kiQ := x.2 }
  | .starve => { o with starve := x.2 }
  | .lowWater => { o with lowWater := x.2 }
  | .rampMs => { o with rampMs := x.2 }

/-- The names of the open values, in the order of Table 6-2. -/
def openNames : List OpenName := [.kpD, .kpQ, .kiD, .kiQ, .starve, .lowWater, .rampMs]

/-- The list names no field, one twice, or something that is no open value (R121, check 3; log 17). -/
def OpenChanges.malformed (o : OpenChanges) : Bool :=
  o.unknown || o.items.isEmpty || !decide ((o.items.map (·.1)).Nodup)

/-- The first value outside its range, in the order of Table 6-2 (R121, check 4). -/
def OpenChanges.outOfRange (o : OpenChanges) : Option OpenName :=
  openNames.find? fun x => o.items.any fun y => decide (y.1 = x) && !y.1.rangeOk y.2

/-- The values written and the revision advanced once (R119, R121). -/
def Envelope.opened (e : Envelope) (items : List (OpenName × Nat)) : Envelope :=
  { e with opens := items.foldl OpenValues.set e.opens, revision := e.revision + 1 }

def setOpenOn (p : Port) (f : SetOpenFields) (l : Chan) (s : State) : State × Reply :=
  let e := s.env l
  if !s.holds p l then (s, .bare .notHolder)
  else if f.revision ≠ e.revision then (s, .bare .stale)
  else if f.changes.malformed then (s, .bare .field)
  else
    match f.changes.outOfRange with
    | some x => (s, { status := .range, fields := beBytes 1 x.index })
    | none =>
      ({ s with envs := vset s.envs l (e.opened f.changes.items) },
        .okWith (wordBytes (e.opened f.changes.items).revision))

def setOpenOwner (p : Port) (f : SetOpenFields) (s : State) : State × Reply := onRoute p f.tag (setOpenOn p f) s

/-! ### PROPOSE (R122 to R124) -/

/-- The first guarded value out of its range, by its place in Table 6-1 (R124, check 3). -/
def ProposeFields.outOfRange (f : ProposeFields) (ceiling : Nat) : Option Nat :=
  if (ceiling : Int) < f.peak then some 0
  else if f.continuous < 1 ∨ f.peak < f.continuous then some 1
  else if !inRange 1 3600 f.tau then some 2
  else if !inRange 20 2000 f.brakeMs then some 3
  else if !inRange 50 5000 f.stopMs then some 4
  else none

/-- The five values as sent. -/
def ProposeFields.values (f : ProposeFields) : Guarded :=
  { peak := f.peak.toNat, continuous := f.continuous.toNat, tau := f.tau, brakeMs := f.brakeMs, stopMs := f.stopMs }

/-- The counter's next value: from 255 to 1 (R123). -/
def nextNumber (counter : Nat) : Nat := if 255 ≤ counter then 1 else counter + 1

/-- A proposal of the port, or of another, is pending (R124, checks 4 and 5). -/
def Envelope.pendingStatus (e : Envelope) (p : Port) : Option Status :=
  match e.proposal with
  | none => none
  | some x => if x.proposer = p then some .pending else some .retry

/-- The proposal is created with the next number and its deadline (R122, R123). -/
def Envelope.proposed (e : Envelope) (p : Port) (values : Guarded) (window : Nat) : Envelope :=
  { e with
    counter := nextNumber e.counter
    proposal := some { proposer := p, values := values, number := nextNumber e.counter, left := window } }

def proposeOn (p : Port) (f : ProposeFields) (l : Chan) (s : State) : State × Reply :=
  let e := s.env l
  let window := s.periods s.consts.proposalMs
  if s.rank p = 0 then (s, .bare .rank)
  else if p = s.safetyPort then (s, .bare .self)
  else
    match f.outOfRange (s.consts.ceilingOf l) with
    | some n => (s, { status := .range, fields := beBytes 1 n })
    | none =>
      match e.pendingStatus p with
      | some x => (s, .bare x)
      | none =>
        if f.revision ≠ e.revision then (s, .bare .stale)
        else
          (handTo s.safetyPort .proposal { s with envs := vset s.envs l (e.proposed p f.values window) },
            .okWith (beBytes 1 (nextNumber e.counter) ++ beBytes 2 window))

def proposeOwner (p : Port) (f : ProposeFields) (s : State) : State × Reply := onRoute p f.tag (proposeOn p f) s

/-! ### CANCEL_PROPOSAL, CONFIRM, REJECT (R126 to R128) -/

def cancelProposalOn (p : Port) (l : Chan) (s : State) : State × Reply :=
  match (s.env l).proposal with
  | some x => if x.proposer = p then (endProposal l .cancelled s, .bare .ok) else (s, .bare .noProposal)
  | none => (s, .bare .noProposal)

def cancelProposalOwner (p : Port) (tag : Nat) (s : State) : State × Reply := onRoute p tag (cancelProposalOn p) s

/-- The checks of CONFIRM and REJECT, in their order (R126, R127). -/
def answering (p : Port) (number : Nat) (own : Proposal → State → State × Reply) (l : Chan) (s : State) : State × Reply :=
  if p ≠ s.safetyPort then (s, .bare .notSafety)
  else
    match (s.env l).proposal with
    | none => (s, .bare .noProposal)
    | some x => if number ≠ x.number then (s, .bare .mismatch) else own x s

/-- The commit: the five values, the revision, and the end CONFIRMED (R126). -/
def commitProposal (l : Chan) (x : Proposal) (s : State) : State :=
  endProposal l .confirmed
    { s with envs := vset s.envs l { s.env l with guarded := x.values, revision := (s.env l).revision + 1 } }

def confirmOn (p : Port) (number : Nat) (l : Chan) (s : State) : State × Reply :=
  answering p number (fun x s => (commitProposal l x s, .okWith (wordBytes ((s.env l).revision + 1)))) l s

def confirmOwner (p : Port) (f : Nat × Nat) (s : State) : State × Reply := onRoute p f.1 (confirmOn p f.2) s

def rejectOn (p : Port) (number : Nat) (l : Chan) (s : State) : State × Reply :=
  answering p number (fun _ s => (endProposal l .rejected s, .bare .ok)) l s

def rejectOwner (p : Port) (f : Nat × Nat) (s : State) : State × Reply := onRoute p f.1 (rejectOn p f.2) s

/-! ### QUERY_ENVELOPE (R132) -/

def Guarded.bytes (g : Guarded) : List Byte :=
  beBytes 2 g.peak ++ beBytes 2 g.continuous ++ beBytes 2 g.tau ++ beBytes 2 g.brakeMs ++ beBytes 2 g.stopMs

def OpenValues.bytes (o : OpenValues) : List Byte :=
  beBytes 2 o.kpD ++ beBytes 2 o.kpQ ++ beBytes 2 o.kiD ++ beBytes 2 o.kiQ ++ beBytes 1 o.starve ++
    beBytes 1 o.lowWater ++ beBytes 2 o.rampMs

/-- The fields of Table 6-4. -/
def State.envelopeFields (s : State) (l : Chan) : List Byte :=
  let e := s.env l
  beBytes 2 (s.consts.ceilingOf l) ++ e.guarded.bytes ++ e.opens.bytes ++ wordBytes e.revision ++
    optBytes (e.proposal.map fun x => portByte x.proposer ++ beBytes 1 x.number ++ x.values.bytes ++ beBytes 2 x.left) ++
    optBytes (e.last.map fun x =>
      portByte x.proposer ++ beBytes 1 x.number ++ beBytes 1 x.outcome.index ++ stampBytes x.period) ++
    beBytes 1 e.counter ++ stampBytes s.period

def queryEnvelopeOwner (p : Port) (tag : Nat) (s : State) : State × Reply :=
  onRoute p tag (fun l s => (s, .okWith (s.envelopeFields l))) s

/-! ### The commands -/

/-- SET_OPEN (R121). -/
def execSetOpen (p : Port) (s : State) : Host.Outcome State Fault Refusal := done (serve p 21 readSetOpen (setOpenOwner p) s)

/-- PROPOSE (R124). -/
def execPropose (p : Port) (s : State) : Host.Outcome State Fault Refusal := done (serve p 22 readPropose (proposeOwner p) s)

/-- CANCEL_PROPOSAL (R128). -/
def execCancelProposal (p : Port) (s : State) : Host.Outcome State Fault Refusal :=
  done (serve p 23 readByte (cancelProposalOwner p) s)

/-- CONFIRM (R126). -/
def execConfirm (p : Port) (s : State) : Host.Outcome State Fault Refusal := done (serve p 24 readTagByte (confirmOwner p) s)

/-- REJECT (R127). -/
def execReject (p : Port) (s : State) : Host.Outcome State Fault Refusal := done (serve p 25 readTagByte (rejectOwner p) s)

/-- QUERY_ENVELOPE (R132). -/
def execQueryEnvelope (p : Port) (s : State) : Host.Outcome State Fault Refusal :=
  done (serve p 26 readByte (queryEnvelopeOwner p) s)

end Sys2Proof.Machine
end

