-- ==== Sys2Proof/Machine/LinkRequests.lean ====
section
/-! DEFINITION. The requests to the Link Supervisor (chapter 5): LINK_UP, LINK_PARK, LINK_DOWN, QUERY_LINK. -/

namespace Sys2Proof.Machine

/-- The checks of R105: UNFROZEN, then RANK. -/
def fromRanked (p : Port) (own : State → State × Reply) (s : State) : State × Reply :=
  if s.inConfig then (s, .bare .unfrozen) else if s.rank p = 0 then (s, .bare .rank) else own s

/-- An answer OK with the link state after the action (R105). -/
def withLinkState (s : State) : State × Reply := (s, .okWith (beBytes 1 s.link.state.index))

/-- LINK_UP (R106). -/
def linkUpOn (s : State) : State × Reply :=
  if s.linkReactionInService then (s, .bare .busy)
  else
    match s.link.state with
    | .discharged => withLinkState (changeLink .charging s)
    | .parked => withLinkState (wakeLink s)
    | .charging | .settling | .ready | .waking => withLinkState s
    | .draining => (s, .bare .state)

def linkUpOwner (p : Port) (_ : Unit) (s : State) : State × Reply := fromRanked p linkUpOn s

/-- LINK_PARK (R107). -/
def linkParkOn (s : State) : State × Reply :=
  match s.link.state with
  | .ready | .waking => if s.allIdle then withLinkState (changeLink .parked s) else (s, .bare .state)
  | .parked => withLinkState s
  | .discharged | .charging | .settling | .draining => (s, .bare .state)

def linkParkOwner (p : Port) (_ : Unit) (s : State) : State × Reply := fromRanked p linkParkOn s

/-- LINK_DOWN (R108). -/
def linkDownOn (s : State) : State × Reply :=
  match s.link.state with
  | .charging | .settling | .ready | .parked | .waking =>
    if s.allIdle then withLinkState (changeLink .draining s) else (s, .bare .state)
  | .discharged | .draining => withLinkState s

def linkDownOwner (p : Port) (_ : Unit) (s : State) : State × Reply := fromRanked p linkDownOn s

/-! ### QUERY_LINK (R109) -/

def SupplyData.bytes (d : SupplyData) : List Byte :=
  wordBytes d.stamp ++ beBytes 2 d.voltage ++ beBytes 2 d.available ++ [flagByte d.mains]

/-- The present channels, in order of number. -/
def State.presentChans (s : State) : List Chan := allChans.filter s.present

/-- The fields of Table 5-5; outputs, readiness and wake inputs are flags, 1 for on, ready and active (DESIGN CHOICE, log
33), and readiness is a counted list (log 15). -/
def State.linkFields (s : State) : List Byte :=
  beBytes 1 s.link.state.index ++ optBytes (s.link.timer.map (beBytes 3)) ++ optBytes (s.link.supply.map SupplyData.bytes) ++
    beBytes 1 s.link.supplyMiss ++ [flagByte s.prechg, flagByte s.main, flagByte s.rdy] ++
    listBytes (s.presentChans.map fun c => [flagByte (vget s.link.ready c)]) ++ [flagByte s.wakeInputActive] ++
    beBytes 2 s.allot.budget ++
    (allChans.map fun c => beBytes 2 (vget s.allot.request c) ++ beBytes 2 (vget s.allot.grant c)).flatten ++
    stampBytes s.period

/-- QUERY_LINK is checked for UNFROZEN alone (R105). -/
def queryLinkOwner (_ : Unit) (s : State) : State × Reply :=
  if s.inConfig then (s, .bare .unfrozen) else (s, .okWith s.linkFields)

/-! ### The commands -/

/-- LINK_UP (R106). -/
def execLinkUp (p : Port) (s : State) : Host.Outcome State Fault Refusal := done (serve p 27 readNothing (linkUpOwner p) s)

/-- LINK_PARK (R107). -/
def execLinkPark (p : Port) (s : State) : Host.Outcome State Fault Refusal :=
  done (serve p 28 readNothing (linkParkOwner p) s)

/-- LINK_DOWN (R108). -/
def execLinkDown (p : Port) (s : State) : Host.Outcome State Fault Refusal :=
  done (serve p 29 readNothing (linkDownOwner p) s)

/-- QUERY_LINK (R109). -/
def execQueryLink (p : Port) (s : State) : Host.Outcome State Fault Refusal := done (serve p 30 readNothing queryLinkOwner s)

end Sys2Proof.Machine
end

