-- ==== Sys2Proof/Machine/ProtectionRequests.lean ====
section
/-! DEFINITION. The requests to the Reaction Controller (chapter 7): SAFE_STOP, SAFE_RELEASE, SET_MASK, QUERY_FAULTS;
and the pages in which QUERY_FAULTS and QUERY_INPUTS are answered (12, R191). -/

namespace Sys2Proof.Machine

/-- The checks of the safety master's requests: UNFROZEN, then NOT_SAFETY (R151, R152, R154). -/
def fromSafety (p : Port) (own : State → State × Reply) (s : State) : State × Reply :=
  if s.inConfig then (s, .bare .unfrozen) else if p = s.safetyPort then own s else (s, .bare .notSafety)

/-! ### SAFE_STOP (R154) -/

def safeStopOn (s : State) : State × Reply :=
  let out := detectSafeStop s
  (out.1, .okWith (beBytes 1 out.2.index))

def safeStopOwner (p : Port) (_ : Unit) (s : State) : State × Reply := fromSafety p safeStopOn s

/-! ### SAFE_RELEASE (R152) -/

/-- A SAFE_STOP reaction is in service, a SAFE_STOP entry is pending, or a held repeat is present (R152, check 4). -/
def ReactionBlock.stopOpen (r : ReactionBlock) : Bool :=
  r.inService.any (fun i => decide (i.kind = .safeStop)) || r.pendingSet.any (fun x => decide (x.kind = .safeStop)) ||
    r.held.isSome

def safeReleaseOn (s : State) : State × Reply :=
  if s.stopInputActive then (s, .bare .active)
  else if s.react.stopOpen then (s, .bare .busy)
  else if s.react.latch then (broadcast .safeState (setLatch false s), .bare .ok)
  else (s, .bare .ok)

def safeReleaseOwner (p : Port) (_ : Unit) (s : State) : State × Reply := fromSafety p safeReleaseOn s

/-! ### SET_MASK (R151) -/

/-- The kinds a list names, if each is ordinary (R151, check 3). -/
def ordinaryKinds (ns : List Nat) : Option (List FaultKind) :=
  ns.mapM fun n => (FaultKind.ofIndex n).filter (·.ordinary)

def MaskSet.ofKinds (ks : List FaultKind) : MaskSet :=
  { portSilent := ks.contains .portSilent, starved := ks.contains .starved
    brakeFault := ks.contains .brakeFault, thermal := ks.contains .thermal }

/-- The masked kinds, as a counted list in order of index (DESIGN CHOICE, log 34). -/
def MaskSet.bytes (m : MaskSet) : List Byte :=
  listBytes (([FaultKind.portSilent, .starved, .brakeFault, .thermal].filter m.has).map fun k => beBytes 1 k.index)

def setMaskOn (ns : List Nat) (s : State) : State × Reply :=
  match ordinaryKinds ns with
  | none => (s, .bare .field)
  | some ks =>
    if ks.Nodup then
      (takeReactions { s with react := { s.react with mask := MaskSet.ofKinds ks } }, .okWith (MaskSet.ofKinds ks).bytes)
    else (s, .bare .field)

def setMaskOwner (p : Port) (ns : List Nat) (s : State) : State × Reply := fromSafety p (setMaskOn ns) s

/-! ### Pages (12, R191) -/

/-- The page of a byte string: its length, the page number, and at most 100 bytes from its offset. -/
def pageOf (bs : List Byte) (page : Nat) : List Byte :=
  beBytes 2 bs.length ++ beBytes 1 page ++ (bs.drop (100 * page)).take 100

/-! ### QUERY_FAULTS (R155) -/

/-- What a pending entry waits on: MASK, HANDOVER or IN_SERVICE (R155). An entry that is both masked and deferred is said
to wait on MASK (DESIGN CHOICE, log 35). -/
def State.waitsOn (s : State) (x : PendingEntry) : Nat :=
  if x.kind.ordinary && s.react.mask.has x.kind then 0
  else if x.kind.ordinary && s.deferred x.scope then 1
  else 2

/-- An entry of the pending set; every entry carries a presence byte for the epoch (DESIGN CHOICE, log 35). -/
def State.pendingBytes (s : State) (x : PendingEntry) : List Byte :=
  faultBytes x.kind x.scope ++ stampBytes x.first ++ beBytes 1 x.count ++ optBytes (x.epoch.map wordBytes) ++
    beBytes 1 (s.waitsOn x)

/-- The inputs bound to SAFE_STOP, in order of number. -/
def State.stopInputs (s : State) : List Input :=
  allInputs.filter fun i => decide ((s.inputConfig i).binding = .safeStop)

/-- The fields of Table 7-2. The rows of the SAFE_STOP inputs, of the trip records and of the marks are counted lists in
order of number, without the numbers (DESIGN CHOICE, log 15); levels are flags (log 33). -/
def State.faultFields (s : State) : List Byte :=
  let r := s.react
  optBytes (r.inService.map fun i => faultBytes i.kind i.scope ++ stampBytes i.first ++ stampBytes i.taken) ++
    optBytes (r.held.map fun h => stampBytes h.first ++ beBytes 1 h.count) ++
    listBytes (r.pendingSet.map s.pendingBytes) ++ r.mask.bytes ++ [flagByte r.latch] ++
    listBytes (s.stopInputs.map fun i => [flagByte (vget r.stopLevels i)]) ++
    optBytes (r.lastEnded.map fun x => faultBytes x.kind x.scope ++ beBytes 1 x.ending.index ++ stampBytes x.period) ++
    listBytes (s.presentChans.map fun c => optBytes ((s.eng c).trip.map TripRecord.bytes)) ++
    listBytes (s.presentChans.map fun c => [flagByte (s.eng c).derate, flagByte (s.eng c).brakeMark]) ++
    s.retained.bytes ++ stampBytes s.period

def queryFaultsOwner (page : Nat) (s : State) : State × Reply :=
  if s.inConfig then (s, .bare .unfrozen) else (s, .okWith (pageOf s.faultFields page))

/-! ### The commands -/

/-- SAFE_STOP (R154). -/
def execSafeStop (p : Port) (s : State) : Host.Outcome State Fault Refusal :=
  done (serve p 31 readNothing (safeStopOwner p) s)

/-- SAFE_RELEASE (R152). -/
def execSafeRelease (p : Port) (s : State) : Host.Outcome State Fault Refusal :=
  done (serve p 32 readNothing (safeReleaseOwner p) s)

/-- SET_MASK (R151). -/
def execSetMask (p : Port) (s : State) : Host.Outcome State Fault Refusal := done (serve p 33 readList (setMaskOwner p) s)

/-- QUERY_FAULTS (R155). -/
def execQueryFaults (p : Port) (s : State) : Host.Outcome State Fault Refusal := done (serve p 34 readByte queryFaultsOwner s)

end Sys2Proof.Machine
end

