-- ==== Sys2Proof/Machine/InputRequests.lean ====
section
/-! DEFINITION. The requests to the Input Block (chapter 8) and to the Notice Unit (chapter 10): INPUT_ACK,
QUERY_INPUTS, SUBSCRIBE, SET_PACING. -/

namespace Sys2Proof.Machine

/-! ### INPUT_ACK (08, R161, R162) -/

/-- The outcomes of one acknowledgement, as R162 lists them. -/
inductive AckOutcome where
  | cleared
  | heldActive
  | wasClear
  deriving DecidableEq, Repr

def AckOutcome.index (x : AckOutcome) : Nat :=
  match x with
  | .cleared => 0
  | .heldActive => 1
  | .wasClear => 2

/-- The outcome of an acknowledgement of one input (R161, R162). -/
def InputBlock.ackOutcome (b : InputBlock) (mode : InputMode) : AckOutcome :=
  if !b.flag then .wasClear
  else
    match mode with
    | .edge => .cleared
    | .level => if b.level then .heldActive else .cleared

/-- The input after its acknowledgement. -/
def InputBlock.acked (b : InputBlock) (mode : InputMode) : InputBlock :=
  match b.ackOutcome mode with
  | .cleared => { b with flag := false, count := 0 }
  | .heldActive | .wasClear => b

def ackInput (i : Input) (s : State) : State :=
  { s with inputs := vset s.inputs i ((s.inp i).acked (s.inputConfig i).mode) }

/-- Each listed input in list order. -/
def ackInputs : List Input → State → State × List AckOutcome
  | [], s => (s, [])
  | i :: rest, s =>
    let more := ackInputs rest (ackInput i s)
    (more.1, (s.inp i).ackOutcome (s.inputConfig i).mode :: more.2)

/-- The inputs a list names, if each is 0 to 15 (R162, check 3). -/
def inputNumbers (ns : List Nat) : Option (List Input) :=
  ns.mapM fun n => if h : n < 16 then some ⟨n, h⟩ else none

/-- INPUT_ACK from a ranked port (R162): the list's check, then each input. The answer gives the outcomes as a counted
list in list order (DESIGN CHOICE, log 15). -/
def inputAckOn (ns : List Nat) (s : State) : State × Reply :=
  match inputNumbers ns with
  | none => (s, .bare .field)
  | some is =>
    if is = [] ∨ ¬ is.Nodup then (s, .bare .field)
    else
      let out := ackInputs is s
      (out.1, .okWith (listBytes (out.2.map fun o => beBytes 1 o.index)))

/-- INPUT_ACK: UNFROZEN, RANK, FIELD (R162). -/
def inputAckOwner (p : Port) (ns : List Nat) (s : State) : State × Reply := fromRanked p (inputAckOn ns) s

/-! ### QUERY_INPUTS (08, R163) -/

def InputConfig.bytes (c : InputConfig) : List Byte :=
  beBytes 1 (if c.polarity = .activeHigh then 0 else 1) ++ beBytes 1 (if c.mode = .level then 0 else 1) ++
    beBytes 2 c.debounceMs ++ c.binding.bytes

/-- The fields of Table 8-3, each for the sixteen inputs in order of number (log 15); a level is a flag, 1 for active
(DESIGN CHOICE, log 33). -/
def State.inputFields (s : State) : List Byte :=
  allInputs.map (fun i => flagByte (s.activeAtPin i)) ++ allInputs.map (fun i => flagByte (s.inp i).level) ++
    (allInputs.map fun i => optBytes ((s.inp i).debounce.map (beBytes 2))).flatten ++
    allInputs.map (fun i => flagByte (s.inp i).flag) ++ (allInputs.map fun i => beBytes 1 (s.inp i).count).flatten ++
    (allInputs.map fun i => (s.inputConfig i).bytes).flatten ++ stampBytes s.period

def queryInputsOwner (page : Nat) (s : State) : State × Reply :=
  if s.inConfig then (s, .bare .unfrozen) else (s, .okWith (pageOf s.inputFields page))

/-! ### SUBSCRIBE and SET_PACING (10, R179, R180) -/

/-- The kinds a list names, if each is a broadcast kind, 5 to 11 in Table 10-1 (R179, check 2). -/
def broadcastList (ns : List Nat) : Bool := ns.all (inRange 5 11) && decide ns.Nodup

/-- A subscription set from the numbers of its kinds. -/
def kindSet (ns : List Nat) : BitVec 12 := ns.foldl (fun acc n => acc ||| (1#12 <<< n)) 0

/-- A set of notice kinds as a counted list in order of number (DESIGN CHOICE, log 34). -/
def kindList (b : BitVec 12) : List Byte :=
  listBytes (((List.range 12).filter b.getLsbD).map (beBytes 1))

def subscribeOwner (p : Port) (ns : List Nat) (s : State) : State × Reply :=
  if s.inConfig then (s, .bare .unfrozen)
  else if broadcastList ns then
    ({ s with ports := vset s.ports p { s.port p with subscribed := kindSet ns } }, .okWith (kindList (kindSet ns)))
  else (s, .bare .field)

/-- SET_PACING (R180). Its RANGE answer carries no item: the interval is its one value (DESIGN CHOICE, log 18). -/
def setPacingOwner (p : Port) (ms : Nat) (s : State) : State × Reply :=
  if s.inConfig then (s, .bare .unfrozen)
  else if ms ≤ 50 then
    ({ s with ports := vset s.ports p { s.port p with pacingMs := ms } }, .okWith (beBytes 2 ms))
  else (s, .bare .range)

/-! ### The commands -/

/-- INPUT_ACK (08, R162). -/
def execInputAck (p : Port) (s : State) : Host.Outcome State Fault Refusal := done (serve p 35 readList (inputAckOwner p) s)

/-- QUERY_INPUTS (08, R163). -/
def execQueryInputs (p : Port) (s : State) : Host.Outcome State Fault Refusal := done (serve p 36 readByte queryInputsOwner s)

/-- SUBSCRIBE (10, R179). -/
def execSubscribe (p : Port) (s : State) : Host.Outcome State Fault Refusal :=
  done (serve p 37 readList (subscribeOwner p) s)

/-- SET_PACING (10, R180). -/
def execSetPacing (p : Port) (s : State) : Host.Outcome State Fault Refusal :=
  done (serve p 38 readWord (setPacingOwner p) s)

end Sys2Proof.Machine
end

