-- ==== Sys2Proof/Machine/LinkEvents.lean ====
section
/-! DEFINITION. The events of the links and pins as commands: records, frames, link signals, completions, pin changes. -/

namespace Sys2Proof.Machine

/-- SAMPLE_RECORD (04, R73, R76). -/
def execSampleRecord (c : Chan) (bytes : List Byte) (s : State) : Host.Outcome State Fault Refusal :=
  done (receiveSample c bytes s)

/-- SUPPLY_RECORD (05, R92). -/
def execSupplyRecord (bytes : List Byte) (s : State) : Host.Outcome State Fault Refusal := done (receiveSupply bytes s)

/-- FRAME_RECEIVED (09, R168). -/
def execFrameReceived (p : Port) (bytes : List Byte) (s : State) : Host.Outcome State Fault Refusal :=
  done (receiveFrame p bytes s)

/-- LINK_SIGNAL_GAINED (09, R166). -/
def execLinkSignalGained (p : Port) (s : State) : Host.Outcome State Fault Refusal := done (gainSignal p s)

/-- LINK_SIGNAL_LOST (09, R166; log 24 for the frame cut short). -/
def execLinkSignalLost (p : Port) (midFrame : Bool) (s : State) : Host.Outcome State Fault Refusal :=
  done (loseSignal p midFrame s)

/-- TRANSMISSION_COMPLETE (09, R171). -/
def execTransmissionComplete (p : Port) (s : State) : Host.Outcome State Fault Refusal := done (completeSend p s)

/-- PIN_CHANGE (08, R157). -/
def execPinChange (i : Input) (high : Bool) (s : State) : Host.Outcome State Fault Refusal := done (changePin i high s)

end Sys2Proof.Machine
end

