-- ==== Sys2Proof/Machine/Period.lean ====
section
/-! DEFINITION. The period start (01, R1, R7) with all that falls on it, and the expiries of every count: the commands
of the clock. -/

namespace Sys2Proof.Machine

/-! ### Counts (01, R2) -/

/-- A running count loses one period; at 0 it has expired and its expiry is yet to be taken (log 5). -/
def tickCount (n : Option Nat) : Option Nat := n.map (· - 1)

def AuthRecord.tick (r : AuthRecord) : AuthRecord :=
  { r with lock := tickCount r.lock, handover := r.handover.map fun h => { h with left := h.left - 1 } }

def Envelope.tick (e : Envelope) : Envelope :=
  { e with proposal := e.proposal.map fun p => { p with left := p.left - 1 } }

def PortBlock.tick (b : PortBlock) : PortBlock :=
  { b with silence := tickCount b.silence, pacing := tickCount b.pacing }

/-- A period mark leaves each present engine (04, R72). -/
def sendMarks : List Chan → State → State
  | [], s => s
  | c :: rest, s =>
    sendMarks rest (if s.present c then { s with wire := .bridge c (periodMark s.stamp16) :: s.wire } else s)

/-- P advances, or stays 0 at the first period start after FREEZE (01, R1), and every running count loses one period. -/
def advance (s : State) : State :=
  { s with
    period := if s.started then s.period + 1 else 0
    started := true
    auth := vmap allChans (fun _ r => r.tick) s.auth
    engines := vmap allChans (fun _ e => { e with timer := tickCount e.timer }) s.engines
    envs := vmap allChans (fun _ e => e.tick) s.envs
    link := { s.link with timer := tickCount s.link.timer }
    inputs := vmap allInputs (fun _ b => { b with debounce := tickCount b.debounce }) s.inputs
    ports := vmap allPorts (fun _ b => b.tick) s.ports }

/-! ### One engine's handling of a period start (01, R7) -/

/-- The engine's first step on one channel: a period without a good sample is counted (04, R74). -/
def Engine.countMiss (first : Bool) (e : Engine) : Engine :=
  if first || e.sampleTaken then { e with sampleTaken := false }
  else { e with sampleTaken := false, miss := min 2 (e.miss + 1) }

/-- The first step of R7 on one channel: the miss, and SAMPLE_LOST at a count of 2 (04, R74). -/
def missStep (first : Bool) (c : Chan) (s : State) : State :=
  let e := s.eng c
  let s1 := { s with engines := vset s.engines c (e.countMiss first) }
  if !first && !e.sampleTaken && decide (2 ≤ e.miss + 1) then detectTrip .sampleLost c 2 s1 else s1

def missSteps (first : Bool) : List Chan → State → State
  | [], s => s
  | c :: rest, s => missSteps first rest (missStep first c s)

/-- The previous period of a channel was missed. -/
def State.missed (s : State) (first : Bool) (c : Chan) : Bool := !first && !(s.eng c).sampleTaken

/-- A condition of the brakes of a group (01, R9, R11): every bound channel holds the wanted feedback, and, if a
channel is unbound, the brake timer has expired. -/
def State.brakeCondition (s : State) (l : Chan) (want : Feedback) : Bool :=
  (s.group l).all fun c => decide (s.feedback c = want) || (decide (s.feedback c = .unbound) && decide ((s.eng l).timer = some 0))

/-- BRAKE_FAULT is reported for each channel of the group whose bound feedback is the wrong one (01, R9, R11). -/
def reportBrakes (wrong : Feedback) : List Chan → State → State
  | [], s => s
  | c :: rest, s =>
    reportBrakes wrong rest (if s.feedback c = wrong then reportOrdinary .brakeFault (.channel c) none s else s)

/-- One field of a ramp or stop value: the start times the periods left, divided by the count, toward zero (R12, R13).
-/
def rampField (start : Int) (left total : Nat) : Int := (start * (left : Int)).tdiv total

def Demand.ramped (d : Demand) (left total : Nat) : Demand :=
  { iq := rampField d.iq left total, id := rampField d.id left total
    split := rampField d.split left total, vff := rampField d.vff left total }

/-- The step of RAMPING or STOPPING: the applied value becomes the ramp value (R12, R13). -/
def rampStep (l : Chan) (s : State) : State :=
  let e := s.eng l
  match e.timer with
  | none => s
  | some left => { s with engines := vset s.engines l { e with active := e.rampStart.ramped left e.rampTotal } }

/-- The second step of R7: the brake conditions, the ramp and stop steps, and the transitions they cause. -/
def timerStep (l : Chan) (s : State) : State :=
  let e := s.eng l
  match e.state with
  | .releasing =>
    if s.brakeCondition l .released then takeReactions (moveGroup l .run none s)
    else if e.timer = some 0 then takeReactions (toHolding l (reportBrakes .engaged (s.group l) s))
    else s
  | .holding =>
    if e.holdFault then s
    else if s.brakeCondition l .engaged then toRamping l s
    else if e.timer = some 0 then
      reportBrakes .released (s.group l) { s with engines := vset s.engines l { e with timer := none, holdFault := true } }
    else s
  | .ramping =>
    let s1 := rampStep l s
    if e.timer = some 0 then toOff l s1 else s1
  | .stopping =>
    let s1 := rampStep l s
    if e.timer = some 0 then reportDeparture (toOff l s1) else s1
  | .off | .run | .tripped => s

/-! ### The take (03, R65 to R69) -/

/-- The active demand formed from an entry (03, R51). -/
def Entry.toDemand (x : Entry) (idTarget : Int) : Demand :=
  { iq := x.iq, id := x.id.getD idTarget, split := x.split.getD 0, vff := x.vff.getD 0 }

/-- The queue after a take (03, R65). -/
def DemandQueue.take (q : DemandQueue) (p : W32) : DemandQueue :=
  { q with entries := q.entries.tail, gap := 0, starved := false, lastApplied := some p }

/-- The queue after a gap (03, R65, R68). -/
def DemandQueue.gapped (q : DemandQueue) (limit : Nat) : DemandQueue :=
  { q with gap := min 65535 (q.gap + 1), starved := q.starved || decide (limit ≤ min 65535 (q.gap + 1)) }

/-- The QUEUE_LOW notice at the crossing of the low-water mark by a take (03, R69). -/
def lowWater (l : Chan) (before : Nat) (s : State) : State :=
  let mark := (s.env l).opens.lowWater
  match (s.auRec l).holder with
  | some h => if mark < before ∧ before - 1 ≤ mark then handTo h .queueLow s else s
  | none => s

/-- A take closes an open handover and tells the Reaction Controller (02, R43). -/
def closeHandover (l : Chan) (s : State) : State :=
  if (s.auRec l).handover.isSome then takeReactions (dropHandover l s) else s

/-- The entry stamped P is taken in RELEASING or RUN (03, R51, R65, R66, R69). -/
def takeEntry (l : Chan) (x : Entry) (s : State) : State :=
  let d := x.toDemand (s.eng l).idTarget
  let q := s.queue l
  closeHandover l (lowWater l q.entries.length
    { s with
      queues := vset s.queues l (q.take s.period)
      engines := vset s.engines l { s.eng l with active := d, idTarget := d.id } })

/-- A gap, and STARVED when the count meets the limit with the indication clear; the Demand Unit sets the indication
before the Reaction Controller acts on the report (03, R68, log 11). -/
def countGap (l : Chan) (s : State) : State :=
  let q := s.queue l
  let limit := (s.env l).opens.starve
  let s1 := { s with queues := vset s.queues l (q.gapped limit) }
  if !q.starved && decide (limit ≤ min 65535 (q.gap + 1)) then
    reportOrdinary .starved (.channel l) (some (s.auRec l).epoch) s1
  else s1

/-- The head of a queue, when it is stamped with the period being started. -/
def State.headAt (s : State) (l : Chan) : Option Entry :=
  (s.queue l).entries.head?.filter fun x => decide (x.stamp = s.period)

/-- The third step of R7: the Demand Unit's examination of the queue (03, Table 3-5). -/
def queueStep (l : Chan) (s : State) : State :=
  match (s.eng l).state with
  | .releasing | .run =>
    match s.headAt l with
    | some x => takeEntry l x s
    | none => if (s.auRec l).handover.isSome then s else countGap l s
  | .off =>
    match s.headAt l with
    | some _ =>
      let q := s.queue l
      { s with queues := vset s.queues l { q with entries := q.entries.tail, expired := min 65535 (q.expired + 1) } }
    | none => s
  | .holding | .ramping | .stopping | .tripped => s

/-- The substitute gate record of a missed channel, once it has taken a good sample since the reset (04, R74). -/
def substitute (c : Chan) (s : State) : State :=
  let e := s.eng c
  if e.sampleEver then sendGate c s.stamp16 (if e.gateEnable then e.lastDuties else Duties.zero) e.gateEnable s else s

def substitutes : List Chan → State → State
  | [], s => s
  | c :: rest, s => substitutes rest (substitute c s)

/-- The second and third steps of R7. -/
def laterSteps (l : Chan) (s : State) : State := queueStep l (timerStep l s)

/-- One engine's handling of a period start, for a pair both engines' (R7): the misses, the timer and the brakes, the
take, and the substitute gate records of the channels that missed. R7 orders the steps within one engine; of a pair's
two engines both make the first step, the leader before the follower, and then the leader's engine makes the others
for both (DESIGN CHOICE, log 32). -/
def engineStart (first : Bool) (l : Chan) (s : State) : State :=
  let missedOnes := (s.group l).filter (s.missed first)
  substitutes missedOnes (laterSteps l (missSteps first (s.group l) s))

/-- The reactions that waited for the take of this period start are taken (02, R43, log 31). -/
def takeHeld (l : Chan) (s : State) : State :=
  if vget s.react.untilTake l then
    takeReactions { s with react := { s.react with untilTake := vset s.react.untilTake l false } }
  else s

/-- The end of a period start: whatever still waited for a take that the period start did not make is taken, so that
nothing waits between commands (log 31). -/
def takeHelds : List Chan → State → State
  | [], s => s
  | l :: rest, s => takeHelds rest (takeHeld l s)

/-! ### The expiries of the other counts -/

/-- The expiry of a lock (02, R42). -/
def lockExpiryOf (l : Chan) (s : State) : State :=
  let r := s.auRec l
  if r.lock = some 0 then
    let s1 := { s with auth := vset s.auth l { r with lock := none } }
    let s2 := match r.holder with
      | some h => handTo h .lockExpired s1
      | none => s1
    takeReactions (preemptByHead l s2)
  else s

/-- The deadline of a handover (02, R44). -/
def handoverExpiryOf (l : Chan) (s : State) : State :=
  match (s.auRec l).handover with
  | some h =>
    if h.left = 0 then
      reportOrdinary .starved (.channel l) (some (s.auRec l).epoch) (dropHandover l s)
    else s
  | none => s

/-- The take of this period start is still to come on a running channel: the head of its queue is stamped with it. -/
def State.takeToCome (s : State) (l : Chan) : Bool := (s.eng l).state.running && (s.headAt l).isSome

/-- The deadline of a handover at a period start. Where the channel's take falls on the same period start and comes
after it, the reactions that the deadline frees, STARVED among them, wait for that take (02, R43, log 31). -/
def handoverAtStart (l : Chan) (s : State) : State :=
  if (s.auRec l).handover.any (fun h => decide (h.left = 0)) && s.takeToCome l then
    handoverExpiryOf l { s with react := { s.react with untilTake := vset s.react.untilTake l true } }
  else handoverExpiryOf l s

/-- The deadline of a proposal (06, R129). -/
def proposalExpiryOf (l : Chan) (s : State) : State :=
  match (s.env l).proposal with
  | some p => if p.left = 0 then endProposal l .expired s else s
  | none => s

/-- The expiry of whichever link timer runs. -/
def linkTimerExpiry (s : State) : State :=
  match s.link.state with
  | .charging => chargeExpiry s
  | .settling => settleExpiry s
  | .waking => wakeExpiry s
  | .discharged | .ready | .parked | .draining => s

/-! ### The works of a period start in their order (log 3) -/

/-- One work; a count that has not expired gives none. The reactions that waited for an engine's take follow it. -/
def runWork (first : Bool) (w : Work) (s : State) : State :=
  match w with
  | .engine c => takeHeld c (if s.served c then engineStart first c s else s)
  | .supply => supplyCheck first s
  | .lock c => lockExpiryOf c s
  | .handover c => handoverAtStart c s
  | .proposal c => proposalExpiryOf c s
  | .linkTimer => linkTimerExpiry s
  | .silence p => silenceExpiry p s
  | .pacing p => pacingExpiry p s
  | .debounce i => debounceExpiry i s

/-- The works one after another. Each is an action of its own, after which NOTICE frames are formed and idle
transmitters begin (09, R171; 10, R178, log 6). -/
def runWorks (first : Bool) : List Work → State → State
  | [], s => s
  | w :: rest, s => runWorks first rest (settle (runWork first w s))

/-- Every work, in the order the model takes those that the command does not order (log 3). -/
def allWorks : List Work :=
  allInputs.map .debounce ++ allChans.map .engine ++ allChans.map .lock ++ allChans.map .handover ++
    allChans.map .proposal ++ [.supply, .linkTimer] ++ allPorts.map .silence ++ allPorts.map .pacing

/-- The works a period start takes: those ordered, then the rest but for those left to their own commands. -/
def worksInOrder (order later : List Work) : List Work :=
  order.eraseDups ++ allWorks.filter fun w => !order.contains w && !later.contains w

/-- An engine's handling can be left to its own command when a count of the engine expires at this period start, no
channel of the group missed a sample, and no entry is stamped with the period (log 4). -/
def State.canWait (s : State) (first : Bool) (l : Chan) : Bool :=
  decide ((s.eng l).timer = some 0) && (s.group l).all (fun c => !s.missed first c) && (s.headAt l).isNone

/-- A work named in `later`: an expiry stays to be taken by its own command; an engine that cannot wait is handled, and
one that can has its first step made now (log 4). -/
def leaveWork (first : Bool) (w : Work) (s : State) : State :=
  match w with
  | .engine c =>
    takeHeld c
      (if s.served c then (if s.canWait first c then missSteps first (s.group c) s else engineStart first c s) else s)
  | .supply => supplyCheck first s
  | .lock _ | .handover _ | .proposal _ | .linkTimer | .silence _ | .pacing _ | .debounce _ => s

def leaveWorks (first : Bool) : List Work → State → State
  | [], s => s
  | w :: rest, s => leaveWorks first rest (settle (leaveWork first w s))

/-- An engine whose count has expired and whose later steps were left to their own command makes them now. -/
def overdueEngine (l : Chan) (s : State) : State :=
  if s.served l && decide ((s.eng l).timer = some 0) then laterSteps l s else s

def overdueWork (w : Work) (s : State) : State :=
  match w with
  | .engine c => overdueEngine c s
  | .supply => s
  | .lock c => lockExpiryOf c s
  | .handover c => handoverExpiryOf c s
  | .proposal c => proposalExpiryOf c s
  | .linkTimer => linkTimerExpiry s
  | .silence p => silenceExpiry p s
  | .pacing p => pacingExpiry p s
  | .debounce i => debounceExpiry i s

def overdueWorks : List Work → State → State
  | [], s => s
  | w :: rest, s => overdueWorks rest (settle (overdueWork w s))

/-- A period start. What the last one left and no command has taken is taken first, so that no expiry is lost; then P
advances, the marks are sent, every work is taken in its order, and nothing is left waiting for a take (R1, R7, logs 3,
31). -/
def periodStart (order later : List Work) (s : State) : State :=
  let first := !s.started
  let s1 := sendMarks allChans (advance (overdueWorks allWorks s))
  let left := later.eraseDups.filter fun w => !order.contains w
  takeHelds allChans (leaveWorks first left (runWorks first (worksInOrder order later) s1))

/-! ### The commands of the clock -/

/-- PERIOD_START (01, R1): none is issued while the timer is stopped, in CONFIG. -/
def execPeriodStart (order later : List Work) (s : State) : Host.Outcome State Fault Refusal :=
  if s.inConfig then .next s else done (periodStart order later s)

/-- BRAKE_TIMER_EXPIRY (01, R9, R11): the engine's later steps at the period start at which its brake timer expires,
when PERIOD_START has left them to this command (log 4). -/
def execBrakeTimerExpiry (c : Chan) (s : State) : Host.Outcome State Fault Refusal :=
  match (s.eng c).state with
  | .releasing | .holding => done (overdueEngine c s)
  | .off | .run | .ramping | .stopping | .tripped => .next s

/-- RAMP_COUNT_EXPIRY (01, R12). -/
def execRampCountExpiry (c : Chan) (s : State) : Host.Outcome State Fault Refusal :=
  match (s.eng c).state with
  | .ramping => done (overdueEngine c s)
  | .off | .releasing | .run | .holding | .stopping | .tripped => .next s

/-- STOP_COUNT_EXPIRY (01, R13). -/
def execStopCountExpiry (c : Chan) (s : State) : Host.Outcome State Fault Refusal :=
  match (s.eng c).state with
  | .stopping => done (overdueEngine c s)
  | .off | .releasing | .run | .holding | .ramping | .tripped => .next s

/-- LOCK_EXPIRY (02, R42). -/
def execLockExpiry (c : Chan) (s : State) : Host.Outcome State Fault Refusal := done (lockExpiryOf c s)

/-- HANDOVER_DEADLINE (02, R44). -/
def execHandoverDeadline (c : Chan) (s : State) : Host.Outcome State Fault Refusal := done (handoverExpiryOf c s)

/-- PROPOSAL_EXPIRY (06, R129). -/
def execProposalExpiry (c : Chan) (s : State) : Host.Outcome State Fault Refusal := done (proposalExpiryOf c s)

/-- CHARGE_TIMER_EXPIRY (05, R97). -/
def execChargeTimerExpiry (s : State) : Host.Outcome State Fault Refusal := done (chargeExpiry s)

/-- SETTLE_TIMER_EXPIRY (05, R98). -/
def execSettleTimerExpiry (s : State) : Host.Outcome State Fault Refusal := done (settleExpiry s)

/-- WAKE_TIMER_EXPIRY (05, R101). -/
def execWakeTimerExpiry (s : State) : Host.Outcome State Fault Refusal := done (wakeExpiry s)

/-- SILENCE_TIMER_EXPIRY (09, R167). -/
def execSilenceTimerExpiry (p : Port) (s : State) : Host.Outcome State Fault Refusal := done (silenceExpiry p s)

/-- PACING_TIMER_EXPIRY (10, R178). -/
def execPacingTimerExpiry (p : Port) (s : State) : Host.Outcome State Fault Refusal := done (pacingExpiry p s)

/-- DEBOUNCE_COUNT_EXPIRY (08, R158). -/
def execDebounceCountExpiry (i : Input) (s : State) : Host.Outcome State Fault Refusal := done (debounceExpiry i s)

end Sys2Proof.Machine
end

