-- ==== Sys2Proof/Machine/Resets.lean ====
section
/-! DEFINITION. The three resets (11, R186, R187): what each keeps, and the state each leaves. -/

namespace Sys2Proof.Machine

/-- The input's debounced level when a reset ends: the level at its pin by the polarity in the store (08, R164). -/
def levelAtReset (k : Constants) (pins : Vector Bool 16) (i : Input) : Bool :=
  (vget k.inputs i).polarity.activeAt (vget pins i)

/-- Every block in the state its own chapter gives after a reset, under the constants and the Retained Record that the
reset kind leaves; the queue of commands is the model's own and stays (R186; 01, R23; 02, R30; 03, R71; 04, R91; 05,
R110, R115; 06, R117; 07, R156; 08, R164; 09, R176; 10, R181). -/
def blocksAfterReset (k : Constants) (r : Retained) (pins : Pins) (queue : List Instr) : State :=
  { State.reset with
    safetyPort := pins.straps
    retained := r
    consts := k
    signals := pins.signals
    pins := pins.di
    inputs := vmap allInputs (fun i _ => InputBlock.initial (levelAtReset k pins.di i)) State.reset.inputs
    ports := vmap allPorts (fun p _ => PortBlock.initial (vget pins.signals p)) State.reset.ports
    pending := queue }

/-- A reset of a kind: the cause is written, and when it ends every bound input's level is delivered (R186, R187; 08,
R164). -/
def resetTo (kind : ResetKind) (k : Constants) (severe : Option SevereFault) (pins : Pins) (s : State) : State :=
  deliverLevels allInputs (blocksAfterReset k { cause := kind, severe := severe } pins s.pending)

/-- POWER_ON: the constants return to Table 11-1 and the last severe fault is cleared (Table 11-4). -/
def execPowerOn (pins : Pins) (s : State) : Host.Outcome State Fault Refusal :=
  .next (resetTo .powerOn Constants.initial none pins s)

/-- LINE: the constants and the last severe fault are kept (Table 11-4). -/
def execLine (pins : Pins) (s : State) : Host.Outcome State Fault Refusal :=
  .next (resetTo .line s.consts s.retained.severe pins s)

/-- COMMANDED: taken when a RESET_PART has made it due (R186, log 23); the constants and the last severe fault are kept. -/
def execCommanded (pins : Pins) (s : State) : Host.Outcome State Fault Refusal :=
  match s.resetting with
  | .due => .next (resetTo .commanded s.consts s.retained.severe pins s)
  | .none | .answerWaiting => .next s

end Sys2Proof.Machine
end

