-- ==== Sys2Proof/Machine/Dispatch.lean ====
section
/-! DEFINITION. exec: one arm per command, each one direct call of its meaning. -/

namespace Sys2Proof.Machine

/-- The effect of a command on everything but the queue. -/
def exec (i : Instr) (s : State) : Host.Outcome State Fault Refusal :=
  match i with
  | .periodStart order later => Sys2Proof.Machine.execPeriodStart order later s
  | .brakeTimerExpiry c => Sys2Proof.Machine.execBrakeTimerExpiry c s
  | .rampCountExpiry c => Sys2Proof.Machine.execRampCountExpiry c s
  | .stopCountExpiry c => Sys2Proof.Machine.execStopCountExpiry c s
  | .lockExpiry c => Sys2Proof.Machine.execLockExpiry c s
  | .handoverDeadline c => Sys2Proof.Machine.execHandoverDeadline c s
  | .proposalExpiry c => Sys2Proof.Machine.execProposalExpiry c s
  | .chargeTimerExpiry => Sys2Proof.Machine.execChargeTimerExpiry s
  | .settleTimerExpiry => Sys2Proof.Machine.execSettleTimerExpiry s
  | .wakeTimerExpiry => Sys2Proof.Machine.execWakeTimerExpiry s
  | .sampleRecord c bytes => Sys2Proof.Machine.execSampleRecord c bytes s
  | .supplyRecord bytes => Sys2Proof.Machine.execSupplyRecord bytes s
  | .frameReceived p bytes => Sys2Proof.Machine.execFrameReceived p bytes s
  | .linkSignalGained p => Sys2Proof.Machine.execLinkSignalGained p s
  | .linkSignalLost p midFrame => Sys2Proof.Machine.execLinkSignalLost p midFrame s
  | .silenceTimerExpiry p => Sys2Proof.Machine.execSilenceTimerExpiry p s
  | .transmissionComplete p => Sys2Proof.Machine.execTransmissionComplete p s
  | .pacingTimerExpiry p => Sys2Proof.Machine.execPacingTimerExpiry p s
  | .pinChange j high => Sys2Proof.Machine.execPinChange j high s
  | .debounceCountExpiry j => Sys2Proof.Machine.execDebounceCountExpiry j s
  | .unknownRequest p => Sys2Proof.Machine.execUnknownRequest p s
  | .queryPart p => Sys2Proof.Machine.execQueryPart p s
  | .writeConstant p => Sys2Proof.Machine.execWriteConstant p s
  | .readConstant p => Sys2Proof.Machine.execReadConstant p s
  | .freeze p => Sys2Proof.Machine.execFreeze p s
  | .resetPart p => Sys2Proof.Machine.execResetPart p s
  | .claim p => Sys2Proof.Machine.execClaim p s
  | .cancelClaim p => Sys2Proof.Machine.execCancelClaim p s
  | .release p => Sys2Proof.Machine.execRelease p s
  | .lock p => Sys2Proof.Machine.execLock p s
  | .unlock p => Sys2Proof.Machine.execUnlock p s
  | .queryAuthority p => Sys2Proof.Machine.execQueryAuthority p s
  | .engage p => Sys2Proof.Machine.execEngage p s
  | .disengage p => Sys2Proof.Machine.execDisengage p s
  | .forceRamp p => Sys2Proof.Machine.execForceRamp p s
  | .restore p => Sys2Proof.Machine.execRestore p s
  | .queryChannel p => Sys2Proof.Machine.execQueryChannel p s
  | .demand p => Sys2Proof.Machine.execDemand p s
  | .retract p => Sys2Proof.Machine.execRetract p s
  | .flush p => Sys2Proof.Machine.execFlush p s
  | .queryQueue p => Sys2Proof.Machine.execQueryQueue p s
  | .setOpen p => Sys2Proof.Machine.execSetOpen p s
  | .propose p => Sys2Proof.Machine.execPropose p s
  | .cancelProposal p => Sys2Proof.Machine.execCancelProposal p s
  | .confirm p => Sys2Proof.Machine.execConfirm p s
  | .reject p => Sys2Proof.Machine.execReject p s
  | .queryEnvelope p => Sys2Proof.Machine.execQueryEnvelope p s
  | .linkUp p => Sys2Proof.Machine.execLinkUp p s
  | .linkPark p => Sys2Proof.Machine.execLinkPark p s
  | .linkDown p => Sys2Proof.Machine.execLinkDown p s
  | .queryLink p => Sys2Proof.Machine.execQueryLink p s
  | .safeStop p => Sys2Proof.Machine.execSafeStop p s
  | .safeRelease p => Sys2Proof.Machine.execSafeRelease p s
  | .setMask p => Sys2Proof.Machine.execSetMask p s
  | .queryFaults p => Sys2Proof.Machine.execQueryFaults p s
  | .inputAck p => Sys2Proof.Machine.execInputAck p s
  | .queryInputs p => Sys2Proof.Machine.execQueryInputs p s
  | .subscribe p => Sys2Proof.Machine.execSubscribe p s
  | .setPacing p => Sys2Proof.Machine.execSetPacing p s
  | .powerOn pins => Sys2Proof.Machine.execPowerOn pins s
  | .line pins => Sys2Proof.Machine.execLine pins s
  | .commanded pins => Sys2Proof.Machine.execCommanded pins s

end Sys2Proof.Machine
end

