-- ==== Sys2Proof/Machine/Step.lean ====
section
/-! DEFINITION. The step: the command at the front of the queue, run on the state with the queue's rest. -/

namespace Sys2Proof.Machine

/-- The state with its queue of commands replaced. -/
def State.withQueue (s : State) (q : List Instr) : State := { s with pending := q }

/-- One step. With an empty queue the part idles (log 1). -/
def step (s : State) : Host.Outcome State Fault Refusal :=
  match s.pending with
  | [] => .next s
  | c :: rest => exec c (s.withQueue rest)

/-- The command a table word spells, put at the front of the queue; no row of the table has bits, so no word spells one. -/
def State.withFetchWord (s : State) (nbits w : Nat) : State :=
  match decodeTableWord nbits w with
  | none => s
  | some c => s.withQueue (c :: s.pending)

end Sys2Proof.Machine
end

