-- ==== Sys2Proof/Safety.lean ====
section
/-! DEFINITION. The terms claims are made in: what a port offers and what it has been answered, and the conditions that
hold in every safe state of the part (the manual's sentences in bold). -/

namespace Sys2Proof.Machine

/-! ### A request and its answer -/

/-- The frame that a port takes next, with its request code and fields (09, R169). -/
abbrev State.offers (s : State) (p : Port) (n : W16) (code : Nat) (fields : List Byte) : Prop :=
  s.nextRequest p = some { number := n, code := code, fields := fields }

/-- The port has taken its next frame: one frame has left its inbound queue (09, R169). -/
abbrev State.taken (s : State) (p : Port) : State := popRequest p s

/-- The answer stands in the port's answer slot with the overrun flag, and the command has ended: frames that are due
are formed and idle transmitters have begun (09, R169 to R171; 10, R178). -/
abbrev State.replied (s : State) (p : Port) (n : W16) (r : Reply) : State := settle (putAnswer p n false r s)

/-- In OPERATING the tag leads the port to the single channel or leader `l`: the checks every tagged request makes
first are passed (01, R17; 02, R31; 03, R55; 06, R120). -/
abbrev State.routes (s : State) (p : Port) (tag : Byte) (l : Chan) : Prop :=
  s.phase = .operating ∧ s.consts.lookup tag.toNat p = some l ∧ s.consts.isFollower l = false

/-- The fields fit the form that `read` reads. -/
abbrev fits {α : Type} (read : List Byte → Option α) (fields : List Byte) : Bool := (read fields).isSome

/-- The fields of a port that only its own link and its own requests change. -/
abbrev PortBlock.sameLink (a b : PortBlock) : Prop :=
  a.link = b.link ∧ a.silence = b.silence ∧ a.inbound = b.inbound ∧ a.overrun = b.overrun ∧
    a.damaged = b.damaged ∧ a.subscribed = b.subscribed ∧ a.pacingMs = b.pacingMs

/-- The port has been told of a notice kind: its summary holds it, or a NOTICE frame that carries it waits or is being
sent (10, R177, R178). -/
abbrev PortBlock.announces (b : PortBlock) (k : NoticeKind) : Prop :=
  b.summary.getLsbD k.index = true ∨
    ∃ kinds period, kinds.getLsbD k.index = true ∧
      (b.notice = some { bytes := noticeFrame kinds period, isReset := false } ∨
        b.sending = some { bytes := noticeFrame kinds period, isReset := false })

/-- The blocks that no reaction, move or link change writes stay as they were. -/
abbrev State.sameFrame (s t : State) : Prop :=
  t.phase = s.phase ∧ t.safetyPort = s.safetyPort ∧ t.resetting = s.resetting ∧ t.consts = s.consts ∧
    t.signals = s.signals ∧ t.pins = s.pins ∧ t.period = s.period ∧ t.started = s.started ∧ t.inputs = s.inputs ∧
    t.pending = s.pending ∧ t.retained.cause = s.retained.cause ∧ ∀ q, (t.port q).sameLink (s.port q)

/-! ### Groups and their moves -/

/-- The engines with those of a group replaced by their images. -/
abbrev State.onGroup (s : State) (l : Chan) (f : Engine → Engine) : Vector Engine 8 :=
  vmap (s.group l) (fun _ e => f e) s.engines

/-- The queues with one channel's replaced. -/
abbrev State.onQueue (s : State) (l : Chan) (f : DemandQueue → DemandQueue) : Vector DemandQueue 8 :=
  vset s.queues l (f (s.queue l))

/-- The gate enable a channel has in a channel state, under the present link state (01, R5). -/
abbrev State.gateIn (s : State) (x : ChState) (c : Chan) : Bool :=
  s.present c && x.driving && decide (s.link.state = .ready)

/-- What a change of the gate enable leaves of an engine (01, R5; 04, R84, R87). -/
abbrev Engine.gated (e : Engine) (on : Bool) : Engine :=
  if e.gateEnable && !on then { e with gateEnable := false, lastDraw := 0, lastDuties := Duties.zero }
  else { e with gateEnable := on }

/-- A channel's engine after its group `l` has moved. -/
abbrev State.movedEngine (s : State) (l : Chan) (new : ChState) (timer : Option Nat) (c : Chan) : Engine :=
  if c ∈ s.group l then
    if c = l then { (s.eng c).gated (s.gateIn new c) with state := new, timer := timer, holdFault := false }
    else (s.eng c).gated (s.gateIn new c)
  else s.eng c

/-- The cut records that a move sends, newest first, before the records sent earlier (04, R87). -/
abbrev State.cutRecords (s : State) (l : Chan) (new : ChState) : List Emission :=
  (s.group l).foldl (fun w c =>
    if (s.eng c).gateEnable && !s.gateIn new c then .bridge c (gateRecord s.stamp16 Duties.zero false s.standby) :: w
    else w) s.wire

/-! ### The conditions of a safe state -/

/-- In CONFIG nothing drives and nothing is held; in OPERATING the constants have passed FREEZE's checks (11, R182,
R184; 02, R30; 03, R71; 05, R92). -/
abbrev State.phaseOk (s : State) : Prop :=
  (s.phase = .operating → s.consts.freezeFault = none) ∧
  (s.phase = .config →
    (∀ c, (s.eng c).state = .off ∧ (s.auRec c).holder = none ∧ (s.auRec c).waiting = [] ∧
      (s.queue c).entries = []) ∧
    (s.link.state = .draining ∨ s.link.state = .discharged))

/-- A channel's gate enable is on just while the channel is present and in a driving state and the link is READY (01,
R5). -/
abbrev State.gatesOk (s : State) : Prop := ∀ c, (s.eng c).gateEnable = s.gateValue c

/-- The sum of all grants never exceeds the budget, no grant exceeds its request, and a channel whose gate enable is
off has request 0 (05, R112, R113). -/
abbrev State.grantsOk (s : State) : Prop :=
  (allChans.map fun c => vget s.allot.grant c).sum ≤ s.allot.budget ∧
  ∀ c, vget s.allot.grant c ≤ vget s.allot.request c ∧
    ((s.eng c).gateEnable = false → vget s.allot.request c = 0)

/-- A demand queue holds at most 16 entries, of strictly increasing stamps, each within 1 to 64 periods after the
period stamps are judged against (03, R49, R53). -/
abbrev queueOrdered (judged : W32) (q : List Entry) : Prop :=
  q.length ≤ 16 ∧ q.Pairwise (fun x y => distance judged x.stamp < distance judged y.stamp) ∧
    ∀ x ∈ q, 1 ≤ distance judged x.stamp ∧ distance judged x.stamp ≤ 64

/-- Every queue is ordered; the queue of a channel without a holder, of a follower or absent channel, and of a channel
outside OFF, RELEASING and RUN is empty (03, R49, R54, R67). -/
abbrev State.queuesOk (s : State) : Prop :=
  ∀ c, queueOrdered s.judgedPeriod (s.queue c).entries ∧
    ((s.auRec c).holder = none ∨ s.served c = false ∨ (s.eng c).state.demandable = false → (s.queue c).entries = [])

/-- A waiting list holds at most three claims, from distinct ports, none of them the holder, in strictly descending
rank, and it is empty without a holder; every rank is the nonzero rank of its port (02, R25, R27). -/
abbrev State.waitingOk (s : State) : Prop :=
  ∀ c, (s.auRec c).waiting.length ≤ 3 ∧
    (s.auRec c).waiting.Pairwise (fun x y => y.rank < x.rank ∧ x.port ≠ y.port) ∧
    (∀ x ∈ (s.auRec c).waiting, some x.port ≠ (s.auRec c).holder ∧ x.rank = s.rank x.port ∧ x.rank ≠ 0) ∧
    ((s.auRec c).holder = none → (s.auRec c).waiting = []) ∧
    (s.auRec c).holderRank = (s.auRec c).holder.map s.rank ∧
    (∀ p, (s.auRec c).holder = some p → s.rank p ≠ 0)

/-- The scope a fault kind has (07, Table 7-1). -/
abbrev scopeFits (k : FaultKind) (sc : Scope) : Bool :=
  match k, sc with
  | .supplyLost, .link | .linkLow, .link | .linkHigh, .link | .chargeFail, .link | .wakeFail, .link => true
  | .safeStop, .all => true
  | .overcurrent, .channel _ | .bridgeFault, .channel _ | .sampleLost, .channel _ => true
  | .portSilent, .port _ => true
  | .starved, .channel _ | .brakeFault, .channel _ | .thermal, .channel _ => true
  | _, _ => false

/-- A kind that the trip reaction handles outside the pending set (07, R134, R135). -/
abbrev FaultKind.isTrip (k : FaultKind) : Bool := decide (6 ≤ k.index) && decide (k.index ≤ 8)

/-- The pending set is in taking order with no key twice, holds no trip kind, and counts 1 to 255 reports an entry; the
reaction in service is a link kind's or SAFE_STOP; a repeat is held only while a SAFE_STOP reaction is in service (07,
R134, R136). -/
abbrev State.reactionsOk (s : State) : Prop :=
  s.react.pendingSet.Pairwise (fun x y => keyOrder x.kind x.scope < keyOrder y.kind y.scope) ∧
  (∀ x ∈ s.react.pendingSet, scopeFits x.kind x.scope = true ∧ x.kind.isTrip = false ∧ 1 ≤ x.count ∧ x.count ≤ 255) ∧
  (∀ i, s.react.inService = some i → i.kind.isLink = true ∨ i.kind = .safeStop) ∧
  (∀ h, s.react.held = some h → 1 ≤ h.count ∧ h.count ≤ 255 ∧ s.react.inService.map (·.kind) = some .safeStop)

/-- The Reaction Controller has taken what it may take: with nothing in service no pending entry is takeable, and none
is held back for a take (log 31); in CONFIG nothing is pending or in service, no handover is open and no silence timer
runs (07, R137, R156; 02, R30; 09, R167). -/
abbrev State.takingOk (s : State) : Prop :=
  (s.phase = .config → s.react.inService = none ∧ s.react.pendingSet = [] ∧ (∀ c, (s.auRec c).handover = none) ∧
    ∀ p, (s.port p).silence = none) ∧
  (s.react.inService = none → ∀ x ∈ s.react.pendingSet, s.takeable x = false) ∧
  ∀ c, vget s.react.untilTake c = false

/-- The running states and HOLDING and RAMPING: those a safe-stop assertion ends (01, Table 1-4). -/
abbrev ChState.stoppable (x : ChState) : Bool :=
  match x with
  | .releasing | .run | .holding | .ramping => true
  | .off | .stopping | .tripped => false

/-- Only a present channel that is no follower drives on its own record, and only while the link is READY; a channel
in RELEASING or RUN has a holder; while the safe latch is set no channel is in RELEASING, RUN, HOLDING or RAMPING (02,
R36; 05, R95; 07, R142). -/
abbrev State.drivingOk (s : State) : Prop :=
  ∀ c, ((s.eng c).state.driving = true → s.served c = true ∧ s.link.state = .ready) ∧
    ((s.eng c).state.running = true → (s.auRec c).holder ≠ none) ∧
    (s.react.latch = true → (s.eng c).state.stoppable = false)

/-- The active demand of a channel that no ramp, stop or trip has reached carries the id target (01, R8, R12; 03, R51,
log 7). -/
abbrev State.demandsOk (s : State) : Prop :=
  ∀ c, (s.eng c).state = .off ∨ (s.eng c).state = .releasing ∨ (s.eng c).state = .run ∨ (s.eng c).state = .holding →
    (s.eng c).active.id = (s.eng c).idTarget

/-- A set of guarded values is within Table 6-1: continuous at most peak, peak at most the rating ceiling of each
channel of the group, and each value in its range; a continuous current is at least 1 where the ceilings are in theirs
(06, R116). -/
abbrev State.valuesOk (s : State) (c : Chan) (g : Guarded) : Prop :=
  g.continuous ≤ g.peak ∧ (∀ d ∈ s.group c, g.peak ≤ vget s.consts.ceiling d) ∧
    ((∀ d ∈ s.group c, 100 ≤ vget s.consts.ceiling d) → 1 ≤ g.continuous) ∧
    1 ≤ g.tau ∧ g.tau ≤ 3600 ∧ 20 ≤ g.brakeMs ∧ g.brakeMs ≤ 2000 ∧ 50 ≤ g.stopMs ∧ g.stopMs ≤ 5000

/-- In OPERATING the guarded values of every channel are within Table 6-1, and so are those of a pending proposal, whose
proposer is not the safety port (06, R116, R122, R124). -/
abbrev State.limitsOk (s : State) : Prop :=
  s.phase = .operating → ∀ c, s.valuesOk c (s.env c).guarded ∧
    ∀ x, (s.env c).proposal = some x → s.valuesOk c x.values ∧ x.proposer ≠ s.safetyPort

/-- A port is settled: no NOTICE frame is due, and an idle transmitter with link signal has nothing waiting (09, R171;
10, R178). -/
abbrev PortBlock.settled (b : PortBlock) : Prop :=
  ¬ (b.summary ≠ 0#12 ∧ b.pacing = none ∧ b.notice = none) ∧
    (b.sending = none → b.link ≠ .down → b.answer = none ∧ b.notice = none)

/-- Every port is settled, holds at most four frames, is DOWN just while its link signal is absent, and runs its
silence timer only in UP; in CONFIG no port is SILENT and no silence timer runs (09, R166 to R168, R171; 10, R178). -/
abbrev State.portsOk (s : State) : Prop :=
  ∀ p, (s.port p).settled ∧ (s.port p).inbound.length ≤ 4 ∧ ((s.port p).link = .down ↔ vget s.signals p = false) ∧
    ((s.port p).silence ≠ none → (s.port p).link = .up) ∧
    (s.phase = .config → (s.port p).link ≠ .silent ∧ (s.port p).silence = none)

end Sys2Proof.Machine

namespace Sys2Proof

open Sys2Proof.Machine

/-- A request command: the port that takes it, the request code, and the test of its length (12, R189). -/
abbrev Instr.request (i : Instr) : Option (Port × Nat × (List Byte → Bool)) :=
  match i with
  | .queryPart p => some (p, 1, fits readNothing)
  | .writeConstant p => some (p, 2, fits readWriteConstant)
  | .readConstant p => some (p, 3, fits readReadConstant)
  | .freeze p => some (p, 4, fits readNothing)
  | .resetPart p => some (p, 5, fits readNothing)
  | .claim p => some (p, 6, fits readTagFlag)
  | .cancelClaim p => some (p, 7, fits readByte)
  | .release p => some (p, 8, fits readByte)
  | .lock p => some (p, 9, fits readTagWord)
  | .unlock p => some (p, 10, fits readByte)
  | .queryAuthority p => some (p, 11, fits readByte)
  | .engage p => some (p, 12, fits readByte)
  | .disengage p => some (p, 13, fits readByte)
  | .forceRamp p => some (p, 14, fits readByte)
  | .restore p => some (p, 15, fits readByte)
  | .queryChannel p => some (p, 16, fits readByte)
  | .demand p => some (p, 17, fits readDemand)
  | .retract p => some (p, 18, fits readRetract)
  | .flush p => some (p, 19, fits readTagWord)
  | .queryQueue p => some (p, 20, fits readByte)
  | .setOpen p => some (p, 21, fits readSetOpen)
  | .propose p => some (p, 22, fits readPropose)
  | .cancelProposal p => some (p, 23, fits readByte)
  | .confirm p => some (p, 24, fits readTagByte)
  | .reject p => some (p, 25, fits readTagByte)
  | .queryEnvelope p => some (p, 26, fits readByte)
  | .linkUp p => some (p, 27, fits readNothing)
  | .linkPark p => some (p, 28, fits readNothing)
  | .linkDown p => some (p, 29, fits readNothing)
  | .queryLink p => some (p, 30, fits readNothing)
  | .safeStop p => some (p, 31, fits readNothing)
  | .safeRelease p => some (p, 32, fits readNothing)
  | .setMask p => some (p, 33, fits readList)
  | .queryFaults p => some (p, 34, fits readByte)
  | .inputAck p => some (p, 35, fits readList)
  | .queryInputs p => some (p, 36, fits readByte)
  | .subscribe p => some (p, 37, fits readList)
  | .setPacing p => some (p, 38, fits readWord)
  | .periodStart _ _ | .brakeTimerExpiry _ | .rampCountExpiry _ | .stopCountExpiry _ | .lockExpiry _ => none
  | .handoverDeadline _ | .proposalExpiry _ | .chargeTimerExpiry | .settleTimerExpiry | .wakeTimerExpiry => none
  | .sampleRecord _ _ | .supplyRecord _ | .frameReceived _ _ | .linkSignalGained _ | .linkSignalLost _ _ => none
  | .silenceTimerExpiry _ | .transmissionComplete _ | .pacingTimerExpiry _ | .pinChange _ _ => none
  | .debounceCountExpiry _ | .unknownRequest _ | .powerOn _ | .line _ | .commanded _ => none

end Sys2Proof
end

