-- ==== Sys2Proof/WellFormed.lean ====
section
/-! DEFINITION. Which commands are well formed. The index types (Fin 8, Fin 4, Fin 16) already bound every channel,
port and input; what remains is that PERIOD_START names each work at most once, in one of its two lists. -/

namespace Sys2Proof

/-- PERIOD_START's lists name no work twice and share none (log 3). -/
def periodOrderOk (order later : List Work) : Bool :=
  decide (order.Nodup) && decide (later.Nodup) && order.all (fun w => !later.contains w)

/-- A well-formed command. -/
def Instr.wf (i : Instr) : Bool :=
  match i with
  | .periodStart order later => periodOrderOk order later
  | .brakeTimerExpiry _ | .rampCountExpiry _ | .stopCountExpiry _ | .lockExpiry _ | .handoverDeadline _ => true
  | .proposalExpiry _ | .chargeTimerExpiry | .settleTimerExpiry | .wakeTimerExpiry => true
  | .sampleRecord _ _ | .supplyRecord _ | .frameReceived _ _ | .linkSignalGained _ | .linkSignalLost _ _ => true
  | .silenceTimerExpiry _ | .transmissionComplete _ | .pacingTimerExpiry _ | .pinChange _ _ => true
  | .debounceCountExpiry _ | .unknownRequest _ | .queryPart _ | .writeConstant _ | .readConstant _ => true
  | .freeze _ | .resetPart _ | .claim _ | .cancelClaim _ | .release _ | .lock _ | .unlock _ => true
  | .queryAuthority _ | .engage _ | .disengage _ | .forceRamp _ | .restore _ | .queryChannel _ => true
  | .demand _ | .retract _ | .flush _ | .queryQueue _ | .setOpen _ | .propose _ | .cancelProposal _ => true
  | .confirm _ | .reject _ | .queryEnvelope _ | .linkUp _ | .linkPark _ | .linkDown _ | .queryLink _ => true
  | .safeStop _ | .safeRelease _ | .setMask _ | .queryFaults _ | .inputAck _ | .queryInputs _ => true
  | .subscribe _ | .setPacing _ | .powerOn _ | .line _ | .commanded _ => true

end Sys2Proof
end

