-- ==== Sys2Proof/Certificates/Slice0/Obligations.lean ====
section
/-! DEFINITION. The statements for the provers. Equations give the whole next state, so what a command leaves alone is
what its equation does not name. `s.taken p` is the state with the request taken from the port's inbound queue, and
`u.replied p n r` the state `u` with the answer in the answer slot, at the end of the command. -/

open Sys2Proof Sys2Proof.Machine

/-! ### The machine as a whole -/

/-- A step runs the command at the front of the queue on the state with the queue's rest; with an empty queue the part
idles (the model's choice, log 1). -/
def Obligations.StepRunsFrontCommand : Prop :=
  (∀ (i : Instr) (rest : List Instr) (s : State), s.pending = i :: rest → step s = exec i (s.withQueue rest)) ∧
  ∀ s : State, s.pending = [] → step s = .next s

/-- Every command is answered by a next state, never by a fault or a refusal, and leaves the queue of commands alone.
The queue is the model's own (log 1), and that an event whose condition does not hold completes, changing nothing, is
the model's choice (log 2). -/
def Obligations.EveryCommandAnswersANextState : Prop :=
  ∀ (i : Instr) (s : State), ∃ t, exec i s = .next t ∧ t.pending = s.pending

/-- What the three resets leave (11, R186, R187; each block's reset rule). The values of registers for which the
manual states no reset value are the model's (log 20), as is COMMANDED's being a step of its own (log 23). State.reset
is what a power-on reset leaves with every pin low (the pins are the model's choice, log 19). -/
def Obligations.ResetsLeaveEveryBlockFresh : Prop :=
  ((∀ (kind : ResetKind) (i : Instr) (pins : Pins) (s : State),
    (kind = .powerOn ∧ i = .powerOn pins) ∨ (kind = .line ∧ i = .line pins) ∨
      (kind = .commanded ∧ i = .commanded pins ∧ s.resetting = .due) →
    ∃ t, exec i s = .next t ∧
      t.phase = .config ∧ t.resetting = .none ∧ t.period = 0 ∧ t.started = false ∧ t.wire = [] ∧
      t.retained.cause = kind ∧ t.safetyPort = pins.straps ∧ t.signals = pins.signals ∧ t.pins = pins.di ∧
      (kind = .powerOn → t.consts = Constants.initial ∧ t.retained.severe = none) ∧
      (kind ≠ .powerOn → t.consts = s.consts ∧ t.retained.severe = s.retained.severe) ∧
      (∀ c, t.auRec c = AuthRecord.initial ∧ t.queue c = DemandQueue.initial ∧ t.env c = Envelope.initial ∧
        t.eng c = { Engine.initial with feedback := (t.eng c).feedback }) ∧
      t.link = { LinkBlock.initial with wakeLevels := t.link.wakeLevels } ∧ t.allot = Allotment.initial ∧
      t.react = { ReactionBlock.initial with stopLevels := t.react.stopLevels } ∧
      (∀ j, t.inp j = InputBlock.initial ((vget t.consts.inputs j).polarity.activeAt (vget pins.di j)) ∧
        vget t.react.stopLevels j = (decide ((vget t.consts.inputs j).binding = .safeStop) && (t.inp j).level) ∧
        vget t.link.wakeLevels j = (decide ((vget t.consts.inputs j).binding = .wake) && (t.inp j).level) ∧
        ∀ c, vget (t.eng c).feedback j = (decide ((vget t.consts.inputs j).binding = .brakeFb c) && (t.inp j).level)) ∧
      ∀ p, t.port p = PortBlock.initial (vget pins.signals p)) ∧
  ∀ (pins : Pins) (s : State), s.resetting ≠ .due → exec (.commanded pins) s = .next s) ∧
  ∀ s : State, s.pending = [] →
    exec (.powerOn { straps := 0, signals := Vector.replicate 4 false, di := Vector.replicate 16 false }) s =
      .next State.reset

/-! ### Operations that commands share -/

/-- A move of a group writes the leader's state and timer; in the same action each gate enable of the group follows
the channel state and the link, a change of it clears the request and recomputes the grants, a cut clears the last
draw and sends a cut record, a handover left behind is removed, and CHANNEL_STATE is handed (01, R2, R4, R5, R7; 04,
R84, R87; 05, R112, R113; 02, R45). That a cut before the first good sample sends a cut record too is the model's
choice (log 36), and that the duties of a cut record count as the last sent, so that a cut leaves them zero, is the
model's reading (log 26). -/
def Obligations.MoveFollowsItsGroup : Prop :=
  ∀ (l : Chan) (new : ChState) (timer : Option Nat) (s : State), s.consts.isFollower l = false →
    ∃ u, moveGroup l new timer s = broadcast .channelState u ∧
      u = { s with engines := u.engines, auth := u.auth, allot := u.allot, wire := s.cutRecords l new } ∧
      (∀ c, u.eng c = s.movedEngine l new timer c) ∧
      (∀ c, u.auRec c =
        if c = l ∧ (s.eng l).state.running = true ∧ new.running = false then { s.auRec c with handover := none }
        else s.auRec c) ∧
      u.allot.budget = s.allot.budget ∧
      (∀ c, vget u.allot.request c =
        if c ∈ s.group l ∧ (s.eng c).gateEnable ≠ s.gateIn new c then 0 else vget s.allot.request c) ∧
      ((∀ c ∈ s.group l, (s.eng c).gateEnable = s.gateIn new c) → u.allot = s.allot) ∧
      ((∃ c ∈ s.group l, (s.eng c).gateEnable ≠ s.gateIn new c) →
        u.allot.grant = grantsOf s.consts s.allot.budget u.allot.request)

/-- A change of holder: the holder and its rank, the epoch, the flush of the queue, the lock, the handover; a running
channel whose holder becomes absent goes to HOLDING (02, R26, R36; 03, R63, R68; 01, R11). -/
def Obligations.ChangeOfHolderIsOneAction : Prop :=
  ∀ (l : Chan) (new : Option Port) (s u : State),
    u = { s with
      auth := vset s.auth l { s.auRec l with
        holder := new, holderRank := new.map s.rank, epoch := (s.auRec l).epoch + 1, lock := none
        handover := match new with
          | none => none
          | some q =>
            if (s.eng l).state.running then some ⟨(s.auRec l).holder, q, s.periods s.consts.handoverMs⟩
            else (s.auRec l).handover }
      queues := s.onQueue l fun q => { q with entries := [], gap := 0, starved := false } } →
    ((new ≠ none ∨ (s.eng l).state.running = false) → changeHolder l new s = u) ∧
    (new = none → (s.eng l).state.running = true →
      changeHolder l new s = moveGroup l .holding (some (s.periods (s.env l).guarded.brakeMs)) u)

/-- With nothing in service the Reaction Controller takes the first takeable entry, in taking order, acts on it and
goes on; with a reaction in service or nothing takeable it takes nothing (07, R137). After a taking a reaction is in
service, or no entry is takeable (07, R137). A report merges into its entry (count to 255, first period kept, an epoch
replaced) or enters at its place by kind, then scope (07, R134). Severe entries are always takeable, ordinary ones
unmasked with no handover open in their scope, nor one whose deadline waits for a take (log 31; 07, R137, R145, R150).
An ordinary report enters the set, and a taking follows: with nothing in service or pending it is taken at once if it
is takeable (07, R134, R137, R144). What the ordinary reactions do: BRAKE_FAULT sets the
mark and flushes the group's queue, with FAULT (07, R148); THERMAL sets the derate mark, with THERMAL (07, R149);
STARVED revokes the holder under the epoch reported and no other, the head of the waiting list becoming holder, with
FAULT (02, R46, R37; 07, R147); PORT_SILENT takes the port off every waiting list, revokes it wherever it holds, and
withdraws its proposals, with FAULT (02, R47; 06, R125, R130; 07, R146). -/
def Obligations.TakingTakesInOrderUntilNothingIsTakeable : Prop :=
  ((∀ s : State, s.react.inService.isSome = true ∨ (∀ x ∈ s.react.pendingSet, s.takeable x = false) →
    takeReactions s = s) ∧
  ∀ (s : State) (before after : List PendingEntry) (x : PendingEntry), s.react.inService = none →
    s.react.pendingSet = before ++ x :: after → (∀ y ∈ before, s.takeable y = false) → s.takeable x = true →
    takeReactions s =
      takeReactions (performReaction x { s with react := { s.react with pendingSet := before ++ after } })) ∧
  (∀ s : State, (takeReactions s).react.inService.isSome = true ∨
    ∀ x ∈ (takeReactions s).react.pendingSet, (takeReactions s).takeable x = false) ∧
  (∀ (k k' : FaultKind) (sc sc' : Scope), keyOrder k sc < keyOrder k' sc' ↔
    k.index < k'.index ∨ (k.index = k'.index ∧ sc.number < sc'.number)) ∧
  (∀ (x y : PendingEntry) (before after : List PendingEntry),
    (∀ z ∈ before, keyOrder z.kind z.scope < keyOrder x.kind x.scope) →
    (y.kind = x.kind → y.scope = x.scope → insertPending x (before ++ y :: after) =
      before ++ { y with
        count := min 255 (y.count + x.count), epoch := if x.epoch.isSome then x.epoch else y.epoch } :: after) ∧
    ((∀ z ∈ after, keyOrder x.kind x.scope < keyOrder z.kind z.scope) →
      insertPending x (before ++ after) = before ++ x :: after)) ∧
  (∀ (k : FaultKind) (first : W32) (n : Nat) (e : Option W16) (s : State),
    (∀ sc, k.ordinary = false → s.takeable ⟨k, sc, first, n, e⟩ = true) ∧
    (∀ c, k.ordinary = true → (s.takeable ⟨k, .channel c, first, n, e⟩ = true ↔ s.react.mask.has k = false ∧
      (s.auRec (s.lead c)).handover = none ∧ vget s.react.untilTake (s.lead c) = false)) ∧
    ∀ p, k.ordinary = true → (s.takeable ⟨k, .port p, first, n, e⟩ = true ↔ s.react.mask.has k = false ∧
      ∀ c, (s.auRec c).holder = some p → (s.auRec c).handover = none ∧ vget s.react.untilTake c = false)) ∧
  (∀ (k : FaultKind) (sc : Scope) (e : Option W16) (s : State), reportOrdinary k sc e s = takeReactions
    { s with react := { s.react with pendingSet := insertPending ⟨k, sc, s.period, 1, e⟩ s.react.pendingSet } }) ∧
  (∀ (k : FaultKind) (sc : Scope) (e : Option W16) (s : State) (x : PendingEntry), scopeFits k sc = true →
    k.ordinary = true → s.react.pendingSet = [] → x = ⟨k, sc, s.period, 1, e⟩ →
    (s.react.inService = none → s.takeable x = true → reportOrdinary k sc e s = performReaction x s) ∧
    (s.react.inService.isSome = true ∨ s.takeable x = false →
      reportOrdinary k sc e s = { s with react := { s.react with pendingSet := [x] } })) ∧
  (∀ (c : Chan) (first : W32) (n : Nat) (e : Option W16) (s : State),
    performReaction ⟨.brakeFault, .channel c, first, n, e⟩ s = broadcast .fault { s with
      engines := vset s.engines c { s.eng c with brakeMark := true }
      queues := s.onQueue (s.lead c) fun q => { q with entries := [] } } ∧
    performReaction ⟨.thermal, .channel c, first, n, e⟩ s = broadcast .thermal { s with
      engines := vset s.engines c { s.eng c with derate := true } } ∧
    ∀ l, l = s.lead c →
      ((s.auRec l).holder = none ∨ e ≠ some (s.auRec l).epoch →
        performReaction ⟨.starved, .channel c, first, n, e⟩ s = broadcast .fault s) ∧
      ∀ old, (s.auRec l).holder = some old → e = some (s.auRec l).epoch →
        ((s.auRec l).waiting = [] → performReaction ⟨.starved, .channel c, first, n, e⟩ s =
          broadcast .fault (handTo old .authority (changeHolder l none s))) ∧
        ∀ x rest, (s.auRec l).waiting = x :: rest → performReaction ⟨.starved, .channel c, first, n, e⟩ s =
          broadcast .fault (handTo x.port .authority (handTo old .authority (changeHolder l (some x.port)
            { s with auth := vset s.auth l { s.auRec l with waiting := rest } })))) ∧
  ∀ (p : Port) (first : W32) (n : Nat) (e : Option W16) (s t : State),
    t = performReaction ⟨.portSilent, .port p, first, n, e⟩ s →
    (∀ l ws, ws = (s.auRec l).waiting.filter (fun x => decide (x.port ≠ p)) →
      (s.served l = false → t.auRec l = s.auRec l) ∧
      (s.served l = true → (s.auRec l).holder ≠ some p →
        t.auRec l = { s.auRec l with waiting := ws } ∧ t.queue l = s.queue l ∧ (t.eng l).state = (s.eng l).state) ∧
      (s.served l = true → (s.auRec l).holder = some p →
        (t.queue l) = { s.queue l with entries := [], gap := 0, starved := false } ∧
        (t.port p).summary.getLsbD NoticeKind.authority.index = true ∧
        (ws = [] → t.auRec l = ⟨none, none, (s.auRec l).epoch + 1, none, [], none⟩ ∧
          (t.eng l).state = if (s.eng l).state.running then .holding else (s.eng l).state) ∧
        ∀ x rest, ws = x :: rest → (t.eng l).state = (s.eng l).state ∧
          (t.port x.port).summary.getLsbD NoticeKind.authority.index = true ∧
          t.auRec l = ⟨some x.port, some (s.rank x.port), (s.auRec l).epoch + 1, none, rest,
            if (s.eng l).state.running then some ⟨some p, x.port, s.periods s.consts.handoverMs⟩
            else (s.auRec l).handover⟩)) ∧
    (∀ l, ((∀ x, (s.env l).proposal = some x → x.proposer ≠ p) → t.env l = s.env l) ∧
      ∀ x, (s.env l).proposal = some x → x.proposer = p →
        t.env l = { s.env l with proposal := none, last := some ⟨p, x.number, .withdrawn, s.period⟩ } ∧
        (t.port p).summary.getLsbD NoticeKind.proposalResult.index = true ∧
        (t.port s.safetyPort).summary.getLsbD NoticeKind.proposal.index = true) ∧
    ∀ q, (s.port q).subscribes .fault = true → (t.port q).summary.getLsbD NoticeKind.fault.index = true

/-- A change of link state in OPERATING: the state and its timer, every gate enable, the budget (05, R95, R111; 01,
R5). That the budget is 0 in READY while no supply record is held is the model's reading (log 27). The discrete
outputs follow the states: PRECHG, MAIN, RDY and standby the link state and the safe latch (05, R95; 07, R140), BRK of
each channel of a group the state of its leader (01, R5), NL the port's summary and notice slot (10, R177; 08,
R165). -/
def Obligations.LinkChangeMovesGatesAndBudget : Prop :=
  (∀ (x : LinkState) (s t : State), s.phase = .operating → t = changeLink x s →
    t.link = { s.link with state := x, timer := match x with
      | .charging => some (s.periods s.consts.chargeLimitMs)
      | .settling => some (s.periods (Config.settleMs s.consts.settleCode))
      | .waking => some (s.periods Config.wakeLimitMs)
      | .discharged | .ready | .parked | .draining => none } ∧
    t.gatesOk ∧
    t.allot.budget = (match x, s.link.supply with
      | .ready, some d => min s.consts.linkRating d.available
      | _, _ => 0) ∧
    (x = .ready → ∀ c, (t.eng c).gateEnable = (s.present c && (t.chState c).driving)) ∧
    (x ≠ .ready → ∀ c, (t.eng c).gateEnable = false) ∧
    (∀ q, (s.port q).subscribes .linkState = true → (t.port q).summary.getLsbD NoticeKind.linkState.index = true) ∧
    s.sameFrame t) ∧
  ∀ s : State,
    (s.prechg = true ↔ s.link.state = .charging ∨ s.link.state = .settling) ∧
    (s.main = true ↔ s.link.state = .ready ∨ s.link.state = .parked ∨ s.link.state = .waking) ∧
    (s.rdy = true ↔ s.link.state = .ready ∧ s.react.latch = false) ∧
    (s.standby = true ↔ s.link.state = .parked) ∧
    (∀ l c, s.consts.isFollower l = false → c ∈ s.group l →
      (s.brk c = true ↔ (s.eng l).state = .releasing ∨ (s.eng l).state = .run)) ∧
    ∀ p, s.nl p = true ↔ (s.port p).summary ≠ 0 ∨ (s.port p).notice ≠ none

/-- A link fault: the link drains with every gate off and no budget; out of READY each driving channel trips with the
link kind and the link voltage; with nothing in service or pending the kind's reaction is taken and recorded (05,
R103; 01, R14, R15; 07, R138, R153). In DRAINING only the report is made. The report: with nothing in service and no
link kind pending the reaction is taken, every present channel's queue is flushed, FAULT and LINK_STATE are handed,
and the fault is recorded; a SAFE_STOP reaction in service is overtaken first, ending with SAFE_STATE, its held repeat
joining the pending set; with a link reaction in service the report enters or merges in the pending set (07, R134,
R138, R142, R143, R153). -/
def Obligations.LinkFaultDrainsAndTrips : Prop :=
  (∀ (k : FaultKind) (s t : State), s.phase = .operating → k.isLink = true → t = linkFault k s →
    (s.link.state = .draining → t = reportLink k s) ∧
    (s.link.state ≠ .draining →
      t.link = { s.link with state := .draining, timer := none } ∧ t.allot.budget = 0 ∧
      (∀ c, (t.eng c).gateEnable = false) ∧
      (s.link.state = .ready → ∀ c, s.served c = true → (s.eng c).state.driving = true →
        (t.eng c).state = .tripped ∧ (t.eng c).timer = none ∧ (t.queue c).entries = [] ∧
        ∀ d ∈ s.group c, (t.eng d).trip = some ⟨k, s.period, s.vlink⟩) ∧
      (∃ u, t = reportLink k u ∧ u.link = { s.link with state := .draining, timer := none } ∧ u.react = s.react ∧
        u.retained = s.retained ∧ s.sameFrame u) ∧
      (s.react.inService = none → s.react.pendingSet = [] →
        t.react.inService = some ⟨k, .link, s.period, s.period⟩ ∧ t.retained.severe = some ⟨k, .link, s.period⟩ ∧
        t.react.pendingSet = []) ∧
      s.sameFrame t)) ∧
  ∀ (k : FaultKind) (s v t : State), k.isLink = true → s.link.state ≠ .discharged →
    (∀ x ∈ s.react.pendingSet, x.kind.isLink = false) →
    t = broadcast .linkState (broadcast .fault { v with
      queues := vmap allChans (fun c q => if s.present c then { q with entries := [] } else q) s.queues
      react := { v.react with inService := some ⟨k, .link, s.period, s.period⟩ }
      retained := { s.retained with severe := some ⟨k, .link, s.period⟩ } }) →
    (s.react.inService = none → v = s → reportLink k s = t) ∧
    (∀ i, s.react.inService = some i → i.kind = .safeStop →
      v = broadcast .safeState { s with react := { s.react with
        inService := none, lastEnded := some ⟨.safeStop, .all, .overtaken, s.period⟩, held := none
        pendingSet := match s.react.held with
          | none => s.react.pendingSet
          | some h => insertPending ⟨.safeStop, .all, h.first, h.count, none⟩ s.react.pendingSet } } →
      reportLink k s = t) ∧
    ∀ i, s.react.inService = some i → i.kind ≠ .safeStop → reportLink k s = { s with react := { s.react with
      pendingSet := insertPending ⟨k, .link, s.period, 1, none⟩ s.react.pendingSet } }

/-- A SAFE_STOP detection sets the latch and ends every running, holding or ramping channel by the category: OFF with
the zero demand (its id the id target, the model's reading, log 7) for IMMEDIATE, STOPPING from the applied demand
over the stop time, the queue flushed, for RAMPED; a channel in OFF, STOPPING or TRIPPED keeps its state (01, R8, R13,
R16; 07, R141). Then the report, by what is in service: with a SAFE_STOP reaction there the held repeat is created
with the present period and count 1, or counts one more, to 255; with a link reaction there the report enters or
merges in the pending set; with nothing there or pending but ordinary kinds it is taken: every present channel's queue
is flushed, SAFE_STATE handed, the fault recorded, and with no channel in STOPPING the reaction ends as COMPLETED at
once, with SAFE_STATE, and the taking goes on (07, R134, R137, R141, R142, R153). -/
def Obligations.SafeStopEndsEveryDrivingChannel : Prop :=
  ∀ (s u w v : State) (h : StopHandling), detectSafeStop s = (u, h) →
    w = allChans.foldl (fun x c =>
        if s.served c = true ∧ (x.eng c).state.stoppable = true then
          match s.consts.category with
          | .immediate => moveGroup c .off none { x with engines := vset x.engines c { x.eng c with
              active := { iq := 0, id := (x.eng c).idTarget, split := 0, vff := 0 } } }
          | .ramped => moveGroup c .stopping (some (s.periods (s.env c).guarded.stopMs)) { x with
              engines := vset x.engines c { x.eng c with
                rampStart := (x.eng c).active, rampTotal := s.periods (s.env c).guarded.stopMs }
              queues := x.onQueue c fun q => { q with entries := [] } }
        else x) { s with react := { s.react with latch := true } } →
    v = broadcast .safeState { w with
      queues := vmap allChans (fun c q => if s.present c then { q with entries := [] } else q) w.queues
      react := { w.react with inService := some ⟨.safeStop, .all, s.period, s.period⟩ }
      retained := { s.retained with severe := some ⟨.safeStop, .all, s.period⟩ } } →
    u.react.latch = true ∧
    (∀ c, s.served c = true →
      ((s.eng c).state.stoppable = true →
        (s.consts.category = .immediate → (u.eng c).state = .off ∧ (u.eng c).timer = none ∧
          (u.eng c).active = ⟨0, (s.eng c).idTarget, 0, 0⟩) ∧
        (s.consts.category = .ramped → (u.eng c).state = .stopping ∧ (u.queue c).entries = [] ∧
          (u.eng c).rampStart = (s.eng c).active ∧ (u.eng c).rampTotal = s.periods (s.env c).guarded.stopMs ∧
          (u.eng c).timer = some (s.periods (s.env c).guarded.stopMs))) ∧
      ((s.eng c).state.stoppable = false → (u.eng c).state = (s.eng c).state ∧ (u.eng c).timer = (s.eng c).timer)) ∧
    (∀ i, s.react.inService = some i →
      (i.kind = .safeStop → h = .heldRepeat ∧ u = { w with react := { w.react with
        held := some (match s.react.held with
          | none => ⟨s.period, 1⟩
          | some x => { x with count := min 255 (x.count + 1) }) } }) ∧
      (i.kind ≠ .safeStop → h = .pended ∧ u = { w with react := { w.react with
        pendingSet := insertPending ⟨.safeStop, .all, s.period, 1, none⟩ s.react.pendingSet } })) ∧
    (s.react.inService = none → h = .taken ∧
      (s.react.held = none → (∀ x ∈ s.react.pendingSet, x.kind.ordinary = true) →
        (w.noneStopping = false → u = v) ∧
        (w.noneStopping = true → u = takeReactions (broadcast .safeState { v with react := { v.react with
          inService := none, lastEnded := some ⟨.safeStop, .all, .completed, s.period⟩ } })))) ∧
    s.sameFrame u

/-! ### The clock -/

/-- A period start in OPERATING: P takes its next value, from 0 at the first one; what only masters and pins write
stays; in CONFIG, where the Period Timer is stopped, nothing happens (01, R1). What it is made of: the expiries that
the period start before left and no command took; every running count loses a period (01, R2); each present engine
sends its period mark (04, R72); the works in `order` and then every other one not in `later`, then those in `later`,
each followed by the forming of frames; at its end no reaction waits for a take (log 31). The two lists, and each work
as an action of its own, are the model's choice (logs 3, 4, 6). An engine's work: the misses of its group, its timer
and brakes, its queue, the substitutes of the channels missed (01, R7; 04, R74; the order between a pair's engines is
the model's choice, log 32), then the reactions that waited for the take (02, R43, log 31); left to `later` with its
count expiring, no miss and no entry due, it makes its first step alone (log 4). A work but the engines' and the
supply check is what its own command does; a handover's deadline ahead of the take first holds the reactions back (02,
R43, log 31). A period without a good sample is counted, to 2, and at 2 SAMPLE_LOST is detected; it is answered by a
substitute gate record: the last duties with the gates on, zero duties with them off, none before the first good
sample (04, R74). That a substitute and a cut record count as sent, so that they are what the last duties hold, is the
model's reading (log 26). -/
def Obligations.PeriodStartAdvancesTheCount : Prop :=
  (∀ (order later : List Work) (s : State), periodOrderOk order later = true →
    (s.phase = .config → exec (.periodStart order later) s = .next s) ∧
    (s.phase = .operating → (∃ t, exec (.periodStart order later) s = .next t ∧
      t.period = (if s.started then s.period + 1 else 0) ∧ t.started = true ∧
      t.phase = s.phase ∧ t.safetyPort = s.safetyPort ∧ t.resetting = s.resetting ∧ t.consts = s.consts ∧
      t.signals = s.signals ∧ t.pins = s.pins ∧ t.pending = s.pending ∧ t.retained.cause = s.retained.cause ∧
      ∀ q, (t.port q).inbound = (s.port q).inbound ∧ (t.port q).overrun = (s.port q).overrun ∧
        (t.port q).damaged = (s.port q).damaged ∧ (t.port q).subscribed = (s.port q).subscribed ∧
        (t.port q).pacingMs = (s.port q).pacingMs ∧ ((t.port q).link = .down ↔ (s.port q).link = .down)) ∧
      ∃ ws u v, u = overdueWorks allWorks s ∧ v = advance u ∧
        order <+: ws ∧ ws.Nodup ∧ (∀ w, w ∈ ws ↔ w ∉ later) ∧
        exec (.periodStart order later) s = .next (settle (allChans.foldl (fun x c => takeHeld c x)
          (leaveWorks (!s.started) later (runWorks (!s.started) ws
            { v with wire := ((allChans.filter fun c => s.present c).map fun c =>
                .bridge c (periodMark (v.period.setWidth 16))).reverse ++ v.wire })))))) ∧
  (∀ s v : State, v = advance s →
    v = { s with
      period := if s.started then s.period + 1 else 0, started := true, auth := v.auth, engines := v.engines
      envs := v.envs, link := { s.link with timer := s.link.timer.map (· - 1) }, inputs := v.inputs
      ports := v.ports } ∧
    (∀ c, v.eng c = { s.eng c with timer := (s.eng c).timer.map (· - 1) } ∧
      v.auRec c = { s.auRec c with
        lock := (s.auRec c).lock.map (· - 1)
        handover := (s.auRec c).handover.map fun h => { h with left := h.left - 1 } } ∧
      v.env c = { s.env c with proposal := (s.env c).proposal.map fun x => { x with left := x.left - 1 } }) ∧
    (∀ i, v.inp i = { s.inp i with debounce := (s.inp i).debounce.map (· - 1) }) ∧
    ∀ p, v.port p = { s.port p with
      silence := (s.port p).silence.map (· - 1), pacing := (s.port p).pacing.map (· - 1) }) ∧
  (∀ (first : Bool) (w : Work) (rest : List Work) (s : State), runWorks first [] s = s ∧ leaveWorks first [] s = s ∧
    runWorks first (w :: rest) s = runWorks first rest (settle (runWork first w s)) ∧
    leaveWorks first (w :: rest) s = leaveWorks first rest (settle (leaveWork first w s))) ∧
  (∀ (first : Bool) (c : Chan) (s u v : State), s.served c = true →
    u = (s.group c).foldl (fun x d => missStep first d x) s →
    v = ((s.group c).filter fun d => !first && !(s.eng d).sampleTaken).foldl (fun x d => substitute d x)
      (queueStep c (timerStep c u)) →
    runWork first (.engine c) s = takeHeld c v ∧
    leaveWork first (.engine c) s = takeHeld c
      (if (s.eng c).timer = some 0 ∧ (∀ d ∈ s.group c, first = true ∨ (s.eng d).sampleTaken = true) ∧
        (∀ x, (s.queue c).entries.head? = some x → x.stamp ≠ s.period) then u else v)) ∧
  (∀ (c : Chan) (s : State), (vget s.react.untilTake c = false → takeHeld c s = s) ∧
    (vget s.react.untilTake c = true → takeHeld c s =
      takeReactions { s with react := { s.react with untilTake := vset s.react.untilTake c false } })) ∧
  (∀ (first : Bool) (s : State) (c : Chan) (p : Port) (i : Input),
    exec (.lockExpiry c) s = .next (settle (runWork first (.lock c) s)) ∧
    exec (.proposalExpiry c) s = .next (settle (runWork first (.proposal c) s)) ∧
    exec (.silenceTimerExpiry p) s = .next (settle (runWork first (.silence p) s)) ∧
    exec (.pacingTimerExpiry p) s = .next (settle (runWork first (.pacing p) s)) ∧
    exec (.debounceCountExpiry i) s = .next (settle (runWork first (.debounce i) s)) ∧
    (s.link.state = .charging → exec .chargeTimerExpiry s = .next (settle (runWork first .linkTimer s))) ∧
    (s.link.state = .settling → exec .settleTimerExpiry s = .next (settle (runWork first .linkTimer s))) ∧
    (s.link.state = .waking → exec .wakeTimerExpiry s = .next (settle (runWork first .linkTimer s))) ∧
    ((s.eng c).state.running = false ∨ (∀ h, (s.auRec c).handover = some h → h.left ≠ 0) ∨
      (∀ x, (s.queue c).entries.head? = some x → x.stamp ≠ s.period) →
      exec (.handoverDeadline c) s = .next (settle (runWork first (.handover c) s))) ∧
    ∀ h x, (s.eng c).state.running = true → (s.auRec c).handover = some h → h.left = 0 →
      (s.queue c).entries.head? = some x → x.stamp = s.period →
      exec (.handoverDeadline c) { s with react := { s.react with untilTake := vset s.react.untilTake c true } } =
        .next (settle (runWork first (.handover c) s))) ∧
  (∀ (first : Bool) (c : Chan) (s u : State),
    u = { s with engines := vset s.engines c { s.eng c with
      sampleTaken := false, miss := min 2 ((s.eng c).miss + 1) } } →
    (first = true ∨ (s.eng c).sampleTaken = true → missStep first c s =
      { s with engines := vset s.engines c { s.eng c with sampleTaken := false } }) ∧
    (first = false → (s.eng c).sampleTaken = false → missStep first c s =
      if 1 ≤ (s.eng c).miss then detectTrip .sampleLost c 2 u else u)) ∧
  ∀ (c : Chan) (s : State),
    ((s.eng c).sampleEver = false → substitute c s = s) ∧
    ((s.eng c).sampleEver = true →
      ((s.eng c).gateEnable = true → substitute c s = { s with
        wire := .bridge c (gateRecord (s.period.setWidth 16) (s.eng c).lastDuties true
          (decide (s.link.state = .parked))) :: s.wire }) ∧
      ((s.eng c).gateEnable = false → substitute c s = { s with
        engines := vset s.engines c { s.eng c with lastDuties := ⟨0, 0, 0⟩ }
        wire := .bridge c (gateRecord (s.period.setWidth 16) ⟨0, 0, 0⟩ false
          (decide (s.link.state = .parked))) :: s.wire }))

/-- In RELEASING or RUN the head stamped P is taken: it becomes the active demand, the gap count and the starve
indication are reset, the last applied stamp is P, the id target follows, QUEUE_LOW is handed at the crossing of the
low-water mark, and an open handover is removed (03, R51, R65, R66, R69; 02, R43). In RELEASING or RUN with no
handover open and no entry stamped P the gap count increases, and STARVED is reported, with the record's epoch, at the
starve limit if its indication is clear; with a handover open nothing is counted (03, R65, R66, R68). The indication
is set before the reaction acts (log 11). In OFF the head stamped P is removed and counted as expired; in HOLDING,
RAMPING, STOPPING and TRIPPED the period start does nothing to the queue (03, R67). -/
def Obligations.PeriodStartExaminesTheQueue : Prop :=
  (∀ (l : Chan) (x : Entry) (rest : List Entry) (s u : State), (s.eng l).state.running = true →
    (s.queue l).entries = x :: rest → x.stamp = s.period →
    u = { s with
      queues := s.onQueue l fun q =>
        { q with entries := rest, gap := 0, starved := false, lastApplied := some s.period }
      engines := vset s.engines l { s.eng l with
        active := ⟨x.iq, x.id.getD (s.eng l).idTarget, x.split.getD 0, x.vff.getD 0⟩
        idTarget := x.id.getD (s.eng l).idTarget } } →
    ∃ v, (v = match (s.auRec l).holder with
        | some h => if (s.env l).opens.lowWater < rest.length + 1 ∧ rest.length ≤ (s.env l).opens.lowWater then
            handTo h .queueLow u else u
        | none => u) ∧
      queueStep l s = if (s.auRec l).handover = none then v else
        takeReactions { v with auth := vset v.auth l { v.auRec l with handover := none } }) ∧
  (∀ (l : Chan) (s : State), (s.eng l).state.running = true →
    (∀ x, (s.queue l).entries.head? = some x → x.stamp ≠ s.period) →
    ((s.auRec l).handover ≠ none → queueStep l s = s) ∧
    ((s.auRec l).handover = none → ∀ n, n = min 65535 ((s.queue l).gap + 1) →
      ((s.queue l).starved = true ∨ n < (s.env l).opens.starve →
        queueStep l s = { s with queues := s.onQueue l fun q => { q with gap := n } }) ∧
      ((s.queue l).starved = false → (s.env l).opens.starve ≤ n →
        queueStep l s = reportOrdinary .starved (.channel l) (some (s.auRec l).epoch)
          { s with queues := s.onQueue l fun q => { q with gap := n, starved := true } }))) ∧
  ∀ (l : Chan) (s : State),
    ((s.eng l).state = .off →
      (∀ x rest, (s.queue l).entries = x :: rest → x.stamp = s.period → queueStep l s =
        { s with queues := s.onQueue l fun q => { q with entries := rest, expired := min 65535 (q.expired + 1) } }) ∧
      ((∀ x, (s.queue l).entries.head? = some x → x.stamp ≠ s.period) → queueStep l s = s)) ∧
    ((s.eng l).state = .holding ∨ (s.eng l).state = .ramping ∨ (s.eng l).state = .stopping ∨
      (s.eng l).state = .tripped → queueStep l s = s)

/-- The ramp and stop value: each field of the start times the periods left over the count, rounded toward zero; all
of it at the start, none of it at the end, and never beyond the start (01, R12, R13). At a period start within the
ramp or the stop the channel stays and applies it; at the last one the channel goes to OFF, where the active demand is
the zero demand with the id target kept (that its id is the id target is the model's reading, log 7), and the
departure from STOPPING is reported (01, R8, R12, R13; 07, R141). RAMP_COUNT_EXPIRY and STOP_COUNT_EXPIRY do so where
the period start left it to them (log 4). -/
def Obligations.RampsFallToZeroAndEndInOff : Prop :=
  (∀ (start : Int) (left total : Nat), 0 < total → left ≤ total →
    rampField start total total = start ∧ rampField start 0 total = 0 ∧
    (rampField start left total).natAbs = start.natAbs * left / total ∧
    (rampField start left total).natAbs ≤ start.natAbs ∧
    (0 ≤ start → 0 ≤ rampField start left total) ∧ (start ≤ 0 → rampField start left total ≤ 0)) ∧
  (∀ (c : Chan) (left : Nat) (d : Demand) (s : State), (s.eng c).state = .ramping ∨ (s.eng c).state = .stopping →
    (s.eng c).timer = some left → left ≠ 0 → d = (s.eng c).rampStart →
    timerStep c s = { s with engines := vset s.engines c { s.eng c with active :=
      ⟨rampField d.iq left (s.eng c).rampTotal, rampField d.id left (s.eng c).rampTotal,
        rampField d.split left (s.eng c).rampTotal, rampField d.vff left (s.eng c).rampTotal⟩ } }) ∧
  ∀ (c : Chan) (s u v : State), (s.eng c).timer = some 0 →
    u = moveGroup c .off none { s with engines := vset s.engines c { s.eng c with
      active := { iq := 0, id := (s.eng c).idTarget, split := 0, vff := 0 } } } →
    v = (if u.react.inService.map (·.kind) = some .safeStop ∧ u.noneStopping = true then
      takeReactions (endSafeStop .completed u) else u) →
    ((s.eng c).state = .ramping → timerStep c s = u ∧
      (s.served c = true → (s.queue c).entries = [] → exec (.rampCountExpiry c) s = .next (settle u))) ∧
    ((s.eng c).state = .stopping → timerStep c s = v ∧
      (s.served c = true → (s.queue c).entries = [] → exec (.stopCountExpiry c) s = .next (settle v)))

/-- BRAKE_TIMER_EXPIRY in RELEASING: with every brake of the group released or unbound the channel goes to RUN, with
an engaged one BRAKE_FAULT is reported for it and the channel goes to HOLDING; then the queue is examined (01, R7, R9,
R11). BRAKE_TIMER_EXPIRY in HOLDING: with every brake of the group engaged or unbound the channel goes to RAMPING from
its held demand; with a released one BRAKE_FAULT is reported for it, once in the stay, and the channel stays (01, R11,
R12). That the command makes the second and third steps of the period start, the queue's examination with them, is the
model's choice (log 4). At a period start before the timer expires the channel goes to RUN when every brake of the
group is bound and released, and to RAMPING when every one is bound and engaged; else it stays, as it does in HOLDING
once BRAKE_FAULT has been reported (01, R9, R11). -/
def Obligations.BrakeTimerExpiryEndsReleasingAndHolding : Prop :=
  (∀ (c : Chan) (s : State), s.served c = true → (s.eng c).state = .releasing → (s.eng c).timer = some 0 →
    ((∀ d ∈ s.group c, s.feedback d ≠ .engaged) → exec (.brakeTimerExpiry c) s =
      .next (settle (queueStep c (takeReactions (moveGroup c .run none s))))) ∧
    ((∃ d ∈ s.group c, s.feedback d = .engaged) → ∃ u, u = reportBrakes .engaged (s.group c) s ∧
      exec (.brakeTimerExpiry c) s = .next (settle (takeReactions (moveGroup c .holding
        (some (s.periods (s.env c).guarded.brakeMs))
        { u with queues := u.onQueue c fun q => { q with entries := [] } }))))) ∧
  (∀ (c : Chan) (s : State), s.served c = true → (s.eng c).state = .holding → (s.eng c).timer = some 0 →
    (s.eng c).holdFault = false →
    ((∀ d ∈ s.group c, s.feedback d ≠ .released) → exec (.brakeTimerExpiry c) s =
      .next (settle (moveGroup c .ramping (some (s.periods (s.env c).opens.rampMs))
        { s with engines := vset s.engines c { s.eng c with
                   rampStart := (s.eng c).active, rampTotal := s.periods (s.env c).opens.rampMs } }))) ∧
    ((∃ d ∈ s.group c, s.feedback d = .released) → exec (.brakeTimerExpiry c) s =
      .next (settle (reportBrakes .released (s.group c)
        { s with engines := vset s.engines c { s.eng c with timer := none, holdFault := true } })))) ∧
  ∀ (c : Chan) (s : State),
    (s.served c = true → (s.eng c).timer = some 0 → (s.eng c).state = .releasing ∨ (s.eng c).state = .holding →
      exec (.brakeTimerExpiry c) s = .next (settle (queueStep c (timerStep c s)))) ∧
    ((s.eng c).state = .releasing →
      ((∀ d ∈ s.group c, s.feedback d = .released) →
        timerStep c s = takeReactions (moveGroup c .run none s)) ∧
      ((s.eng c).timer ≠ some 0 → (∃ d ∈ s.group c, s.feedback d ≠ .released) → timerStep c s = s)) ∧
    ((s.eng c).state = .holding →
      ((s.eng c).holdFault = true → timerStep c s = s) ∧
      ((s.eng c).holdFault = false →
        ((∀ d ∈ s.group c, s.feedback d = .engaged) →
          timerStep c s = moveGroup c .ramping (some (s.periods (s.env c).opens.rampMs))
            { s with engines := vset s.engines c { s.eng c with
                       rampStart := (s.eng c).active, rampTotal := s.periods (s.env c).opens.rampMs } }) ∧
        ((s.eng c).timer ≠ some 0 → (∃ d ∈ s.group c, s.feedback d ≠ .engaged) → timerStep c s = s)))

/-- LOCK_EXPIRY: the lock is dropped, LOCK_EXPIRED is handed to its holder, and a head of the waiting list that
outranks the holder becomes holder, with AUTHORITY to both (02, R36, R37, R42). HANDOVER_DEADLINE: the handover is
removed and STARVED reported with the record's epoch; PROPOSAL_EXPIRY: the proposal ends EXPIRED, with notices to the
proposer and to the safety port (02, R44; 06, R125, R129). The link timers: the charge timer's expiry in CHARGING is
the link fault CHARGE_FAIL, the settle timer's in SETTLING leads to READY, the wake timer's in WAKING is the link
fault WAKE_FAIL (05, R97, R98, R101). -/
def Obligations.LocksDeadlinesAndLinkTimersExpire : Prop :=
  (∀ (c : Chan) (old : Port) (k : Nat) (s u : State), (s.auRec c).lock = some 0 → (s.auRec c).holder = some old →
    (s.auRec c).holderRank = some k →
    u = handTo old .lockExpired { s with auth := vset s.auth c { s.auRec c with lock := none } } →
    ((∀ x, (s.auRec c).waiting.head? = some x → x.rank ≤ k) →
      exec (.lockExpiry c) s = .next (settle (takeReactions u))) ∧
    (∀ x rest, (s.auRec c).waiting = x :: rest → k < x.rank →
      exec (.lockExpiry c) s = .next (settle (takeReactions (handTo x.port .authority (handTo old .authority
        (changeHolder c (some x.port) { u with auth := vset u.auth c { u.auRec c with waiting := rest } }))))))) ∧
  ((∀ (c : Chan) (h : Handover) (s : State), (s.auRec c).handover = some h → h.left = 0 →
    exec (.handoverDeadline c) s = .next (settle (reportOrdinary .starved (.channel c) (some (s.auRec c).epoch)
      { s with auth := vset s.auth c { s.auRec c with handover := none } }))) ∧
  ∀ (c : Chan) (x : Proposal) (s : State), (s.env c).proposal = some x → x.left = 0 →
    exec (.proposalExpiry c) s = .next (settle (handTo s.safetyPort .proposal (handTo x.proposer .proposalResult
      { s with envs := vset s.envs c { s.env c with
                 proposal := none, last := some ⟨x.proposer, x.number, .expired, s.period⟩ } })))) ∧
  ∀ s : State, s.link.timer = some 0 →
    (s.link.state = .charging → exec .chargeTimerExpiry s = .next (settle (linkFault .chargeFail s))) ∧
    (s.link.state = .settling → exec .settleTimerExpiry s = .next (settle (changeLink .ready s))) ∧
    (s.link.state = .waking → exec .wakeTimerExpiry s = .next (settle (linkFault .wakeFail s)))

/-- SILENCE_TIMER_EXPIRY in UP: the port is SILENT and PORT_SILENT is reported; PACING_TIMER_EXPIRY: the timer is
absent, and a summary with kinds makes a frame at once if the notice slot is empty (09, R167; 10, R178). The period
number 0 in a frame formed before the first period start is the model's choice (log 37). -/
def Obligations.PortTimersExpire : Prop :=
  ∀ (p : Port) (s : State),
    ((s.port p).link = .up → (s.port p).silence = some 0 → exec (.silenceTimerExpiry p) s =
      .next (settle (reportOrdinary .portSilent (.port p) none
        { s with ports := vset s.ports p { s.port p with link := .silent, silence := none } }))) ∧
    ((s.port p).pacing = some 0 → ∃ t,
      exec (.pacingTimerExpiry p) s = .next t ∧
      t = settle { s with ports := vset s.ports p { s.port p with pacing := none } } ∧
      ((s.port p).summary ≠ 0 → (s.port p).notice = none → (t.port p).summary = 0 ∧
        ((t.port p).notice = some ⟨noticeFrame (s.port p).summary s.period, false⟩ ∨
          (t.port p).sending = some ⟨noticeFrame (s.port p).summary s.period, false⟩) ∧
        (t.port p).pacing =
          (if s.periods (s.port p).pacingMs = 0 then none else some (s.periods (s.port p).pacingMs))))

/-! ### Records, frames and pins -/

/-- The frames a port takes as valid are exactly the REQUEST frames with a code of one byte and at most 117 bytes of
fields: the reading of a frame gives back what was written into it (12, R188, R190). The sample and supply records
that pass the frame checks are exactly those the modules write, with each field in its range (12, R188, R193). -/
def Obligations.ValidFramesAndRecordsReadBack : Prop :=
  (∀ (bs : List Byte) (f : Frame),
    parseFrame bs = some f ↔ bs = requestFrame f ∧ f.code < 256 ∧ f.fields.length ≤ 117) ∧
  (∀ (bs : List Byte) (d : SampleData), parseSample bs = some d ↔
    bs = sampleBytes d ∧ -32768 ≤ d.ia ∧ d.ia ≤ 32767 ∧ -32768 ≤ d.ib ∧ d.ib ≤ 32767 ∧ d.angle < 65536) ∧
  ∀ (bs : List Byte) (d : SupplyData), parseSupply bs = some d ↔
    bs = supplyBytes d ∧ d.voltage < 65536 ∧ d.available ≤ 32767

/-- A sample record that is not good (its frame fails, the part is in CONFIG, no period has started, the channel is
absent, its stamp is not P's, or a good sample was taken for P) changes nothing (04, R73). Every good sample is kept:
flags, measured currents, the accumulator and its indication, the miss count at 0; a change of the module's readiness
is told to the Link Supervisor, where the report that completes the wake condition in WAKING moves the link to READY
(04, R73, R74, R79 to R81; 05, R101, R111). A derate mark that the sample found is cleared exactly below half the
threshold (04, R81, R89). A good sample of a channel whose gates are off, with no trip (its largest
current and its flags allow none, or it is tripped already), no change of readiness and no thermal report: besides
what is kept, the derate mark is cleared below half the threshold, with THERMAL, and a gate record with enable off and
zero duties is sent (04, R74, R76 to R81, R87). -/
def Obligations.SamplesOfAnIdleChannel : Prop :=
  (∀ (c : Chan) (bs : List Byte) (s : State),
    (∀ d, parseSample bs = some d → s.phase = .config ∨ s.started = false ∨ s.present c = false ∨
      d.stamp ≠ s.period.setWidth 16 ∨ (s.eng c).sampleTaken = true) →
    exec (.sampleRecord c bs) s = .next (settle s)) ∧
  (∀ (c : Chan) (d : SampleData) (bs : List Byte) (idm iqm : Int) (heat : Nat) (g : Guarded) (ready : Vector Bool 8)
    (s : State), parseSample bs = some d → s.goodSample c d = true → g = (s.env (s.lead c)).guarded →
    measured d.ia d.ib d.angle = (idm, iqm) →
    heatNext (s.eng c).heat idm iqm g.continuous (Config.periodHalfMicros s.consts.periodCode) = heat →
    ready = (if d.ready = (s.eng c).moduleReady then s.link.ready else vset s.link.ready c d.ready) →
    ∃ t, exec (.sampleRecord c bs) s = .next t ∧
      ((t.eng c).sampleTaken = true ∧ (t.eng c).sampleEver = true ∧ (t.eng c).miss = 0 ∧
        (t.eng c).desat = d.desat ∧ (t.eng c).overtemp = d.overtemp ∧ (t.eng c).moduleReady = d.ready ∧
        (t.eng c).idMeas = idm ∧ (t.eng c).iqMeas = iqm ∧ (t.eng c).heat = heat ∧
        (t.eng c).thermalInd = (((s.eng c).thermalInd || heatAbove heat g.continuous g.tau) &&
          !heatBelowHalf heat g.continuous g.tau) ∧
        ((s.eng c).derate = true → (t.eng c).derate = !heatBelowHalf heat g.continuous g.tau)) ∧
      (d.ready ≠ (s.eng c).moduleReady → s.link.state = .waking →
        (∀ e, s.present e = true → vget ready e = true) →
        t.link = { s.link with state := .ready, timer := none, ready := ready } ∧
        ∀ b, s.link.supply = some b → t.allot.budget = min s.consts.linkRating b.available) ∧
      (d.ready = (s.eng c).moduleReady ∨ s.link.state ≠ .waking ∨
        (∃ e, s.present e = true ∧ vget ready e = false) → t.link = { s.link with ready := ready })) ∧
  ∀ (c : Chan) (d : SampleData) (bs : List Byte) (idm iqm : Int) (heat : Nat) (g : Guarded) (below : Bool)
    (s u : State),
    parseSample bs = some d → s.goodSample c d = true → (s.eng c).gateEnable = false →
    (largestPhase d.ia d.ib ≤ tripLevel (vget s.consts.ceiling c) ∧ d.desat = false ∧ d.overtemp = false) ∨
      s.chState c = .tripped →
    d.ready = (s.eng c).moduleReady → g = (s.env (s.lead c)).guarded →
    measured d.ia d.ib d.angle = (idm, iqm) →
    heatNext (s.eng c).heat idm iqm g.continuous (Config.periodHalfMicros s.consts.periodCode) = heat →
    (heatAbove heat g.continuous g.tau = false ∨ (s.eng c).thermalInd = true) →
    below = heatBelowHalf heat g.continuous g.tau →
    u = { s with
        engines := vset s.engines c { s.eng c with
          sampleTaken := true, sampleEver := true, miss := 0, desat := d.desat, overtemp := d.overtemp
          idMeas := idm, iqMeas := iqm, heat := heat, thermalInd := (s.eng c).thermalInd && !below
          derate := (s.eng c).derate && !below, lastDuties := Duties.zero }
        wire := .bridge c (gateRecord (s.period.setWidth 16 + 1) Duties.zero false (decide (s.link.state = .parked))) ::
          s.wire } →
    exec (.sampleRecord c bs) s =
      .next (settle (if (s.eng c).derate = true ∧ below = true then broadcast .thermal u else u))

/-- Every good sample, in the steps of Table 4-3: it is kept, the readiness reported, the trips detected, the
accumulator updated with its THERMAL report; below half the threshold the indication is cleared, and with it, with
THERMAL, the derate mark that the sample found, but no mark that a reaction has set since; then steps 5 to 9, under the
mark found less that clearing (04, R73, R76 to R81, R89). A good sample of a driving channel, with no trip, no change
of readiness and no thermal report: the loop runs; its flags, integrators and draw are kept, its request is made and
the grants are recomputed, and its duties are sent in a gate record for the next period with enable on (04, R76, R82 to
R88; 05, R112, R113). Steps 5 to 9 of any good sample: with the gates on the loop runs, with the gates off a gate record
with zero duties is sent (04, R76, R87). A sample that brings the accumulator to the threshold with the indication clear
reports THERMAL and runs under the derate mark it found (04, R80, R89); with nothing in service or pending the reaction
sets the mark at once unless the kind is masked or a handover holds it back, and then the report pends (04, R80; 07,
R137, R145, R149, R150). -/
def Obligations.GoodSampleRunsTheLoop : Prop :=
  (∀ (c : Chan) (d : SampleData) (bs : List Byte) (idm iqm : Int) (heat : Nat) (g : Guarded) (below : Bool)
    (s u v w x y : State),
    parseSample bs = some d → s.goodSample c d = true → g = (s.env (s.lead c)).guarded →
    measured d.ia d.ib d.angle = (idm, iqm) →
    heatNext (s.eng c).heat idm iqm g.continuous (Config.periodHalfMicros s.consts.periodCode) = heat →
    below = heatBelowHalf heat g.continuous g.tau →
    u = { s with engines := vset s.engines c { s.eng c with
      sampleTaken := true, sampleEver := true, miss := 0, desat := d.desat, overtemp := d.overtemp
      moduleReady := d.ready, idMeas := idm, iqMeas := iqm } } →
    v = (if d.ready = (s.eng c).moduleReady then u else reportReady c d.ready u) →
    w = (if tripLevel (vget s.consts.ceiling c) < largestPhase d.ia d.ib then
      detectTrip .overcurrent c (largestPhase d.ia d.ib) v else v) →
    x = (if d.desat = true ∨ d.overtemp = true then
      detectTrip .bridgeFault c ((if d.desat then 1 else 0) + (if d.overtemp then 2 else 0)) w else w) →
    y = (if heatAbove heat g.continuous g.tau = true ∧ (s.eng c).thermalInd = false then
        reportOrdinary .thermal (.channel c) none
          { x with engines := vset x.engines c { x.eng c with heat := heat, thermalInd := true } }
      else { x with engines := vset x.engines c { x.eng c with heat := heat } }) →
    exec (.sampleRecord c bs) s = .next (settle (loopAndRecord c d.angle ((s.eng c).derate && !below)
      (if below = false then y
      else if (s.eng c).derate = true then broadcast .thermal
        { y with engines := vset y.engines c { y.eng c with thermalInd := false, derate := false } }
      else { y with engines := vset y.engines c { y.eng c with thermalInd := false } })))) ∧
  (∀ (c : Chan) (d : SampleData) (bs : List Byte) (idm iqm : Int) (heat : Nat) (g : Guarded) (below : Bool)
    (s u v : State) (r : LoopRun),
    parseSample bs = some d → s.goodSample c d = true → (s.eng c).gateEnable = true →
    largestPhase d.ia d.ib ≤ tripLevel (vget s.consts.ceiling c) → d.desat = false → d.overtemp = false →
    d.ready = (s.eng c).moduleReady → g = (s.env (s.lead c)).guarded →
    measured d.ia d.ib d.angle = (idm, iqm) →
    heatNext (s.eng c).heat idm iqm g.continuous (Config.periodHalfMicros s.consts.periodCode) = heat →
    (heatAbove heat g.continuous g.tau = false ∨ (s.eng c).thermalInd = true) →
    below = heatBelowHalf heat g.continuous g.tau →
    u = { s with engines := vset s.engines c { s.eng c with
      sampleTaken := true, sampleEver := true, miss := 0, desat := false, overtemp := false
      idMeas := idm, iqMeas := iqm, heat := heat, thermalInd := (s.eng c).thermalInd && !below
      derate := (s.eng c).derate && !below } } →
    loopRun c d.angle ((s.eng c).derate && !below) u = r →
    v = { s with
        engines := vset s.engines c { u.eng c with
          peakLimited := r.peakLimited, grantLimited := r.grantLimited, voltLimited := r.voltLimited
          integD := r.integD, integQ := r.integQ, lastDraw := r.draw, lastDuties := r.duties }
        allot := { s.allot with
          request := vset s.allot.request c r.request
          grant := grantsOf s.consts s.allot.budget (vset s.allot.request c r.request) }
        wire := .bridge c (gateRecord (s.period.setWidth 16 + 1) r.duties true (decide (s.link.state = .parked))) ::
          s.wire } →
    exec (.sampleRecord c bs) s =
      .next (settle (if (s.eng c).derate = true ∧ below = true then broadcast .thermal v else v))) ∧
  (∀ (c : Chan) (angle : Nat) (derate : Bool) (s : State) (r : LoopRun), loopRun c angle derate s = r →
    ((s.eng c).gateEnable = true → loopAndRecord c angle derate s = { s with
        engines := vset s.engines c { s.eng c with
          peakLimited := r.peakLimited, grantLimited := r.grantLimited, voltLimited := r.voltLimited
          integD := r.integD, integQ := r.integQ, lastDraw := r.draw, lastDuties := r.duties }
        allot := { s.allot with
          request := vset s.allot.request c r.request
          grant := grantsOf s.consts s.allot.budget (vset s.allot.request c r.request) }
        wire := .bridge c (gateRecord (s.period.setWidth 16 + 1) r.duties true (decide (s.link.state = .parked))) ::
          s.wire }) ∧
    ((s.eng c).gateEnable = false → loopAndRecord c angle derate s = { s with
        engines := vset s.engines c { s.eng c with lastDuties := Duties.zero }
        wire := .bridge c (gateRecord (s.period.setWidth 16 + 1) Duties.zero false (decide (s.link.state = .parked))) ::
          s.wire })) ∧
  ∀ (c : Chan) (d : SampleData) (bs : List Byte) (idm iqm : Int) (heat : Nat) (g : Guarded) (x : PendingEntry)
    (s u v : State),
    parseSample bs = some d → s.goodSample c d = true →
    largestPhase d.ia d.ib ≤ tripLevel (vget s.consts.ceiling c) → d.desat = false → d.overtemp = false →
    d.ready = (s.eng c).moduleReady → g = (s.env (s.lead c)).guarded →
    measured d.ia d.ib d.angle = (idm, iqm) →
    heatNext (s.eng c).heat idm iqm g.continuous (Config.periodHalfMicros s.consts.periodCode) = heat →
    heatAbove heat g.continuous g.tau = true → (s.eng c).thermalInd = false →
    u = { s with engines := vset s.engines c { s.eng c with
      sampleTaken := true, sampleEver := true, miss := 0, desat := false, overtemp := false
      idMeas := idm, iqMeas := iqm, heat := heat, thermalInd := true } } →
    v = reportOrdinary .thermal (.channel c) none u → x = ⟨.thermal, .channel c, s.period, 1, none⟩ →
    exec (.sampleRecord c bs) s = .next (settle (loopAndRecord c d.angle (s.eng c).derate v)) ∧
    (s.react.inService = none → s.react.pendingSet = [] →
      (s.react.mask.thermal = false → s.handoverHolds (s.lead c) = false →
        v = broadcast .thermal { u with engines := vset u.engines c { u.eng c with derate := true } }) ∧
      (s.react.mask.thermal = true ∨ s.handoverHolds (s.lead c) = true →
        v = { u with react := { s.react with pendingSet := [x] } }))

/-- The loop's formulas: the targets of the demand, clamped to the effective peak, flux first (04, R82, R83); the
torque target scaled by the grant (04, R84); the axis voltages, their limit, and the integrators, which stand still
under the limit (04, R85); the draw and the request (04, R88); at the zero vector each duty is 32768 (04, R86). Its
quantities keep within their limits: the targets within the effective peak as a vector, the granted torque target
within the ungranted one, the duties, the request, the draw, the integrators, the accumulator and the measured
currents in their ranges (04, R79, R80, R83 to R86, R88). Voltages are whole numbers of 1/655360000 V, T is in half
microseconds. -/
def Obligations.LoopQuantitiesStayInRange : Prop :=
  (∀ (peak : Nat) (idD iqD : Int) (t : PeakTargets), t = peakTargets peak idD iqD →
    t.idT.natAbs * t.idT.natAbs + t.iqU.natAbs * t.iqU.natAbs ≤ peak * peak ∧
    (t.limited = false → t.idT = idD ∧ t.iqU = iqD) ∧
    t.idT = max (-(peak : Int)) (min peak idD) ∧
    (∃ room : Nat, t.idT.natAbs * t.idT.natAbs + room * room ≤ peak * peak ∧
      peak * peak < t.idT.natAbs * t.idT.natAbs + (room + 1) * (room + 1) ∧
      t.iqU = max (-(room : Int)) (min room iqD)) ∧
    (t.limited = true ↔ t.idT ≠ idD ∨ t.iqU ≠ iqD)) ∧
  (∀ (iqU lastDraw : Int) (grant : Nat), (grantTarget iqU grant lastDraw).1.natAbs ≤ iqU.natAbs ∧
    ((grantTarget iqU grant lastDraw).2 = false → (grantTarget iqU grant lastDraw).1 = iqU) ∧
    (0 < lastDraw → (grant : Int) < lastDraw →
      grantTarget iqU grant lastDraw = ((iqU * grant).tdiv lastDraw, true)) ∧
    (lastDraw ≤ 0 ∨ lastDraw ≤ grant → grantTarget iqU grant lastDraw = (iqU, false))) ∧
  (∀ (vlink : Nat) (vd vq : Int) (angle : Nat), (dutiesOf vlink vd vq angle).a ≤ 65535 ∧
    (dutiesOf vlink vd vq angle).b ≤ 65535 ∧ (dutiesOf vlink vd vq angle).c ≤ 65535 ∧
    (0 < vlink → dutiesOf vlink 0 0 angle = ⟨32768, 32768, 32768⟩)) ∧
  (∀ (draw lastDraw iqU iqT : Int) (l : Bool), requestOf draw lastDraw iqU iqT l ≤ 32767 ∧
    (l = false ∨ iqU = 0 → (requestOf draw lastDraw iqU iqT l : Int) = min 32767 (max 0 draw)) ∧
    (l = true → iqU ≠ 0 → iqT ≠ 0 → (requestOf draw lastDraw iqU iqT l : Int) =
      min 32767 ((max 0 draw * iqU.natAbs).tdiv iqT.natAbs)) ∧
    (l = true → iqU ≠ 0 → iqT = 0 → (requestOf draw lastDraw iqU iqT l : Int) = max 0 (min 32767 lastDraw))) ∧
  (∀ (vlink : Nat) (vd vq idm iqm : Int), (drawOf vlink vd vq idm iqm).natAbs ≤ 32767 ∧
    (voltOver vlink vd vq = true ↔
      (577 * vlink * 65536) * (577 * vlink * 65536) < vd.natAbs * vd.natAbs + vq.natAbs * vq.natAbs) ∧
    (voltOver vlink vd vq = false → drawOf vlink vd vq idm iqm =
      max (-32767) (min 32767 ((15 * (vd * idm + vq * iqm)).tdiv (655360000 * vlink))))) ∧
  (∀ (integ error : Int) (ki t : Nat), (integNext integ ki error t).natAbs ≤ 429490176 ∧
    integNext integ ki error t = max (-429490176) (min 429490176
      ((integ * 200000000 + ki * error * t * 65536).tdiv 200000000))) ∧
  (∀ (heat ic t : Nat) (idm iqm : Int), heatNext heat idm iqm ic t ≤ 4294967295 * 65536 ∧
    (heatNext heat idm iqm ic t : Int) = max 0 (min (4294967295 * 65536)
      ((heat * 20000000000 + (idm * idm + iqm * iqm - ic * ic) * t * 65536).tdiv 20000000000))) ∧
  (∀ (ia ib : Int) (angle : Nat), (measured ia ib angle).1.natAbs ≤ 32767 ∧
    (measured ia ib angle).2.natAbs ≤ 32767) ∧
  (∀ (s : State) (c : Chan) (d : Demand),
    (s.consts.isFollower c = true → s.torqueDemand c d = (2 * d.iq - d.split).tdiv 2) ∧
    (s.consts.isFollower c = false → s.consts.isLeader c = true → s.torqueDemand c d = (2 * d.iq + d.split).tdiv 2) ∧
    (s.consts.isFollower c = false → s.consts.isLeader c = false → s.torqueDemand c d = d.iq)) ∧
  ∀ (c : Chan) (angle : Nat) (derate : Bool) (s : State) (g : Guarded) (o : OpenValues) (e : Engine) (d : Demand)
    (t : PeakTargets) (iqT vd vq : Int) (limited : Bool) (T vlink : Nat),
    g = (s.env (s.lead c)).guarded → o = (s.env (s.lead c)).opens → e = s.eng c →
    d = (s.eng (s.lead c)).active → T = Config.periodHalfMicros s.consts.periodCode →
    vlink = (match s.link.supply with | some x => x.voltage | none => 0) →
    t = peakTargets (if derate then g.continuous else g.peak) d.id (s.torqueDemand c d) →
    (iqT, limited) = grantTarget t.iqU (vget s.allot.grant c) e.lastDraw →
    vd = o.kpD * (t.idT - e.idMeas) * 65536 + e.integD * 10000 →
    vq = o.kpQ * (iqT - e.iqMeas) * 65536 + e.integQ * 10000 + d.vff * 65536000 →
    loopRun c angle derate s =
      { peakLimited := t.limited, grantLimited := limited, voltLimited := voltOver vlink vd vq
        integD := if voltOver vlink vd vq then e.integD else integNext e.integD o.kiD (t.idT - e.idMeas) T
        integQ := if voltOver vlink vd vq then e.integQ else integNext e.integQ o.kiQ (iqT - e.iqMeas) T
        duties := dutiesOf vlink vd vq angle
        draw := drawOf vlink vd vq e.idMeas e.iqMeas
        request := requestOf (drawOf vlink vd vq e.idMeas e.iqMeas) e.lastDraw t.iqU iqT limited }

/-- A good sample whose largest phase current exceeds the trip level trips the channel's group with OVERCURRENT and that
current; one within it whose module reports desat or overtemp trips it with BRIDGE_FAULT and 1, 2 or 3 (04, R77, R78;
01, R14). A trip kind detected on a group outside TRIPPED: TRIPPED with its timer abandoned, its queue flushed, its
gates cut, its trip records filled, FAULT handed; in TRIPPED nothing (01, R14; 07, R135). With nothing pending, and
the channel not in STOPPING, the trip is the last severe fault (07, R135, R153). -/
def Obligations.OvercurrentTripsTheGroup : Prop :=
  (∀ (c : Chan) (d : SampleData) (bs : List Byte) (k : FaultKind) (detail : Nat) (s : State),
    parseSample bs = some d → s.goodSample c d = true → s.chState c ≠ .tripped →
    (tripLevel (vget s.consts.ceiling c) < largestPhase d.ia d.ib ∧ k = .overcurrent ∧
      detail = largestPhase d.ia d.ib) ∨
    (largestPhase d.ia d.ib ≤ tripLevel (vget s.consts.ceiling c) ∧ k = .bridgeFault ∧
      ((d.desat = true ∧ d.overtemp = false ∧ detail = 1) ∨ (d.desat = false ∧ d.overtemp = true ∧ detail = 2) ∨
        (d.desat = true ∧ d.overtemp = true ∧ detail = 3))) →
    ∃ t, exec (.sampleRecord c bs) s = .next t ∧ t.chState c = .tripped ∧ (t.eng (s.lead c)).timer = none ∧
      (t.queue (s.lead c)).entries = [] ∧
      (∀ e ∈ s.group (s.lead c), (t.eng e).gateEnable = false ∧ (t.eng e).trip = some ⟨k, s.period, detail⟩) ∧
      (s.react.pendingSet = [] → s.chState c ≠ .stopping →
        t.retained.severe = some ⟨k, .channel c, s.period⟩) ∧
      s.sameFrame t) ∧
  ∀ (k : FaultKind) (c : Chan) (detail : Nat) (s t : State), t = detectTrip k c detail s →
    (s.chState c = .tripped → t = s) ∧
    (s.chState c ≠ .tripped → t.chState c = .tripped ∧ (t.eng (s.lead c)).timer = none ∧
      (t.queue (s.lead c)).entries = [] ∧
      (∀ e ∈ s.group (s.lead c), (t.eng e).gateEnable = false ∧ (t.eng e).trip = some ⟨k, s.period, detail⟩) ∧
      (s.chState c ≠ .stopping → t.retained.severe = some ⟨k, .channel c, s.period⟩) ∧
      (∀ q, (s.port q).subscribes .fault = true → (t.port q).summary.getLsbD NoticeKind.fault.index = true) ∧
      s.sameFrame t)

/-- A supply record: one that fails its frame checks or repeats the last stamp changes nothing; one taken in READY
with its voltage from the fail level to the high level becomes the last supply record and makes the budget, with
LINK_STATE handed at a change of mains present (05, R92, R94, R111). In OPERATING a taken supply record makes its
level checks first: below the fail level in READY, PARKED and WAKING it is the link fault LINK_LOW, above the high
level in these and in CHARGING and SETTLING LINK_HIGH (05, R92, R94). Then the level test: CHARGING goes to SETTLING
at the ready level, SETTLING back to CHARGING below it, DRAINING to DISCHARGED below the safe level; every other state
stays (05, R92, R96 to R98, R100 to R102). At DISCHARGED a link reaction in service ends as COMPLETED (05, R95; 07,
R139). The supply check of a period start: after the first period start a period without a record is counted, to 4,
and the fourth is the link fault SUPPLY_LOST (05, R93). -/
def Obligations.SupplyRecordsAreTakenOrFault : Prop :=
  (∀ (bs : List Byte) (s : State),
    ((∀ d, parseSupply bs = some d → ∃ b, s.link.supply = some b ∧ b.stamp = d.stamp) →
      exec (.supplyRecord bs) s = .next (settle s)) ∧
    ∀ d, parseSupply bs = some d → (∀ b, s.link.supply = some b → b.stamp ≠ d.stamp) →
      (s.phase = .operating → s.link.state = .ready → s.consts.failLevel ≤ d.voltage →
        d.voltage ≤ s.consts.highLevel → ∃ u,
        u = setBudget (min s.consts.linkRating d.available)
          { s with link := { s.link with supply := some d, supplyTaken := true, supplyMiss := 0 } } ∧
        exec (.supplyRecord bs) s = .next (settle
          (if s.link.supply.any (fun b => decide (b.mains ≠ d.mains)) then broadcast .linkState u else u))) ∧
      (s.phase = .config → s.link.state = .draining → s.consts.safeLevel ≤ d.voltage →
        exec (.supplyRecord bs) s = .next (settle
          { s with link := { s.link with supply := some d, supplyTaken := true } })) ∧
      (s.phase = .config → s.link.state = .draining → d.voltage < s.consts.safeLevel →
        ∃ t, exec (.supplyRecord bs) s = .next t ∧ t.link.state = .discharged ∧ t.link.supply = some d)) ∧
  (∀ (bs : List Byte) (d : SupplyData) (s u : State), parseSupply bs = some d → s.phase = .operating →
    (∀ b, s.link.supply = some b → b.stamp ≠ d.stamp) → s.consts.failLevel < s.consts.highLevel →
    u = { s with link := { s.link with supply := some d, supplyTaken := true, supplyMiss := 0 } } →
    (s.link.state = .ready ∨ s.link.state = .parked ∨ s.link.state = .waking → d.voltage < s.consts.failLevel →
      exec (.supplyRecord bs) s = .next (settle (linkFault .linkLow u))) ∧
    (s.link.state = .ready ∨ s.link.state = .parked ∨ s.link.state = .waking ∨ s.link.state = .charging ∨
      s.link.state = .settling → s.consts.highLevel < d.voltage →
      exec (.supplyRecord bs) s = .next (settle (linkFault .linkHigh u))) ∧
    ∀ answers : State → Prop,
      (∀ v, answers v ↔ exec (.supplyRecord bs) s = .next (settle
        (if s.link.supply.any (fun b => decide (b.mains ≠ d.mains)) then broadcast .linkState v else v))) →
      (s.link.state = .charging → d.voltage ≤ s.consts.highLevel →
        (s.consts.readyLevel ≤ d.voltage → answers (changeLink .settling u)) ∧
        (d.voltage < s.consts.readyLevel → answers u)) ∧
      (s.link.state = .settling → d.voltage ≤ s.consts.highLevel →
        (d.voltage < s.consts.readyLevel → answers (changeLink .charging u)) ∧
        (s.consts.readyLevel ≤ d.voltage → answers u)) ∧
      (s.link.state = .draining →
        (d.voltage < s.consts.safeLevel → answers (changeLink .discharged u)) ∧
        (s.consts.safeLevel ≤ d.voltage → answers u)) ∧
      (s.link.state = .discharged → answers u) ∧
      (s.link.state = .parked ∨ s.link.state = .waking → s.consts.failLevel ≤ d.voltage →
        d.voltage ≤ s.consts.highLevel → answers u)) ∧
  (∀ (i : InService) (s t : State), s.phase = .operating → s.react.inService = some i → i.kind.isLink = true →
    s.react.pendingSet = [] → t = changeLink .discharged s →
    t.react = { s.react with
      inService := none, lastEnded := some ⟨i.kind, .link, .completed, s.period⟩ } ∧ t.link.state = .discharged) ∧
  ∀ (first : Bool) (s u : State), u = { s with link := { s.link with supplyTaken := false } } →
    runWork first .supply s = supplyCheck first s ∧ leaveWork first .supply s = supplyCheck first s ∧
    (first = true ∨ s.link.supplyTaken = true ∨ 4 ≤ s.link.supplyMiss → supplyCheck first s = u) ∧
    (first = false → s.link.supplyTaken = false →
      (s.link.supplyMiss < 3 → supplyCheck first s =
        { u with link := { u.link with supplyMiss := s.link.supplyMiss + 1 } }) ∧
      (s.link.supplyMiss = 3 → supplyCheck first s =
        linkFault .supplyLost { u with link := { u.link with supplyMiss := 4 } }))

/-- A frame on a port with link signal: a valid one restarts the silence timer, returns SILENT to UP and joins the
queue, or sets the overrun flag where the queue holds four; a damaged one is counted and changes nothing else; on a
port that is DOWN nothing arrives (09, R166 to R168). A gained link signal brings a DOWN port to UP with its silence
timer started; a lost one brings a port to DOWN, counts a frame cut short as damaged, reports PORT_SILENT when the
port was UP with a silence limit in OPERATING, and makes a commanded reset due when the safety port's RESET_PART
answer was still waiting (09, R166 to R168; 11, R186; the frame cut short as an operand is the model's choice, log
24). TRANSMISSION_COMPLETE on a port with link signal: the frame has been sent, and the answer to RESET_PART makes the
commanded reset due (09, R171; 11, R186). That the reset is made due here, and taken by COMMANDED, is the model's
choice (log 23). -/
def Obligations.FramesAndSignalsMoveThePort : Prop :=
  (∀ (p : Port) (bs : List Byte) (s : State),
    ((s.port p).link = .down → exec (.frameReceived p bs) s = .next (settle s)) ∧
    ((s.port p).link ≠ .down → parseFrame bs = none → exec (.frameReceived p bs) s = .next (settle
      { s with ports := vset s.ports p { s.port p with damaged := min 65535 ((s.port p).damaged + 1) } })) ∧
    ∀ (f : Frame) (timer : Option Nat), (s.port p).link ≠ .down → parseFrame bs = some f →
      timer = (if s.phase = .config ∨ vget s.consts.silenceLimitMs p = 0 then none
        else some (s.periods (vget s.consts.silenceLimitMs p))) →
      ((s.port p).inbound.length < 4 → exec (.frameReceived p bs) s = .next (settle
        { s with ports := vset s.ports p { s.port p with
            link := .up, silence := timer, inbound := (s.port p).inbound ++ [f] } })) ∧
      (4 ≤ (s.port p).inbound.length → exec (.frameReceived p bs) s = .next (settle
        { s with ports := vset s.ports p { s.port p with link := .up, silence := timer, overrun := true } }))) ∧
  (∀ (p : Port) (s : State),
    ((s.port p).link = .down → exec (.linkSignalGained p) s = .next (settle
      { s with
        signals := vset s.signals p true
        ports := vset s.ports p { s.port p with
          link := .up
          silence := if s.phase = .config ∨ vget s.consts.silenceLimitMs p = 0 then none
            else some (s.periods (vget s.consts.silenceLimitMs p)) } })) ∧
    ∀ (midFrame : Bool) (u : State), (s.port p).link ≠ .down →
      u = { s with
        signals := vset s.signals p false
        resetting := if p = s.safetyPort ∧ s.resetting = .answerWaiting then .due else s.resetting
        ports := vset s.ports p { s.port p with
          link := .down, silence := none
          damaged := if midFrame then min 65535 ((s.port p).damaged + 1) else (s.port p).damaged } } →
      exec (.linkSignalLost p midFrame) s = .next (settle
        (if (s.port p).link = .up ∧ s.phase = .operating ∧ vget s.consts.silenceLimitMs p ≠ 0 then
          reportOrdinary .portSilent (.port p) none u else u))) ∧
  ∀ (p : Port) (f : TxFrame) (s : State), (s.port p).sending = some f → (s.port p).link ≠ .down →
    exec (.transmissionComplete p) s = .next (settle
      { s with
        wire := .frame p f.bytes :: s.wire
        resetting := if f.isReset then .due else s.resetting
        ports := vset s.ports p { s.port p with sending := none } })

/-- PIN_CHANGE: in OPERATING a new level at the pin starts the debounce count of an input with one, an input with 0 ms
changes at once as at the count's expiry, and a return to the debounced level abandons the count; in CONFIG the
debounced level follows at once, with no flag; an unchanged pin is no event (08, R157, R158). DEBOUNCE_COUNT_EXPIRY in
OPERATING: the debounced level changes; a change to active sets the flag, counts, hands INPUT; the level is delivered
to the block its binding names, where a change to active is a SAFE_STOP detection or a wake (08, R158 to R160; 05,
R108; 07, R141). -/
def Obligations.PinsAreDebouncedAndDelivered : Prop :=
  ((∀ (i : Input) (high : Bool) (s : State), s.phase = .config → vget s.pins i ≠ high →
    ∃ t, exec (.pinChange i high) s = .next t ∧ t.pins = vset s.pins i high ∧
      t.inputs = vset s.inputs i { s.inp i with
        level := (s.inputConfig i).polarity.activeAt high, debounce := none }) ∧
  ∀ (i : Input) (high : Bool) (s : State), s.phase = .operating →
    (vget s.pins i = high → exec (.pinChange i high) s = .next (settle s)) ∧
    (vget s.pins i ≠ high → (s.inputConfig i).polarity.activeAt high = (s.inp i).level →
      exec (.pinChange i high) s = .next (settle
        { s with pins := vset s.pins i high, inputs := vset s.inputs i { s.inp i with debounce := none } })) ∧
    (vget s.pins i ≠ high → (s.inputConfig i).polarity.activeAt high ≠ (s.inp i).level →
      (s.inputConfig i).debounceMs ≠ 0 → exec (.pinChange i high) s = .next (settle
        { s with
          pins := vset s.pins i high
          inputs := vset s.inputs i { s.inp i with
            debounce := some (s.periods (s.inputConfig i).debounceMs) } })) ∧
    (vget s.pins i ≠ high → (s.inputConfig i).polarity.activeAt high ≠ (s.inp i).level →
      (s.inputConfig i).debounceMs = 0 → exec (.pinChange i high) s = exec (.debounceCountExpiry i)
        { s with pins := vset s.pins i high, inputs := vset s.inputs i { s.inp i with debounce := some 0 } })) ∧
  ∀ (i : Input) (level : Bool) (s u v : State), s.phase = .operating → (s.inp i).debounce = some 0 →
    level = !(s.inp i).level →
    u = { s with inputs := vset s.inputs i (if level then ⟨true, true, min 255 ((s.inp i).count + 1), none⟩
      else { s.inp i with level := false, debounce := none }) } →
    v = (if level then broadcast .input u else u) →
    ((s.inputConfig i).binding = .none → exec (.debounceCountExpiry i) s = .next (settle v)) ∧
    (∀ c, (s.inputConfig i).binding = .brakeFb c → exec (.debounceCountExpiry i) s = .next (settle
      { v with engines := vset s.engines c { s.eng c with feedback := vset (s.eng c).feedback i level } })) ∧
    ((s.inputConfig i).binding = .safeStop → ∃ w,
      w = { v with react := { s.react with stopLevels := vset s.react.stopLevels i level } } ∧
      exec (.debounceCountExpiry i) s = .next (settle (if level then (detectSafeStop w).1 else w))) ∧
    ((s.inputConfig i).binding = .wake → ∃ w,
      w = { v with link := { s.link with wakeLevels := vset s.link.wakeLevels i level } } ∧
      exec (.debounceCountExpiry i) s = .next (settle (if level then wakeLink w else w)))

/-! ### Requests: what all of them share -/

/-- A frame whose code names no request is answered UNKNOWN; a request whose fields have no length of its form is
answered LENGTH; and, as the model's choice (logs 2, 29), a request command changes nothing while its port offers no
frame of its code (09, R169; 12, R189, R190). Which frame a port takes: the head of its inbound queue, while its
answer slot is empty and no RESET_PART has been served; the taking removes it, and the answer carries the overrun
flag, which it clears (09, R169, R170; 11, R186). -/
def Obligations.OneRequestOneAnswer : Prop :=
  ((∀ (p : Port) (n : W16) (code : Nat) (fields : List Byte) (s : State), s.offers p n code fields →
    code = 0 ∨ 38 < code → exec (.unknownRequest p) s = .next ((s.taken p).replied p n (.bare .unknown))) ∧
  ∀ (i : Instr) (p : Port) (code : Nat) (fit : List Byte → Bool) (s : State), i.request = some (p, code, fit) →
    (∀ n fields, s.offers p n code fields → fit fields = false →
      exec i s = .next ((s.taken p).replied p n (.bare .length))) ∧
    ((∀ f, s.nextRequest p = some f → f.code ≠ code) → exec i s = .next (settle s))) ∧
  ∀ (p : Port) (s : State),
    (∀ f, s.nextRequest p = some f ↔
      s.resetting = .none ∧ (s.port p).answer = none ∧ (s.port p).inbound.head? = some f) ∧
    ∀ (n : W16) (r : Reply) (t : State), t = (s.taken p).replied p n r →
      t = { s with ports := t.ports } ∧ (t.port p).inbound = (s.port p).inbound.tail ∧ (t.port p).overrun = false ∧
      ((t.port p).answer = some ⟨answerFrame n r.status.code (s.port p).overrun r.fields, false⟩ ∨
        (t.port p).sending = some ⟨answerFrame n r.status.code (s.port p).overrun r.fields, false⟩) ∧
      ∀ q, q ≠ p → t.port q = (s.port q).settle s.consts s.period

/-- In CONFIG every request but QUERY_PART, WRITE_CONSTANT, READ_CONSTANT, FREEZE and RESET_PART is answered UNFROZEN
and changes nothing (01, R17; 02, R31; 03, R55; 05, R105; 06, R120; 07, R151; 08, R162; 10, R179). In OPERATING a
tagged request whose tag matches no route of its port is answered UNROUTED, and one whose tag leads to a tandem
follower TANDEM; it changes nothing, but for the wake that a CLAIM from a permitted port gives a PARKED link whatever
its outcome (01, R17; 02, R31, R32; 03, R55; 06, R120; 09, R172; for CLAIM log 28). -/
def Obligations.FirstChecksComeFirst : Prop :=
  (∀ (i : Instr) (p : Port) (code : Nat) (fit : List Byte → Bool) (n : W16) (fields : List Byte) (s : State),
    s.phaseOk → s.phase = .config → i.request = some (p, code, fit) → 6 ≤ code → s.offers p n code fields →
    fit fields = true → exec i s = .next ((s.taken p).replied p n (.bare .unfrozen))) ∧
  ∀ (i : Instr) (p : Port) (code : Nat) (fit : List Byte → Bool) (n : W16) (tag : Byte) (rest : List Byte)
    (s u : State), s.phase = .operating → i.request = some (p, code, fit) → 6 ≤ code → code ≤ 26 →
    s.offers p n code (tag :: rest) → fit (tag :: rest) = true →
    u = (if i = .claim p ∧ vget s.consts.wakePermit p = true then wakeLink (s.taken p) else s.taken p) →
    (s.consts.lookup tag.toNat p = none → exec i s = .next (u.replied p n (.bare .unrouted))) ∧
    (∀ c, s.consts.lookup tag.toNat p = some c → s.consts.isFollower c = true →
      exec i s = .next (u.replied p n (.bare .tandem)))

/-- The nine reading requests answer OK with their fields as they stand when the request is taken, and change nothing
but their port (01, R22; 02, R48; 03, R64; 05, R109; 06, R132; 07, R155; 08, R163; 11, R183, R185; 12, R191).
READ_CONSTANT is answered NOT_SAFETY to any other port, then FIELD when it names no constant or an index the constant
lacks (11, R182, R183). Which fields an answer has is the rules'; the bytes are those of the definitions named
(partFields and valueBytes for the part, groupFields, authorityFields, queueFields, envelopeFields, linkFields,
faultFields, inputFields), and where the manual gives no layout they are the model's choice or reading: the identity
(a free value, log 9), an absent field (log 13), a scope (log 14), which fields are counted lists and where the copies
of a field stand (log 15), widths and the order of three and six bytes (log 16), the own standing (log 30), two-valued
fields (log 33), sets of kinds (log 34), the pending entries (log 35). -/
def Obligations.QueriesAnswerAndChangeNothing : Prop :=
  ∀ (p : Port) (n : W16) (s : State),
    (s.offers p n 1 [] → exec (.queryPart p) s =
      .next ((s.taken p).replied p n (.okWith (s.taken p).partFields))) ∧
    (∀ fields f, s.offers p n 3 fields → readReadConstant fields = some f →
      (p ≠ s.safetyPort → exec (.readConstant p) s = .next ((s.taken p).replied p n (.bare .notSafety))) ∧
      (p = s.safetyPort → f.name = none ∨ (∃ x, f.name = some x ∧ x.indexOk f.index = false) →
        exec (.readConstant p) s = .next ((s.taken p).replied p n (.bare .field))) ∧
      ∀ x, p = s.safetyPort → f.name = some x → x.indexOk f.index = true → exec (.readConstant p) s =
        .next ((s.taken p).replied p n (.okWith (s.consts.valueBytes x f.index)))) ∧
    (∀ tag l, s.routes p tag l →
      (s.offers p n 11 [tag] → exec (.queryAuthority p) s =
        .next ((s.taken p).replied p n (.okWith (s.authorityFields p l)))) ∧
      (s.offers p n 16 [tag] → exec (.queryChannel p) s =
        .next ((s.taken p).replied p n (.okWith (s.groupFields l)))) ∧
      (s.offers p n 20 [tag] → exec (.queryQueue p) s =
        .next ((s.taken p).replied p n (.okWith (s.queueFields l)))) ∧
      (s.offers p n 26 [tag] → exec (.queryEnvelope p) s =
        .next ((s.taken p).replied p n (.okWith (s.envelopeFields l))))) ∧
    (s.phase = .operating →
      (s.offers p n 30 [] → exec (.queryLink p) s = .next ((s.taken p).replied p n (.okWith s.linkFields))) ∧
      ∀ page, (s.offers p n 34 [page] → exec (.queryFaults p) s =
          .next ((s.taken p).replied p n (.okWith (pageOf s.faultFields page.toNat)))) ∧
        (s.offers p n 36 [page] → exec (.queryInputs p) s =
          .next ((s.taken p).replied p n (.okWith (pageOf s.inputFields page.toNat)))))

/-! ### Requests to the Machine Constants Store -/

/-- WRITE_CONSTANT: NOT_SAFETY, FROZEN, FIELD and RANGE in this order, RANGE with the item (its layout the model's
choice, log 18); every accepted write completes, stores the value, is answered OK, and changes nothing else but for
two names (11, R183). The written constant reads back at its name and index as the value written (a flag as 0 or 1, a
binding without a channel with 0 in its place: logs 16, 33), every other name and index as before (11, R183). A
binding write that changes the binding delivers the input's debounced level to the new receiver; a polarity write
judges the pin anew, and the debounced level follows it at once, with no flag, count or notice, and is delivered at a
change (08, R157, R159, R160; a wake among these moves nothing, as no link is PARKED in CONFIG). A delivery records
the level at the receiver the binding names, and changes nothing else (08, R160). -/
def Obligations.WriteConstantStoresOneValue : Prop :=
  (∀ (p : Port) (n : W16) (fields : List Byte) (f : ConstFields) (s : State), s.offers p n 2 fields →
    readWriteConstant fields = some f →
    (p ≠ s.safetyPort → exec (.writeConstant p) s = .next ((s.taken p).replied p n (.bare .notSafety))) ∧
    (p = s.safetyPort → s.phase = .operating →
      exec (.writeConstant p) s = .next ((s.taken p).replied p n (.bare .frozen))) ∧
    (p = s.safetyPort → s.phase = .config →
      (f.name = none → exec (.writeConstant p) s = .next ((s.taken p).replied p n (.bare .field))) ∧
      ∀ x, f.name = some x →
        ((x.indexOk f.index && x.fieldOk f.value) = false →
          exec (.writeConstant p) s = .next ((s.taken p).replied p n (.bare .field))) ∧
        ((x.indexOk f.index && x.fieldOk f.value) = true → x.rangeOk f.value = false →
          exec (.writeConstant p) s = .next ((s.taken p).replied p n ⟨.range, f.item x⟩)) ∧
        ((x.indexOk f.index && x.fieldOk f.value) = true → x.rangeOk f.value = true →
          ∀ (i : Input) (old new : InputConfig) (level : Bool) (w : State) (answers : State → Prop),
          i = Fin.ofNat 16 f.index → w = { s.taken p with consts := s.consts.write x f.index f.value } →
          old = vget s.consts.inputs i → new = vget w.consts.inputs i →
          level = new.polarity.activeAt (vget s.pins i) →
          (∀ u, answers u ↔ exec (.writeConstant p) s = .next (u.replied p n (.bare .ok))) →
          w.consts.valueBytes x f.index = (match x, f.value with
            | .wakePermit, [b] | .present, [b] | .tandem, [b] => [if b = 0 then 0 else 1]
            | .binding, [k, c] => [k, if k = 2 then c else 0]
            | .route, [valid, tag, ports, c] => [if valid = 0 then 0 else 1, tag, ports, c]
            | _, v => v) ∧
          (∀ (y : ConstName) (j : Nat), y.indexOk j = true → y ≠ x ∨ (x.copies.isSome = true ∧ j ≠ f.index) →
            w.consts.valueBytes y j = s.consts.valueBytes y j) ∧
          (x ≠ .polarity → x ≠ .binding → answers w) ∧
          (x = .binding → new = { old with binding := Binding.ofNat (ofBytes f.value) } ∧
            (new.binding = old.binding → answers w) ∧
            (new.binding ≠ old.binding → answers (recordLevel new.binding i (s.inp i).level w))) ∧
          (x = .polarity →
            (level = (s.inp i).level →
              answers { w with inputs := vset s.inputs i { s.inp i with debounce := none } }) ∧
            (level ≠ (s.inp i).level → ∃ u, u = recordLevel new.binding i level { w with
                inputs := vset s.inputs i { s.inp i with level := level, debounce := none } } ∧
              answers (if level = true ∧ new.binding = .wake then wakeLink u else u)))))) ∧
  (∀ s : State, s.link.state ≠ .parked → wakeLink s = s) ∧
  ∀ (i : Input) (level : Bool) (s : State),
    recordLevel .none i level s = s ∧
    recordLevel .safeStop i level s =
      { s with react := { s.react with stopLevels := vset s.react.stopLevels i level } } ∧
    recordLevel .wake i level s =
      { s with link := { s.link with wakeLevels := vset s.link.wakeLevels i level } } ∧
    ∀ c, recordLevel (.brakeFb c) i level s =
      { s with engines := vset s.engines c { s.eng c with feedback := vset (s.eng c).feedback i level } }

/-- The checks of FREEZE pass exactly on the constants that Table 11-2 allows (11, R184). -/
def Obligations.FreezeChecksAreTheTable : Prop :=
  ∀ k : Constants, k.freezeFault = none ↔
    (∀ p q : Port, p ≠ q → vget k.rank p = vget k.rank q → vget k.rank p = 0) ∧
    (∀ c : Chan, c ∈ k.order ↔ vget k.present c = true) ∧
    1 ≤ k.linkRating ∧ (allChans.map fun c => if vget k.present c then vget k.reserve c else 0).sum ≤ k.linkRating ∧
    (∀ l c : Chan, k.isLeader l = true → c ∈ k.group l → vget k.present c = true) ∧
    (∀ i : Fin 32, (vget k.routes i).valid = true → vget k.present (vget k.routes i).chan = true) ∧
    (∀ i : Input, (vget k.inputs i).binding = .safeStop → (vget k.inputs i).mode = .level) ∧
    k.safeLevel < k.failLevel ∧ k.failLevel < k.readyLevel ∧ k.readyLevel < k.highLevel ∧ k.settleCode ≤ 4

/-- FREEZE: NOT_SAFETY, FROZEN, RANGE with the first failing check; an accepted one makes the part operate, with its
records, queues and envelopes formed, the budget 0, the levels delivered, the silence timers of the ports in UP
started, the Period Timer at 0, and STARTED told to every port (11, R184; 06, R116, R117; 09, R167; 10, R181). The
item that check 1 names among several duplicates is the model's choice (log 18). -/
def Obligations.FreezeStartsThePart : Prop :=
  ∀ (p : Port) (n : W16) (s : State), s.offers p n 4 [] →
    (p ≠ s.safetyPort → exec (.freeze p) s = .next ((s.taken p).replied p n (.bare .notSafety))) ∧
    (p = s.safetyPort → s.phase = .operating →
      exec (.freeze p) s = .next ((s.taken p).replied p n (.bare .frozen))) ∧
    (∀ check item, p = s.safetyPort → s.phase = .config → s.consts.freezeFault = some (check, item) →
      exec (.freeze p) s = .next ((s.taken p).replied p n ⟨.range, beBytes 1 check ++ beBytes 1 item⟩)) ∧
    (p = s.safetyPort → s.phase = .config → s.consts.freezeFault = none → ∃ u : State,
      exec (.freeze p) s = .next (u.replied p n (.bare .ok)) ∧
      u = { s.taken p with
        phase := .operating, period := 0, started := false, auth := u.auth, queues := u.queues, envs := u.envs
        engines := u.engines, allot := { s.allot with budget := 0, grant := grantsOf s.consts 0 s.allot.request }
        react := { s.react with stopLevels := u.react.stopLevels }
        link := { s.link with wakeLevels := u.link.wakeLevels }, ports := u.ports } ∧
      (∀ c, u.auRec c = AuthRecord.initial ∧ u.queue c = DemandQueue.initial ∧
        u.eng c = { s.eng c with feedback := (u.eng c).feedback } ∧
        u.env c = { Envelope.initial with guarded :=
          ⟨s.consts.ceilingOf c * 25 / 100, s.consts.ceilingOf c * 10 / 100, 60, 200, 500⟩ }) ∧
      (∀ i, ((s.inputConfig i).binding = .safeStop → vget u.react.stopLevels i = (s.inp i).level) ∧
        ((s.inputConfig i).binding = .wake → vget u.link.wakeLevels i = (s.inp i).level) ∧
        ∀ c, (s.inputConfig i).binding = .brakeFb c → vget (u.eng c).feedback i = (s.inp i).level) ∧
      ∀ q, u.port q = { (s.taken p).port q with
        subscribed := broadcastKinds, summary := (s.port q).summary ||| NoticeKind.started.bit
        silence := if (s.port q).link = .up then
            (if vget s.consts.silenceLimitMs q = 0 then none
              else some (s.periods (vget s.consts.silenceLimitMs q)))
          else (s.port q).silence })

/-- RESET_PART: NOT_SAFETY from another port; the safety port's is answered OK, and with the port's signal there the
reset waits for that answer to leave, else it is due at once (11, R186). That the reset is made due and taken by
COMMANDED is the model's choice (log 23). -/
def Obligations.ResetPartIsAnsweredFirst : Prop :=
  ∀ (p : Port) (n : W16) (s : State), s.offers p n 5 [] →
    (p ≠ s.safetyPort → exec (.resetPart p) s = .next ((s.taken p).replied p n (.bare .notSafety))) ∧
    (p = s.safetyPort → exec (.resetPart p) s = .next (settle (putAnswer p n true (.bare .ok)
      { s.taken p with resetting := if (s.port p).link = .down then .due else .answerWaiting })))

/-! ### Requests to the Authority Unit -/

/-- CLAIM of a channel without a holder is granted; of a held one without a lock, by a port of higher rank, it is
granted by preemption, with AUTHORITY to the old holder; the answer carries the new epoch; a permitted port's CLAIM
then wakes a PARKED link (02, R32 to R34, R36, R37; for the wake log 28). CLAIM refused RANK, ALREADY or TAKEN changes
nothing; with wait set a claim behind a present holder joins the waiting list after every higher rank and before every
lower one, and is told its position; a permitted port's CLAIM then wakes a PARKED link whatever its outcome (02, R27,
R32, R33, R35; for the wake log 28). In the answers the single byte 0 of an absent displaced holder (log 13), the 0 or
1 that begins OK's and ALREADY's fields (log 18), and the bytes 0 and 1 for no and yes of the handover opened and the
lock present (log 33) are the model's choice. So is the yes for a preemption that replaces an open handover (log
38). -/
def Obligations.ClaimsAreGrantedWaitOrAreRefused : Prop :=
  (∀ (p : Port) (n : W16) (tag w : Byte) (l : Chan) (s u : State), s.offers p n 6 [tag, w] → s.routes p tag l →
    s.rank p ≠ 0 → (∀ x ∈ (s.auRec l).waiting, x.port ≠ p) →
    ((s.auRec l).holder = none → u = takeReactions (changeHolder l (some p) (s.taken p)) →
      exec (.claim p) s = .next ((if vget s.consts.wakePermit p = true then wakeLink u else u).replied p n
        (.okWith ([0] ++ wordBytes ((s.auRec l).epoch + 1) ++ [0])))) ∧
    ∀ (old : Port) (k : Nat), (s.auRec l).holder = some old → old ≠ p → (s.auRec l).holderRank = some k →
      k < s.rank p → (s.auRec l).lock = none →
      u = takeReactions (handTo old .authority (changeHolder l (some p) (s.taken p))) →
      exec (.claim p) s = .next ((if vget s.consts.wakePermit p = true then wakeLink u else u).replied p n
        (.okWith ([0] ++ wordBytes ((s.auRec l).epoch + 1) ++ [1] ++ portByte old ++
          [flagByte (s.eng l).state.running])))) ∧
  ∀ (p : Port) (n : W16) (tag w : Byte) (l : Chan) (wake : State → State) (s : State),
    s.offers p n 6 [tag, w] → s.routes p tag l →
    (∀ u, wake u = if vget s.consts.wakePermit p = true then wakeLink u else u) →
    (s.rank p = 0 → exec (.claim p) s = .next ((wake (s.taken p)).replied p n (.bare .rank))) ∧
    (s.rank p ≠ 0 → (s.auRec l).holder = some p →
      exec (.claim p) s = .next ((wake (s.taken p)).replied p n ⟨.already, [0]⟩)) ∧
    (∀ k, s.rank p ≠ 0 → (s.auRec l).holder ≠ some p → waitPosition p (s.auRec l).waiting = some k →
      exec (.claim p) s = .next ((wake (s.taken p)).replied p n ⟨.already, 1 :: beBytes 1 k⟩)) ∧
    ∀ (old : Port) (k : Nat), s.rank p ≠ 0 → (s.auRec l).holder = some old → old ≠ p →
      (s.auRec l).holderRank = some k → (∀ x ∈ (s.auRec l).waiting, x.port ≠ p) →
      (s.rank p ≤ k ∨ (s.auRec l).lock ≠ none) →
      (w = 0 → exec (.claim p) s = .next ((wake (s.taken p)).replied p n
        ⟨.taken, portByte old ++ beBytes 1 k ++ [flagByte (s.auRec l).lock.isSome]⟩)) ∧
      (w ≠ 0 → (s.auRec l).waiting.Pairwise (fun x y => y.rank < x.rank) →
        (∀ x ∈ (s.auRec l).waiting, x.rank ≠ s.rank p) →
        exec (.claim p) s = .next ((wake { s.taken p with auth := vset s.auth l { s.auRec l with
            waiting := (s.auRec l).waiting.filter (fun x => decide (s.rank p < x.rank)) ++
              ⟨p, s.rank p⟩ :: (s.auRec l).waiting.filter (fun x => decide (x.rank < s.rank p)) } }).replied p n
          (.okWith ([1] ++ beBytes 1 (((s.auRec l).waiting.filter fun x => decide (s.rank p < x.rank)).length + 1) ++
            portByte old ++ beBytes 1 k))))

/-- CANCEL_CLAIM removes the port's waiting claim and no other, and nothing else; without one it is answered
NOT_WAITING (02, R38). RELEASE by the holder: the head of the waiting list becomes holder, with AUTHORITY to it, or
the holder becomes absent; the answer carries the new holder; from any other port it is answered NOT_HOLDER (02, R36,
R37, R39). That an absent new holder is the byte 0 alone is the model's choice (log 13). -/
def Obligations.ClaimsAndHoldingsAreGivenUp : Prop :=
  (∀ (p : Port) (n : W16) (tag : Byte) (l : Chan) (s : State), s.offers p n 7 [tag] → s.routes p tag l →
    ((∃ x ∈ (s.auRec l).waiting, x.port = p) → exec (.cancelClaim p) s = .next ({ s.taken p with
      auth := vset s.auth l { s.auRec l with
        waiting := (s.auRec l).waiting.filter fun x => decide (x.port ≠ p) } }.replied p n (.bare .ok))) ∧
    ((∀ x ∈ (s.auRec l).waiting, x.port ≠ p) →
      exec (.cancelClaim p) s = .next ((s.taken p).replied p n (.bare .notWaiting)))) ∧
  ∀ (p : Port) (n : W16) (tag : Byte) (l : Chan) (s : State), s.offers p n 8 [tag] → s.routes p tag l →
    ((s.auRec l).holder ≠ some p → exec (.release p) s = .next ((s.taken p).replied p n (.bare .notHolder))) ∧
    ((s.auRec l).holder = some p → (s.auRec l).waiting = [] → exec (.release p) s =
      .next ((takeReactions (changeHolder l none (s.taken p))).replied p n (.okWith [0]))) ∧
    ∀ x rest, (s.auRec l).holder = some p → (s.auRec l).waiting = x :: rest → exec (.release p) s =
      .next ((takeReactions (handTo x.port .authority (changeHolder l (some x.port)
        { s.taken p with auth := vset s.auth l { s.auRec l with waiting := rest } }))).replied p n
        (.okWith (1 :: portByte x.port)))

/-- LOCK by the holder of 1 to 10,000 ms sets or renews the lock and answers its periods; otherwise NOT_HOLDER or
RANGE, and nothing changes (02, R40); the three bytes of the periods and RANGE with no field are the model's choice
(logs 16, 18). UNLOCK by the holder drops the lock; a head of the waiting list that outranks
the holder then becomes holder, with AUTHORITY to both; the answer carries the holder; otherwise NOT_HOLDER or
NOT_LOCKED (02, R36, R37, R41). -/
def Obligations.LocksAreSetAndDropped : Prop :=
  (∀ (p : Port) (n : W16) (tag a b : Byte) (l : Chan) (ms : Nat) (s : State), s.offers p n 9 [tag, a, b] →
    s.routes p tag l → ms = 256 * a.toNat + b.toNat →
    ((s.auRec l).holder ≠ some p → exec (.lock p) s = .next ((s.taken p).replied p n (.bare .notHolder))) ∧
    ((s.auRec l).holder = some p → ms = 0 ∨ 10000 < ms →
      exec (.lock p) s = .next ((s.taken p).replied p n (.bare .range))) ∧
    ((s.auRec l).holder = some p → 1 ≤ ms → ms ≤ 10000 → exec (.lock p) s = .next ({ s.taken p with
      auth := vset s.auth l { s.auRec l with lock := some (s.periods ms) } }.replied p n
        (.okWith (beBytes 3 (s.periods ms)))))) ∧
  ∀ (p : Port) (n : W16) (tag : Byte) (l : Chan) (k : Nat) (s : State), s.offers p n 10 [tag] → s.routes p tag l →
    ((s.auRec l).holder ≠ some p → exec (.unlock p) s = .next ((s.taken p).replied p n (.bare .notHolder))) ∧
    ((s.auRec l).holder = some p → (s.auRec l).lock = none →
      exec (.unlock p) s = .next ((s.taken p).replied p n (.bare .notLocked))) ∧
    ((s.auRec l).holder = some p → (s.auRec l).lock ≠ none → (s.auRec l).holderRank = some k →
      ((∀ x, (s.auRec l).waiting.head? = some x → x.rank ≤ k) → exec (.unlock p) s = .next ((takeReactions
        { s.taken p with auth := vset s.auth l { s.auRec l with lock := none } }).replied p n
        (.okWith (portByte p)))) ∧
      ∀ x rest, (s.auRec l).waiting = x :: rest → k < x.rank → exec (.unlock p) s = .next ((takeReactions
        (handTo x.port .authority (handTo p .authority (changeHolder l (some x.port)
          { s.taken p with auth := vset s.auth l { s.auRec l with lock := none, waiting := rest } })))).replied p n
        (.okWith (portByte x.port))))

/-! ### Channel requests -/

/-- ENGAGE by the holder of a channel in OFF, with the link READY, the latch clear, no link reaction in service and no
brake-fault mark in the group: the group's integrators are cleared, the gap count is reset, and the group goes to
RELEASING with its brake timer (01, R9, R18; 03, R68). ENGAGE's refusals, in their order; one refused PARKED from a
permitted port wakes the link, and the others change nothing (01, R17, R18; 05, R108). -/
def Obligations.EngageReleasesTheBrakeOrIsRefused : Prop :=
  (∀ (p : Port) (n : W16) (tag : Byte) (l : Chan) (s : State), s.offers p n 12 [tag] → s.routes p tag l →
    (s.auRec l).holder = some p → s.linkReactionInService = false → s.link.state = .ready → s.react.latch = false →
    (s.eng l).state = .off → (∀ c ∈ s.group l, (s.eng c).brakeMark = false) →
    exec (.engage p) s = .next ((moveGroup l .releasing (some (s.periods (s.env l).guarded.brakeMs))
      { s.taken p with
        engines := s.onGroup l fun e => { e with integD := 0, integQ := 0 }
        queues := s.onQueue l fun q => { q with gap := 0, starved := false } }).replied p n (.bare .ok))) ∧
  ∀ (p : Port) (n : W16) (tag : Byte) (l : Chan) (s : State) (answers : Status → Prop), s.offers p n 12 [tag] →
    s.routes p tag l →
    (∀ x, answers x ↔ exec (.engage p) s = .next ((s.taken p).replied p n (.bare x))) →
    ((s.auRec l).holder ≠ some p → answers .notHolder) ∧
    ((s.auRec l).holder = some p →
      (s.linkReactionInService = true → answers .busy) ∧
      (s.linkReactionInService = false →
        (s.link.state = .parked → exec (.engage p) s = .next
          ((if vget s.consts.wakePermit p = true then wakeLink (s.taken p) else s.taken p).replied p n
            (.bare .parked))) ∧
        (s.link.state = .waking → answers .waking) ∧
        (s.link.state = .discharged ∨ s.link.state = .charging ∨ s.link.state = .settling ∨
          s.link.state = .draining → answers .link) ∧
        (s.link.state = .ready →
          (s.react.latch = true → answers .safeLatch) ∧
          (s.react.latch = false → ((s.eng l).state ≠ .off ∨ ∃ c ∈ s.group l, (s.eng c).brakeMark = true) →
            answers .state))))

/-- DISENGAGE by the holder of a running channel flushes its queue and moves it to HOLDING under a fresh brake timer,
and pending reactions are taken; FORCE_RAMP by the holder or the safety port moves a channel in HOLDING to RAMPING
from its held demand; in any other state both are answered STATE, and without permission NOT_HOLDER (01, R11, R12,
R17, R19, R20). RESTORE by the holder or the safety port: NOT_HOLDER, BUSY, STATE, ACTIVE in this order; a tripped
group goes to OFF with its trip records removed, its brake-fault marks cleared and the zero demand (its id the id
target, the model's reading, log 7); a group in OFF has its brake-fault marks cleared (01, R8, R17, R21). -/
def Obligations.ChannelsAreStoppedAndRestored : Prop :=
  (∀ (p : Port) (n : W16) (tag : Byte) (l : Chan) (s : State), s.routes p tag l →
    (s.offers p n 13 [tag] →
      ((s.auRec l).holder ≠ some p → exec (.disengage p) s = .next ((s.taken p).replied p n (.bare .notHolder))) ∧
      ((s.auRec l).holder = some p → (s.eng l).state.running = false →
        exec (.disengage p) s = .next ((s.taken p).replied p n (.bare .state))) ∧
      ((s.auRec l).holder = some p → (s.eng l).state.running = true → exec (.disengage p) s =
        .next ((takeReactions (moveGroup l .holding (some (s.periods (s.env l).guarded.brakeMs))
          { s.taken p with queues := s.onQueue l fun q => { q with entries := [] } })).replied p n (.bare .ok)))) ∧
    (s.offers p n 14 [tag] →
      ((s.auRec l).holder ≠ some p → p ≠ s.safetyPort →
        exec (.forceRamp p) s = .next ((s.taken p).replied p n (.bare .notHolder))) ∧
      ((s.auRec l).holder = some p ∨ p = s.safetyPort → (s.eng l).state ≠ .holding →
        exec (.forceRamp p) s = .next ((s.taken p).replied p n (.bare .state))) ∧
      ((s.auRec l).holder = some p ∨ p = s.safetyPort → (s.eng l).state = .holding → exec (.forceRamp p) s =
        .next ((moveGroup l .ramping (some (s.periods (s.env l).opens.rampMs))
          { s.taken p with engines := vset s.engines l { s.eng l with
              rampStart := (s.eng l).active
              rampTotal := s.periods (s.env l).opens.rampMs } }).replied p n (.bare .ok))))) ∧
  ∀ (p : Port) (n : W16) (tag : Byte) (l : Chan) (s : State), s.offers p n 15 [tag] → s.routes p tag l →
    ((s.auRec l).holder ≠ some p → p ≠ s.safetyPort →
      exec (.restore p) s = .next ((s.taken p).replied p n (.bare .notHolder))) ∧
    ((s.auRec l).holder = some p ∨ p = s.safetyPort →
      (s.linkReactionInService = true → exec (.restore p) s = .next ((s.taken p).replied p n (.bare .busy))) ∧
      (s.linkReactionInService = false →
        ((s.eng l).state ≠ .tripped → (s.eng l).state ≠ .off →
          exec (.restore p) s = .next ((s.taken p).replied p n (.bare .state))) ∧
        ((s.eng l).state = .tripped → (∃ c ∈ s.group l, (s.eng c).desat = true ∨ (s.eng c).overtemp = true) →
          exec (.restore p) s = .next ((s.taken p).replied p n (.bare .active))) ∧
        ((s.eng l).state = .tripped → (∀ c ∈ s.group l, (s.eng c).desat = false ∧ (s.eng c).overtemp = false) →
          ∃ e, e = s.onGroup l (fun e => { e with trip := none, brakeMark := false }) ∧
          exec (.restore p) s = .next ((moveGroup l .off none { s.taken p with engines := vset e l { vget e l with
            active := { iq := 0, id := (s.eng l).idTarget, split := 0, vff := 0 } } }).replied p n
              (.bare .ok))) ∧
        ((s.eng l).state = .off → exec (.restore p) s = .next ({ s.taken p with
          engines := s.onGroup l fun e => { e with brakeMark := false } }.replied p n (.bare .ok)))))

/-! ### Requests to the Demand Unit -/

/-- DEMAND: NOT_HOLDER, EPOCH, STATE in this order; an accepted one judges its entries in turn and is answered with
their outcomes, the queue length and the last applied stamp (03, R55, R57, R59). The outcomes as a counted list (log
15) and the single byte 0 of an absent last applied stamp (log 13) are the model's choice. -/
def Obligations.DemandJudgesItsEntries : Prop :=
  ∀ (p : Port) (n : W16) (fields : List Byte) (f : DemandFields) (l : Chan) (s : State)
    (q : List Entry) (outs : List EntryOutcome), s.offers p n 17 fields → readDemand fields = some f →
    s.routes p (BitVec.ofNat 8 f.tag) l →
    judgeEntries s.judgedPeriod (s.consts.isLeader l) f.entries (s.queue l).entries = (q, outs) →
    ((s.auRec l).holder ≠ some p → exec (.demand p) s = .next ((s.taken p).replied p n (.bare .notHolder))) ∧
    ((s.auRec l).holder = some p → f.epoch ≠ (s.auRec l).epoch →
      exec (.demand p) s = .next ((s.taken p).replied p n (.bare .epoch))) ∧
    ((s.auRec l).holder = some p → f.epoch = (s.auRec l).epoch →
      ((s.eng l).state = .holding ∨ (s.eng l).state = .ramping ∨ (s.eng l).state = .stopping ∨
        (s.eng l).state = .tripped → exec (.demand p) s = .next ((s.taken p).replied p n (.bare .state))) ∧
      ((s.eng l).state = .off ∨ (s.eng l).state = .releasing ∨ (s.eng l).state = .run →
        exec (.demand p) s = .next ({ s.taken p with
          queues := s.onQueue l fun x => { x with entries := q } }.replied p n
          (.okWith (listBytes (outs.map fun (o : EntryOutcome) => beBytes 1 o.index) ++ beBytes 1 q.length ++
            optBytes ((s.queue l).lastApplied.map stampBytes))))))

/-- The outcome of one entry of a DEMAND, and the queue it leaves, by the FIELD check, the distance of its stamp, a
queued entry of its stamp, and the room in the queue (03, R53, R57, R58; 12, R192). -/
def Obligations.EntryOutcomesFollowTheirTests : Prop :=
  ∀ (judged : W32) (leader : Bool) (x : RawEntry) (q t : List Entry) (o : EntryOutcome) (D : Nat) (e : Entry)
    (fieldOk : Prop), D = (x.stamp - judged).toNat → judgeEntry judged leader x q = (t, o) →
    e = { stamp := x.stamp, iq := x.iq
          id := if x.presence.getLsbD 0 then some x.id else none
          split := if x.presence.getLsbD 1 then some x.split else none
          vff := if x.presence.getLsbD 2 then some x.vff else none } →
    (fieldOk ↔ x.presence.toNat < 8 ∧ x.iq.natAbs ≤ 32767 ∧
      (x.presence.getLsbD 0 = true → x.id.natAbs ≤ 32767) ∧ (x.presence.getLsbD 2 = true → x.vff.natAbs ≤ 32767) ∧
      (x.presence.getLsbD 1 = true → leader = true ∧ x.split.natAbs ≤ 32767 ∧
        ((2 * x.iq + x.split).tdiv 2).natAbs ≤ 32767 ∧ ((2 * x.iq - x.split).tdiv 2).natAbs ≤ 32767)) →
    (¬ fieldOk → o = .field ∧ t = q) ∧
    (fieldOk → D = 0 ∨ 2147483648 ≤ D → o = .late ∧ t = q) ∧
    (fieldOk → 65 ≤ D → D < 2147483648 → o = .far ∧ t = q) ∧
    (fieldOk → 1 ≤ D → D ≤ 64 →
      ((∃ y ∈ q, y.stamp = x.stamp) → o = .replaced ∧ t = q.map fun y => if y.stamp = x.stamp then e else y) ∧
      ((∀ y ∈ q, y.stamp ≠ x.stamp) → 16 ≤ q.length → o = .full ∧ t = q) ∧
      ((∀ y ∈ q, y.stamp ≠ x.stamp) → q.length < 16 → queueOrdered judged q → o = .accepted ∧
        t = q.filter (fun y => decide ((y.stamp - judged).toNat < D)) ++
          e :: q.filter (fun y => decide (D < (y.stamp - judged).toNat))))

/-- RETRACT and FLUSH: NOT_HOLDER, then EPOCH; RETRACT removes every entry at or after a from-stamp within horizon,
all of them for a late one and none for a far one; FLUSH removes all; both answer the count removed (03, R55, R61,
R62). -/
def Obligations.RetractAndFlushRemoveEntries : Prop :=
  ∀ (p : Port) (n : W16) (tag : Byte) (l : Chan) (fields : List Byte) (epoch : W16) (stamp : W32) (s : State),
    s.routes p tag l →
    (∀ D kept, s.offers p n 18 fields → readRetract fields = some ⟨tag.toNat, epoch, stamp⟩ →
      D = (stamp - s.judgedPeriod).toNat →
      kept = (if D = 0 ∨ 2147483648 ≤ D then [] else if 64 < D then (s.queue l).entries
        else (s.queue l).entries.filter fun y => decide ((y.stamp - s.judgedPeriod).toNat < D)) →
      ((s.auRec l).holder ≠ some p → exec (.retract p) s = .next ((s.taken p).replied p n (.bare .notHolder))) ∧
      ((s.auRec l).holder = some p → epoch ≠ (s.auRec l).epoch →
        exec (.retract p) s = .next ((s.taken p).replied p n (.bare .epoch))) ∧
      ((s.auRec l).holder = some p → epoch = (s.auRec l).epoch → exec (.retract p) s = .next
        ({ s.taken p with queues := s.onQueue l fun q => { q with entries := kept } }.replied p n
          (.okWith (beBytes 1 ((s.queue l).entries.length - kept.length) ++ beBytes 1 kept.length))))) ∧
    (∀ a b, s.offers p n 19 [tag, a, b] → epoch = a ++ b →
      ((s.auRec l).holder ≠ some p → exec (.flush p) s = .next ((s.taken p).replied p n (.bare .notHolder))) ∧
      ((s.auRec l).holder = some p → epoch ≠ (s.auRec l).epoch →
        exec (.flush p) s = .next ((s.taken p).replied p n (.bare .epoch))) ∧
      ((s.auRec l).holder = some p → epoch = (s.auRec l).epoch → exec (.flush p) s = .next
        ({ s.taken p with queues := s.onQueue l fun q => { q with entries := [] } }.replied p n
          (.okWith (beBytes 1 (s.queue l).entries.length)))))

/-! ### Requests to the Envelope Unit -/

/-- SET_OPEN: NOT_HOLDER, STALE, FIELD, RANGE in this order; an accepted one writes all its values and advances the
revision once (06, R119, R121). FIELD for an unknown name (log 17) and RANGE's value by its number (log 18) are the
model's choice. -/
def Obligations.SetOpenWritesAllItsValues : Prop :=
  ∀ (p : Port) (n : W16) (fields : List Byte) (f : SetOpenFields) (l : Chan) (s : State), s.offers p n 21 fields →
    readSetOpen fields = some f → s.routes p (BitVec.ofNat 8 f.tag) l →
    ((s.auRec l).holder ≠ some p → exec (.setOpen p) s = .next ((s.taken p).replied p n (.bare .notHolder))) ∧
    ((s.auRec l).holder = some p → f.revision ≠ (s.env l).revision →
      exec (.setOpen p) s = .next ((s.taken p).replied p n (.bare .stale))) ∧
    ((s.auRec l).holder = some p → f.revision = (s.env l).revision →
      (f.changes.malformed = true → exec (.setOpen p) s = .next ((s.taken p).replied p n (.bare .field))) ∧
      (∀ x, f.changes.malformed = false → f.changes.outOfRange = some x →
        exec (.setOpen p) s = .next ((s.taken p).replied p n ⟨.range, beBytes 1 x.index⟩)) ∧
      (f.changes.malformed = false → f.changes.outOfRange = none →
        exec (.setOpen p) s = .next ({ s.taken p with envs := vset s.envs l { s.env l with
          opens := f.changes.items.foldl OpenValues.set (s.env l).opens
          revision := (s.env l).revision + 1 } }.replied p n (.okWith (wordBytes ((s.env l).revision + 1))))))

/-- PROPOSE: RANK, SELF, RANGE, PENDING, RETRY, STALE in this order; an accepted one creates the proposal under the
next number, from 255 to 1, with its deadline, and hands PROPOSAL to the safety port (06, R122 to R124). The values
PROPOSE refuses: the peak above the envelope ceiling, the continuous current below 1 or above the peak, tau outside 1
to 3600 s, the brake time outside 20 to 2000 ms, the stop time outside 50 to 5000 ms, the first of them named by its
place in Table 6-1 (06, R116, R124). RANGE's value by its number (log 18) and the two bytes of the deadline (log 16)
are the model's choice. -/
def Obligations.ProposeCreatesAProposal : Prop :=
  (∀ (p : Port) (n : W16) (fields : List Byte) (f : ProposeFields) (l : Chan) (number : Nat) (s : State)
    (answers : Reply → Prop), s.offers p n 22 fields → readPropose fields = some f →
    s.routes p (BitVec.ofNat 8 f.tag) l →
    (∀ r, answers r ↔ exec (.propose p) s = .next ((s.taken p).replied p n r)) →
    number = (if 255 ≤ (s.env l).counter then 1 else (s.env l).counter + 1) →
    (s.rank p = 0 → answers (.bare .rank)) ∧
    (s.rank p ≠ 0 → p = s.safetyPort → answers (.bare .self)) ∧
    (s.rank p ≠ 0 → p ≠ s.safetyPort →
      (∀ x, f.outOfRange (s.consts.ceilingOf l) = some x → answers ⟨.range, beBytes 1 x⟩) ∧
      (f.outOfRange (s.consts.ceilingOf l) = none →
        (∀ x, (s.env l).proposal = some x →
          answers (.bare (if x.proposer = p then .pending else .retry))) ∧
        ((s.env l).proposal = none → f.revision ≠ (s.env l).revision → answers (.bare .stale)) ∧
        ((s.env l).proposal = none → f.revision = (s.env l).revision → exec (.propose p) s = .next
          ((handTo s.safetyPort .proposal { s.taken p with envs := vset s.envs l { s.env l with
            counter := number
            proposal := some ⟨p, ⟨f.peak.toNat, f.continuous.toNat, f.tau, f.brakeMs, f.stopMs⟩, number,
              s.periods s.consts.proposalMs⟩ } }).replied p n
            (.okWith (beBytes 1 number ++ beBytes 2 (s.periods s.consts.proposalMs)))))))) ∧
  ∀ (f : ProposeFields) (ceiling : Nat),
    (f.outOfRange ceiling = none ↔ f.peak ≤ ceiling ∧ 1 ≤ f.continuous ∧ f.continuous ≤ f.peak ∧
      1 ≤ f.tau ∧ f.tau ≤ 3600 ∧ 20 ≤ f.brakeMs ∧ f.brakeMs ≤ 2000 ∧ 50 ≤ f.stopMs ∧ f.stopMs ≤ 5000) ∧
    (f.outOfRange ceiling = some 0 ↔ (ceiling : Int) < f.peak) ∧
    (f.outOfRange ceiling = some 1 ↔ f.peak ≤ ceiling ∧ (f.continuous < 1 ∨ f.peak < f.continuous)) ∧
    (f.outOfRange ceiling = some 2 ↔ f.peak ≤ ceiling ∧ 1 ≤ f.continuous ∧ f.continuous ≤ f.peak ∧
      (f.tau < 1 ∨ 3600 < f.tau)) ∧
    (f.outOfRange ceiling = some 3 ↔ f.peak ≤ ceiling ∧ 1 ≤ f.continuous ∧ f.continuous ≤ f.peak ∧
      1 ≤ f.tau ∧ f.tau ≤ 3600 ∧ (f.brakeMs < 20 ∨ 2000 < f.brakeMs)) ∧
    (f.outOfRange ceiling = some 4 ↔ f.peak ≤ ceiling ∧ 1 ≤ f.continuous ∧ f.continuous ≤ f.peak ∧
      1 ≤ f.tau ∧ f.tau ≤ 3600 ∧ 20 ≤ f.brakeMs ∧ f.brakeMs ≤ 2000 ∧ (f.stopMs < 50 ∨ 5000 < f.stopMs)) ∧
    ∀ x, f.outOfRange ceiling = some x → x ≤ 4

/-- CONFIRM: NOT_SAFETY, NO_PROPOSAL, MISMATCH in this order; one that passes replaces the five guarded values by the
proposal's, advances the revision, and the proposal ends CONFIRMED with PROPOSAL_RESULT to its proposer (06, R125,
R126). -/
def Obligations.ConfirmCommitsTheProposal : Prop :=
  ∀ (p : Port) (n : W16) (tag number : Byte) (l : Chan) (s : State), s.offers p n 24 [tag, number] →
    s.routes p tag l →
    (p ≠ s.safetyPort → exec (.confirm p) s = .next ((s.taken p).replied p n (.bare .notSafety))) ∧
    (p = s.safetyPort → (s.env l).proposal = none →
      exec (.confirm p) s = .next ((s.taken p).replied p n (.bare .noProposal))) ∧
    ∀ x, p = s.safetyPort → (s.env l).proposal = some x →
      (number.toNat ≠ x.number → exec (.confirm p) s = .next ((s.taken p).replied p n (.bare .mismatch))) ∧
      (number.toNat = x.number → exec (.confirm p) s = .next
        ((handTo x.proposer .proposalResult { s.taken p with envs := vset s.envs l { s.env l with
          guarded := x.values, revision := (s.env l).revision + 1, proposal := none
          last := some ⟨x.proposer, x.number, .confirmed, s.period⟩ } }).replied p n
          (.okWith (wordBytes ((s.env l).revision + 1)))))

/-- REJECT, with every check of it in its order (06, R127, with R120 and the ends of R125). -/
def Obligations.RejectEndsTheProposal : Prop :=
  ∀ (p : Port) (n : W16) (tag number : Byte) (s : State), s.offers p n 25 [tag, number] →
    (s.phase = .config → exec (.reject p) s = .next ((s.taken p).replied p n (.bare .unfrozen))) ∧
    (s.phase = .operating → s.consts.lookup tag.toNat p = none →
      exec (.reject p) s = .next ((s.taken p).replied p n (.bare .unrouted))) ∧
    ∀ l, s.phase = .operating → s.consts.lookup tag.toNat p = some l →
      (s.consts.isFollower l = true → exec (.reject p) s = .next ((s.taken p).replied p n (.bare .tandem))) ∧
      (s.consts.isFollower l = false →
        (p ≠ s.safetyPort → exec (.reject p) s = .next ((s.taken p).replied p n (.bare .notSafety))) ∧
        (p = s.safetyPort → (s.env l).proposal = none →
          exec (.reject p) s = .next ((s.taken p).replied p n (.bare .noProposal))) ∧
        ∀ x, p = s.safetyPort → (s.env l).proposal = some x →
          (number.toNat ≠ x.number → exec (.reject p) s = .next ((s.taken p).replied p n (.bare .mismatch))) ∧
          (number.toNat = x.number → exec (.reject p) s = .next
            ((handTo x.proposer .proposalResult { s.taken p with envs := vset s.envs l { s.env l with
              proposal := none, last := some ⟨x.proposer, x.number, .rejected, s.period⟩ } }).replied p n
              (.bare .ok))))

/-- CANCEL_PROPOSAL, with every check of it in its order (06, R128, with R120 and the ends of R125). -/
def Obligations.CancelProposalEndsOnesOwn : Prop :=
  ∀ (p : Port) (n : W16) (tag : Byte) (s : State), s.offers p n 23 [tag] →
    (s.phase = .config → exec (.cancelProposal p) s = .next ((s.taken p).replied p n (.bare .unfrozen))) ∧
    (s.phase = .operating → s.consts.lookup tag.toNat p = none →
      exec (.cancelProposal p) s = .next ((s.taken p).replied p n (.bare .unrouted))) ∧
    ∀ l, s.phase = .operating → s.consts.lookup tag.toNat p = some l →
      (s.consts.isFollower l = true →
        exec (.cancelProposal p) s = .next ((s.taken p).replied p n (.bare .tandem))) ∧
      (s.consts.isFollower l = false →
        ((∀ x, (s.env l).proposal = some x → x.proposer ≠ p) →
          exec (.cancelProposal p) s = .next ((s.taken p).replied p n (.bare .noProposal))) ∧
        ∀ x, (s.env l).proposal = some x → x.proposer = p → exec (.cancelProposal p) s = .next
          ((handTo s.safetyPort .proposal { s.taken p with envs := vset s.envs l { s.env l with
            proposal := none, last := some ⟨x.proposer, x.number, .cancelled, s.period⟩ } }).replied p n
            (.bare .ok)))

/-! ### Requests to the Link Supervisor and the Reaction Controller -/

/-- LINK_UP: RANK, BUSY, then by the link state: DISCHARGED goes to CHARGING, PARKED to WAKING, and on to READY where
every module is ready already, DRAINING is answered STATE, any other state stays; the answer carries the link state
(05, R101, R105, R106). LINK_PARK and LINK_DOWN: RANK; where every present channel is in OFF or TRIPPED, LINK_PARK
brings READY and WAKING to PARKED, and LINK_DOWN any charged state to DRAINING, else the answer is STATE; a link that
is parked or down already stays (05, R105, R107, R108). -/
def Obligations.LinkRequestsMoveTheLink : Prop :=
  (∀ (p : Port) (n : W16) (s : State), s.offers p n 27 [] → s.phase = .operating →
    (s.rank p = 0 → exec (.linkUp p) s = .next ((s.taken p).replied p n (.bare .rank))) ∧
    (s.rank p ≠ 0 → s.linkReactionInService = true →
      exec (.linkUp p) s = .next ((s.taken p).replied p n (.bare .busy))) ∧
    (s.rank p ≠ 0 → s.linkReactionInService = false →
      (s.link.state = .discharged → exec (.linkUp p) s =
        .next ((changeLink .charging (s.taken p)).replied p n (.okWith [1]))) ∧
      (s.link.state = .parked → (∃ c, s.present c = true ∧ vget s.link.ready c = false) → exec (.linkUp p) s =
        .next ((changeLink .waking (s.taken p)).replied p n (.okWith [5]))) ∧
      (s.link.state = .parked → (∀ c, s.present c = true → vget s.link.ready c = true) → exec (.linkUp p) s =
        .next ((changeLink .ready (changeLink .waking (s.taken p))).replied p n (.okWith [3]))) ∧
      (s.link.state = .draining → exec (.linkUp p) s = .next ((s.taken p).replied p n (.bare .state))) ∧
      (s.link.state = .charging ∨ s.link.state = .settling ∨ s.link.state = .ready ∨ s.link.state = .waking →
        exec (.linkUp p) s = .next ((s.taken p).replied p n (.okWith (beBytes 1 s.link.state.index)))))) ∧
  ∀ (p : Port) (n : W16) (s : State) (idle : Prop), s.phase = .operating →
    (idle ↔ ∀ c, s.present c = true → s.chState c = .off ∨ s.chState c = .tripped) →
    (s.offers p n 28 [] →
      (s.rank p = 0 → exec (.linkPark p) s = .next ((s.taken p).replied p n (.bare .rank))) ∧
      (s.rank p ≠ 0 →
        (s.link.state = .ready ∨ s.link.state = .waking →
          (idle → exec (.linkPark p) s = .next ((changeLink .parked (s.taken p)).replied p n (.okWith [4]))) ∧
          (¬ idle → exec (.linkPark p) s = .next ((s.taken p).replied p n (.bare .state)))) ∧
        (s.link.state = .parked → exec (.linkPark p) s = .next ((s.taken p).replied p n (.okWith [4]))) ∧
        (s.link.state = .discharged ∨ s.link.state = .charging ∨ s.link.state = .settling ∨
          s.link.state = .draining → exec (.linkPark p) s = .next ((s.taken p).replied p n (.bare .state))))) ∧
    (s.offers p n 29 [] →
      (s.rank p = 0 → exec (.linkDown p) s = .next ((s.taken p).replied p n (.bare .rank))) ∧
      (s.rank p ≠ 0 →
        (s.link.state ≠ .discharged → s.link.state ≠ .draining →
          (idle → exec (.linkDown p) s = .next ((changeLink .draining (s.taken p)).replied p n (.okWith [6]))) ∧
          (¬ idle → exec (.linkDown p) s = .next ((s.taken p).replied p n (.bare .state)))) ∧
        (s.link.state = .discharged ∨ s.link.state = .draining → exec (.linkDown p) s =
          .next ((s.taken p).replied p n (.okWith (beBytes 1 s.link.state.index))))))

/-- SAFE_STOP: NOT_SAFETY from another port; the safety port's makes the detection and answers its handling.
SAFE_RELEASE: NOT_SAFETY, ACTIVE, BUSY; an accepted one clears the latch and hands SAFE_STATE, with the latch clear
already it changes nothing (07, R141, R152, R154). SET_MASK: NOT_SAFETY, then FIELD for a kind that is not ordinary or
is named twice; an accepted one replaces the mask set and pending reactions are taken (07, R137, R151). SET_MASK's
answer, the mask set as a counted list of kinds in order of number, is the model's choice (log 34). -/
def Obligations.SafetyMastersRequests : Prop :=
  (∀ (p : Port) (n : W16) (s : State), s.phase = .operating →
    (s.offers p n 31 [] →
      (p ≠ s.safetyPort → exec (.safeStop p) s = .next ((s.taken p).replied p n (.bare .notSafety))) ∧
      ∀ u h, p = s.safetyPort → detectSafeStop (s.taken p) = (u, h) →
        exec (.safeStop p) s = .next (u.replied p n (.okWith (beBytes 1 h.index)))) ∧
    (s.offers p n 32 [] →
      (p ≠ s.safetyPort → exec (.safeRelease p) s = .next ((s.taken p).replied p n (.bare .notSafety))) ∧
      (p = s.safetyPort →
        ((∃ i, (s.inputConfig i).binding = .safeStop ∧ vget s.react.stopLevels i = true) →
          exec (.safeRelease p) s = .next ((s.taken p).replied p n (.bare .active))) ∧
        ((∀ i, (s.inputConfig i).binding = .safeStop → vget s.react.stopLevels i = false) →
          (s.react.stopOpen = true → exec (.safeRelease p) s = .next ((s.taken p).replied p n (.bare .busy))) ∧
          (s.react.stopOpen = false →
            (s.react.latch = false → exec (.safeRelease p) s = .next ((s.taken p).replied p n (.bare .ok))) ∧
            (s.react.latch = true → exec (.safeRelease p) s = .next
              ((broadcast .safeState { s.taken p with react := { s.react with latch := false } }).replied p n
                (.bare .ok)))))))) ∧
  ∀ (p : Port) (n : W16) (fields : List Byte) (ns : List Nat) (s : State), s.phase = .operating →
    s.offers p n 33 fields → readList fields = some ns →
    (p ≠ s.safetyPort → exec (.setMask p) s = .next ((s.taken p).replied p n (.bare .notSafety))) ∧
    (p = s.safetyPort → (∃ x ∈ ns, x < 9 ∨ 12 < x) ∨ ¬ ns.Nodup →
      exec (.setMask p) s = .next ((s.taken p).replied p n (.bare .field))) ∧
    ∀ m : MaskSet, p = s.safetyPort → (∀ x ∈ ns, 9 ≤ x ∧ x ≤ 12) → ns.Nodup →
      m = ⟨decide (9 ∈ ns), decide (10 ∈ ns), decide (11 ∈ ns), decide (12 ∈ ns)⟩ →
      exec (.setMask p) s = .next ((takeReactions
        { s.taken p with react := { s.react with mask := m } }).replied p n (.okWith m.bytes))

/-! ### Requests to the Input Block and the Notice Unit -/

/-- INPUT_ACK: RANK, then FIELD for a list that is empty, names no input or names one twice; an accepted one clears
the flag and count of each listed input whose flag is set, but for a LEVEL input that is active, and answers the
outcomes in list order (08, R161, R162). SUBSCRIBE: FIELD for a kind that is no broadcast kind or is named twice; an
accepted one replaces the port's subscription set whole and answers it (10, R179). INPUT_ACK's outcomes as a counted
list (log 15) and SUBSCRIBE's answer, the set as a counted list of kinds in order of number (log 34), are the model's
choice. -/
def Obligations.InputAckAndSubscribe : Prop :=
  (∀ (p : Port) (n : W16) (fields : List Byte) (ns : List Nat) (s : State), s.phase = .operating →
    s.offers p n 35 fields → readList fields = some ns →
    (s.rank p = 0 → exec (.inputAck p) s = .next ((s.taken p).replied p n (.bare .rank))) ∧
    (s.rank p ≠ 0 → ns = [] ∨ (∃ x ∈ ns, 16 ≤ x) ∨ ¬ ns.Nodup →
      exec (.inputAck p) s = .next ((s.taken p).replied p n (.bare .field))) ∧
    ∀ is : List Input, s.rank p ≠ 0 → is ≠ [] → ns = is.map (·.val) → ns.Nodup → ∃ u : State,
      exec (.inputAck p) s = .next (u.replied p n (.okWith (listBytes (is.map fun i =>
        [if (s.inp i).flag = false then 2
          else if (s.inputConfig i).mode = .level ∧ (s.inp i).level = true then 1 else 0])))) ∧
      u = { s.taken p with inputs := u.inputs } ∧
      ∀ i, u.inp i = if i ∈ is ∧ (s.inp i).flag = true ∧
          ¬ ((s.inputConfig i).mode = .level ∧ (s.inp i).level = true) then
        { s.inp i with flag := false, count := 0 } else s.inp i) ∧
  ∀ (p : Port) (n : W16) (fields : List Byte) (ns : List Nat) (s : State), s.phase = .operating →
    s.offers p n 37 fields → readList fields = some ns →
    ((∃ x ∈ ns, x < 5 ∨ 11 < x) ∨ ¬ ns.Nodup →
      exec (.subscribe p) s = .next ((s.taken p).replied p n (.bare .field))) ∧
    ((∀ x ∈ ns, 5 ≤ x ∧ x ≤ 11) → ns.Nodup → ∃ set : BitVec 12,
      (∀ k, set.getLsbD k = decide (k ∈ ns)) ∧
      exec (.subscribe p) s = .next ({ s.taken p with
        ports := vset (s.taken p).ports p { (s.taken p).port p with subscribed := set } }.replied p n
          (.okWith (kindList set))))

/-- SET_PACING, with every check of it in its order; a running pacing timer, the summary, the notice slot and NL stay
as they were, on ports as every command leaves them; the new interval is counted from the next frame formed (10,
R180). RANGE with no field is the model's choice (log 18). -/
def Obligations.SetPacingStoresTheInterval : Prop :=
  ∀ (p : Port) (n : W16) (a b : Byte) (ms : Nat) (s : State), s.offers p n 38 [a, b] → ms = 256 * a.toNat + b.toNat →
    (s.phase = .config → exec (.setPacing p) s = .next ((s.taken p).replied p n (.bare .unfrozen))) ∧
    (s.phase = .operating → 50 < ms → exec (.setPacing p) s = .next ((s.taken p).replied p n (.bare .range))) ∧
    (s.phase = .operating → ms ≤ 50 → ∃ t, exec (.setPacing p) s = .next t ∧
      t = { s.taken p with
        ports := vset (s.taken p).ports p { (s.taken p).port p with pacingMs := ms } }.replied p n
          (.okWith (beBytes 2 ms)) ∧
      (t.port p).pacingMs = ms ∧
      (s.portsOk → (t.port p).pacing = (s.port p).pacing ∧ (t.port p).summary = (s.port p).summary ∧
        (t.port p).notice = (s.port p).notice ∧ t.nl p = s.nl p) ∧
      ∀ x : PortBlock, x.pacingMs = ms → x.summary ≠ 0 → x.pacing = none → x.notice = none →
        (x.formNotice t.consts t.period).pacing = if s.periods ms = 0 then none else some (s.periods ms))

/-! ### What every step keeps -/

/-- Every condition of a safe state holds at reset. -/
def Obligations.SafetyConditionsHoldAtReset : Prop :=
  State.reset.phaseOk ∧ State.reset.gatesOk ∧ State.reset.grantsOk ∧ State.reset.queuesOk ∧ State.reset.waitingOk ∧
    State.reset.reactionsOk ∧ State.reset.takingOk ∧ State.reset.drivingOk ∧ State.reset.demandsOk ∧ State.reset.portsOk ∧
    State.reset.limitsOk

/-- In CONFIG nothing drives and nothing is held, and in OPERATING the constants have passed FREEZE's checks: every step
keeps this (11, R182, R184). -/
def Obligations.StepsKeepThePhases : Prop := ∀ s t : State, s.phaseOk → step s = .next t → t.phaseOk

/-- A gate enable is on just while its channel is present and driving and the link is READY: every step keeps this (01,
R5). -/
def Obligations.StepsKeepTheGates : Prop := ∀ s t : State, s.phaseOk → s.gatesOk → step s = .next t → t.gatesOk

/-- The grants sum to the budget at most, each within its request, and a channel whose gates are off requests nothing:
every step keeps this (05, R112, R113). -/
def Obligations.StepsKeepTheGrants : Prop := ∀ s t : State, s.grantsOk → step s = .next t → t.grantsOk

/-- Queues are ordered, within the horizon, of 16 entries at most, and empty without a holder: every step keeps this
(03, R49, R53, R54, R67). -/
def Obligations.StepsKeepTheQueues : Prop := ∀ s t : State, s.phaseOk → s.queuesOk → step s = .next t → t.queuesOk

/-- Waiting lists are in descending rank, of distinct ports, none the holder: every step keeps this (02, R25, R27). -/
def Obligations.StepsKeepTheWaitingLists : Prop :=
  ∀ s t : State, s.phaseOk → s.waitingOk → step s = .next t → t.waitingOk

/-- The pending set is in taking order with no key twice and no trip kind, and every step keeps this (07, R134, R136).
Every step leaves a reaction in service or no pending entry takeable, so that a taking acts only after the events that
change what may be taken (07, R137), and between commands no reaction waits for a take (log 31). -/
def Obligations.StepsKeepThePendingSet : Prop :=
  (∀ s t : State, s.reactionsOk → step s = .next t → t.reactionsOk) ∧
  ∀ s t : State, s.phaseOk → s.takingOk → step s = .next t → t.takingOk

/-- A driving channel has a READY link, a running one a holder, and under the safe latch no channel is in RELEASING,
RUN, HOLDING or RAMPING: every step keeps this (02, R36; 05, R95; 07, R140 to R142). The active demand of a channel in
OFF, RELEASING, RUN or HOLDING carries the id target, so a ramp from a demand held before any take does: every step
keeps this (01, R8, R12, R18; 03, R51; for the zero demand's id the model's reading, log 7). -/
def Obligations.StepsKeepDrivingSafe : Prop :=
  (∀ s t : State, s.phaseOk → s.drivingOk → step s = .next t → t.drivingOk) ∧
  ∀ s t : State, s.demandsOk → step s = .next t → t.demandsOk

/-- Ports are settled, with four frames at most, DOWN just without link signal: every step keeps this (09, R166 to
R168, R171; 10, R178). -/
def Obligations.StepsKeepThePorts : Prop := ∀ s t : State, s.portsOk → step s = .next t → t.portsOk

/-- A channel enters RELEASING only by an ENGAGE, and only with the safe latch clear (01, R18). -/
def Obligations.OnlyEngageReleases : Prop :=
  ∀ (s t : State) (c : Chan), step s = .next t → (s.eng c).state ≠ .releasing → (t.eng c).state = .releasing →
    s.react.latch = false ∧ ∃ p rest, s.pending = .engage p :: rest

/-- The safe latch is cleared only by the safety port's SAFE_RELEASE (07, R140, R152). -/
def Obligations.OnlySafeReleaseClearsTheLatch : Prop :=
  ∀ s t : State, step s = .next t → s.react.latch = true → t.react.latch = false →
    ∃ p rest, s.pending = .safeRelease p :: rest ∧ p = s.safetyPort ∧ s.phase = .operating

/-- Committed guarded values change only by the safety port's CONFIRM, by the FREEZE that forms the envelopes and by a
reset (06, R117, R122, R125, R126, R131). In OPERATING every channel's continuous current is at most its peak, the peak
at most the rating ceiling of each channel of its group, and each value in its range; so are the values of a pending
proposal, whose proposer is never the safety port: every step keeps this (06, R116, R122, R124). -/
def Obligations.OnlyConfirmChangesTheLimits : Prop :=
  (∀ (s t : State) (c : Chan), step s = .next t → (t.env c).guarded ≠ (s.env c).guarded →
    (∃ p rest, s.pending = .confirm p :: rest ∧ p = s.safetyPort) ∨
    (∃ p rest, s.pending = .freeze p :: rest ∧ s.phase = .config) ∨
    ∃ pins rest, s.pending = .powerOn pins :: rest ∨ s.pending = .line pins :: rest ∨
      s.pending = .commanded pins :: rest) ∧
  ∀ s t : State, s.limitsOk → step s = .next t → t.limitsOk

/-- The constants are fixed from FREEZE to the next reset, and only WRITE_CONSTANT from the safety port writes them in
CONFIG; POWER_ON returns them to Table 11-1 (11, R182, R183, R186). -/
def Obligations.ConstantsChangeOnlyInConfig : Prop :=
  ∀ s t : State, step s = .next t → t.consts ≠ s.consts →
    (∃ p rest, s.pending = .writeConstant p :: rest ∧ p = s.safetyPort ∧ s.phase = .config) ∨
    (∃ pins rest, s.pending = .powerOn pins :: rest ∧ t.consts = Constants.initial)
end

