-- ==== Sys2Proof/Laws/State.lean ====
section
/-! SUPPORT. The small lemmas of State: the accessors in one spelling, and, for each update with one name, one lemma for
each field it leaves alone. -/

namespace Sys2Proof.Machine

/-! The accessors are the entries of their tables. -/

@[simp] theorem eng_def (s : State) (c : Chan) : s.eng c = vget s.engines c := rfl
@[simp] theorem queue_def (s : State) (c : Chan) : s.queue c = vget s.queues c := rfl
@[simp] theorem auRec_def (s : State) (c : Chan) : s.auRec c = vget s.auth c := rfl
@[simp] theorem env_def (s : State) (c : Chan) : s.env c = vget s.envs c := rfl
@[simp] theorem port_def (s : State) (p : Port) : s.port p = vget s.ports p := rfl
@[simp] theorem inp_def (s : State) (i : Input) : s.inp i = vget s.inputs i := rfl
@[simp] theorem present_def (s : State) (c : Chan) : s.present c = vget s.consts.present c := rfl
@[simp] theorem group_def (s : State) (l : Chan) : s.group l = s.consts.group l := rfl
@[simp] theorem lead_def (s : State) (c : Chan) : s.lead c = s.consts.lead c := rfl
@[simp] theorem rank_def (s : State) (p : Port) : s.rank p = vget s.consts.rank p := rfl
@[simp] theorem periods_def (s : State) (ms : Nat) : s.periods ms = s.consts.periods ms := rfl
@[simp] theorem inputConfig_def (s : State) (i : Input) : s.inputConfig i = vget s.consts.inputs i := rfl

/-! `handTo` changes ports alone. -/
@[simp] theorem handTo_phase (p : Port) (k : NoticeKind) (s : State) : (handTo p k s).phase = s.phase := rfl
@[simp] theorem handTo_safetyPort (p : Port) (k : NoticeKind) (s : State) : (handTo p k s).safetyPort = s.safetyPort := rfl
@[simp] theorem handTo_retained (p : Port) (k : NoticeKind) (s : State) : (handTo p k s).retained = s.retained := rfl
@[simp] theorem handTo_resetting (p : Port) (k : NoticeKind) (s : State) : (handTo p k s).resetting = s.resetting := rfl
@[simp] theorem handTo_consts (p : Port) (k : NoticeKind) (s : State) : (handTo p k s).consts = s.consts := rfl
@[simp] theorem handTo_signals (p : Port) (k : NoticeKind) (s : State) : (handTo p k s).signals = s.signals := rfl
@[simp] theorem handTo_pins (p : Port) (k : NoticeKind) (s : State) : (handTo p k s).pins = s.pins := rfl
@[simp] theorem handTo_period (p : Port) (k : NoticeKind) (s : State) : (handTo p k s).period = s.period := rfl
@[simp] theorem handTo_started (p : Port) (k : NoticeKind) (s : State) : (handTo p k s).started = s.started := rfl
@[simp] theorem handTo_auth (p : Port) (k : NoticeKind) (s : State) : (handTo p k s).auth = s.auth := rfl
@[simp] theorem handTo_queues (p : Port) (k : NoticeKind) (s : State) : (handTo p k s).queues = s.queues := rfl
@[simp] theorem handTo_engines (p : Port) (k : NoticeKind) (s : State) : (handTo p k s).engines = s.engines := rfl
@[simp] theorem handTo_envs (p : Port) (k : NoticeKind) (s : State) : (handTo p k s).envs = s.envs := rfl
@[simp] theorem handTo_link (p : Port) (k : NoticeKind) (s : State) : (handTo p k s).link = s.link := rfl
@[simp] theorem handTo_allot (p : Port) (k : NoticeKind) (s : State) : (handTo p k s).allot = s.allot := rfl
@[simp] theorem handTo_react (p : Port) (k : NoticeKind) (s : State) : (handTo p k s).react = s.react := rfl
@[simp] theorem handTo_inputs (p : Port) (k : NoticeKind) (s : State) : (handTo p k s).inputs = s.inputs := rfl
@[simp] theorem handTo_wire (p : Port) (k : NoticeKind) (s : State) : (handTo p k s).wire = s.wire := rfl
@[simp] theorem handTo_pending (p : Port) (k : NoticeKind) (s : State) : (handTo p k s).pending = s.pending := rfl

/-! `broadcast` changes ports alone. -/
@[simp] theorem broadcast_phase (k : NoticeKind) (s : State) : (broadcast k s).phase = s.phase := rfl
@[simp] theorem broadcast_safetyPort (k : NoticeKind) (s : State) : (broadcast k s).safetyPort = s.safetyPort := rfl
@[simp] theorem broadcast_retained (k : NoticeKind) (s : State) : (broadcast k s).retained = s.retained := rfl
@[simp] theorem broadcast_resetting (k : NoticeKind) (s : State) : (broadcast k s).resetting = s.resetting := rfl
@[simp] theorem broadcast_consts (k : NoticeKind) (s : State) : (broadcast k s).consts = s.consts := rfl
@[simp] theorem broadcast_signals (k : NoticeKind) (s : State) : (broadcast k s).signals = s.signals := rfl
@[simp] theorem broadcast_pins (k : NoticeKind) (s : State) : (broadcast k s).pins = s.pins := rfl
@[simp] theorem broadcast_period (k : NoticeKind) (s : State) : (broadcast k s).period = s.period := rfl
@[simp] theorem broadcast_started (k : NoticeKind) (s : State) : (broadcast k s).started = s.started := rfl
@[simp] theorem broadcast_auth (k : NoticeKind) (s : State) : (broadcast k s).auth = s.auth := rfl
@[simp] theorem broadcast_queues (k : NoticeKind) (s : State) : (broadcast k s).queues = s.queues := rfl
@[simp] theorem broadcast_engines (k : NoticeKind) (s : State) : (broadcast k s).engines = s.engines := rfl
@[simp] theorem broadcast_envs (k : NoticeKind) (s : State) : (broadcast k s).envs = s.envs := rfl
@[simp] theorem broadcast_link (k : NoticeKind) (s : State) : (broadcast k s).link = s.link := rfl
@[simp] theorem broadcast_allot (k : NoticeKind) (s : State) : (broadcast k s).allot = s.allot := rfl
@[simp] theorem broadcast_react (k : NoticeKind) (s : State) : (broadcast k s).react = s.react := rfl
@[simp] theorem broadcast_inputs (k : NoticeKind) (s : State) : (broadcast k s).inputs = s.inputs := rfl
@[simp] theorem broadcast_wire (k : NoticeKind) (s : State) : (broadcast k s).wire = s.wire := rfl
@[simp] theorem broadcast_pending (k : NoticeKind) (s : State) : (broadcast k s).pending = s.pending := rfl

/-! `flushQueue` changes queues alone. -/
@[simp] theorem flushQueue_phase (c : Chan) (s : State) : (flushQueue c s).phase = s.phase := rfl
@[simp] theorem flushQueue_safetyPort (c : Chan) (s : State) : (flushQueue c s).safetyPort = s.safetyPort := rfl
@[simp] theorem flushQueue_retained (c : Chan) (s : State) : (flushQueue c s).retained = s.retained := rfl
@[simp] theorem flushQueue_resetting (c : Chan) (s : State) : (flushQueue c s).resetting = s.resetting := rfl
@[simp] theorem flushQueue_consts (c : Chan) (s : State) : (flushQueue c s).consts = s.consts := rfl
@[simp] theorem flushQueue_signals (c : Chan) (s : State) : (flushQueue c s).signals = s.signals := rfl
@[simp] theorem flushQueue_pins (c : Chan) (s : State) : (flushQueue c s).pins = s.pins := rfl
@[simp] theorem flushQueue_period (c : Chan) (s : State) : (flushQueue c s).period = s.period := rfl
@[simp] theorem flushQueue_started (c : Chan) (s : State) : (flushQueue c s).started = s.started := rfl
@[simp] theorem flushQueue_auth (c : Chan) (s : State) : (flushQueue c s).auth = s.auth := rfl
@[simp] theorem flushQueue_engines (c : Chan) (s : State) : (flushQueue c s).engines = s.engines := rfl
@[simp] theorem flushQueue_envs (c : Chan) (s : State) : (flushQueue c s).envs = s.envs := rfl
@[simp] theorem flushQueue_link (c : Chan) (s : State) : (flushQueue c s).link = s.link := rfl
@[simp] theorem flushQueue_allot (c : Chan) (s : State) : (flushQueue c s).allot = s.allot := rfl
@[simp] theorem flushQueue_react (c : Chan) (s : State) : (flushQueue c s).react = s.react := rfl
@[simp] theorem flushQueue_inputs (c : Chan) (s : State) : (flushQueue c s).inputs = s.inputs := rfl
@[simp] theorem flushQueue_ports (c : Chan) (s : State) : (flushQueue c s).ports = s.ports := rfl
@[simp] theorem flushQueue_wire (c : Chan) (s : State) : (flushQueue c s).wire = s.wire := rfl
@[simp] theorem flushQueue_pending (c : Chan) (s : State) : (flushQueue c s).pending = s.pending := rfl

/-! `flushAll` changes queues alone. -/
@[simp] theorem flushAll_phase (s : State) : (flushAll s).phase = s.phase := rfl
@[simp] theorem flushAll_safetyPort (s : State) : (flushAll s).safetyPort = s.safetyPort := rfl
@[simp] theorem flushAll_retained (s : State) : (flushAll s).retained = s.retained := rfl
@[simp] theorem flushAll_resetting (s : State) : (flushAll s).resetting = s.resetting := rfl
@[simp] theorem flushAll_consts (s : State) : (flushAll s).consts = s.consts := rfl
@[simp] theorem flushAll_signals (s : State) : (flushAll s).signals = s.signals := rfl
@[simp] theorem flushAll_pins (s : State) : (flushAll s).pins = s.pins := rfl
@[simp] theorem flushAll_period (s : State) : (flushAll s).period = s.period := rfl
@[simp] theorem flushAll_started (s : State) : (flushAll s).started = s.started := rfl
@[simp] theorem flushAll_auth (s : State) : (flushAll s).auth = s.auth := rfl
@[simp] theorem flushAll_engines (s : State) : (flushAll s).engines = s.engines := rfl
@[simp] theorem flushAll_envs (s : State) : (flushAll s).envs = s.envs := rfl
@[simp] theorem flushAll_link (s : State) : (flushAll s).link = s.link := rfl
@[simp] theorem flushAll_allot (s : State) : (flushAll s).allot = s.allot := rfl
@[simp] theorem flushAll_react (s : State) : (flushAll s).react = s.react := rfl
@[simp] theorem flushAll_inputs (s : State) : (flushAll s).inputs = s.inputs := rfl
@[simp] theorem flushAll_ports (s : State) : (flushAll s).ports = s.ports := rfl
@[simp] theorem flushAll_wire (s : State) : (flushAll s).wire = s.wire := rfl
@[simp] theorem flushAll_pending (s : State) : (flushAll s).pending = s.pending := rfl

/-! `recompute` changes allot alone. -/
@[simp] theorem recompute_phase (s : State) : (recompute s).phase = s.phase := rfl
@[simp] theorem recompute_safetyPort (s : State) : (recompute s).safetyPort = s.safetyPort := rfl
@[simp] theorem recompute_retained (s : State) : (recompute s).retained = s.retained := rfl
@[simp] theorem recompute_resetting (s : State) : (recompute s).resetting = s.resetting := rfl
@[simp] theorem recompute_consts (s : State) : (recompute s).consts = s.consts := rfl
@[simp] theorem recompute_signals (s : State) : (recompute s).signals = s.signals := rfl
@[simp] theorem recompute_pins (s : State) : (recompute s).pins = s.pins := rfl
@[simp] theorem recompute_period (s : State) : (recompute s).period = s.period := rfl
@[simp] theorem recompute_started (s : State) : (recompute s).started = s.started := rfl
@[simp] theorem recompute_auth (s : State) : (recompute s).auth = s.auth := rfl
@[simp] theorem recompute_queues (s : State) : (recompute s).queues = s.queues := rfl
@[simp] theorem recompute_engines (s : State) : (recompute s).engines = s.engines := rfl
@[simp] theorem recompute_envs (s : State) : (recompute s).envs = s.envs := rfl
@[simp] theorem recompute_link (s : State) : (recompute s).link = s.link := rfl
@[simp] theorem recompute_react (s : State) : (recompute s).react = s.react := rfl
@[simp] theorem recompute_inputs (s : State) : (recompute s).inputs = s.inputs := rfl
@[simp] theorem recompute_ports (s : State) : (recompute s).ports = s.ports := rfl
@[simp] theorem recompute_wire (s : State) : (recompute s).wire = s.wire := rfl
@[simp] theorem recompute_pending (s : State) : (recompute s).pending = s.pending := rfl

/-! `setRequest` changes allot alone. -/
@[simp] theorem setRequest_phase (c : Chan) (r : Nat) (s : State) : (setRequest c r s).phase = s.phase := rfl
@[simp] theorem setRequest_safetyPort (c : Chan) (r : Nat) (s : State) : (setRequest c r s).safetyPort = s.safetyPort := rfl
@[simp] theorem setRequest_retained (c : Chan) (r : Nat) (s : State) : (setRequest c r s).retained = s.retained := rfl
@[simp] theorem setRequest_resetting (c : Chan) (r : Nat) (s : State) : (setRequest c r s).resetting = s.resetting := rfl
@[simp] theorem setRequest_consts (c : Chan) (r : Nat) (s : State) : (setRequest c r s).consts = s.consts := rfl
@[simp] theorem setRequest_signals (c : Chan) (r : Nat) (s : State) : (setRequest c r s).signals = s.signals := rfl
@[simp] theorem setRequest_pins (c : Chan) (r : Nat) (s : State) : (setRequest c r s).pins = s.pins := rfl
@[simp] theorem setRequest_period (c : Chan) (r : Nat) (s : State) : (setRequest c r s).period = s.period := rfl
@[simp] theorem setRequest_started (c : Chan) (r : Nat) (s : State) : (setRequest c r s).started = s.started := rfl
@[simp] theorem setRequest_auth (c : Chan) (r : Nat) (s : State) : (setRequest c r s).auth = s.auth := rfl
@[simp] theorem setRequest_queues (c : Chan) (r : Nat) (s : State) : (setRequest c r s).queues = s.queues := rfl
@[simp] theorem setRequest_engines (c : Chan) (r : Nat) (s : State) : (setRequest c r s).engines = s.engines := rfl
@[simp] theorem setRequest_envs (c : Chan) (r : Nat) (s : State) : (setRequest c r s).envs = s.envs := rfl
@[simp] theorem setRequest_link (c : Chan) (r : Nat) (s : State) : (setRequest c r s).link = s.link := rfl
@[simp] theorem setRequest_react (c : Chan) (r : Nat) (s : State) : (setRequest c r s).react = s.react := rfl
@[simp] theorem setRequest_inputs (c : Chan) (r : Nat) (s : State) : (setRequest c r s).inputs = s.inputs := rfl
@[simp] theorem setRequest_ports (c : Chan) (r : Nat) (s : State) : (setRequest c r s).ports = s.ports := rfl
@[simp] theorem setRequest_wire (c : Chan) (r : Nat) (s : State) : (setRequest c r s).wire = s.wire := rfl
@[simp] theorem setRequest_pending (c : Chan) (r : Nat) (s : State) : (setRequest c r s).pending = s.pending := rfl

/-! `sendGate` changes engines and wire alone. -/
@[simp] theorem sendGate_phase (c : Chan) (t : W16) (d : Duties) (e : Bool) (s : State) : (sendGate c t d e s).phase = s.phase := rfl
@[simp] theorem sendGate_safetyPort (c : Chan) (t : W16) (d : Duties) (e : Bool) (s : State) : (sendGate c t d e s).safetyPort = s.safetyPort := rfl
@[simp] theorem sendGate_retained (c : Chan) (t : W16) (d : Duties) (e : Bool) (s : State) : (sendGate c t d e s).retained = s.retained := rfl
@[simp] theorem sendGate_resetting (c : Chan) (t : W16) (d : Duties) (e : Bool) (s : State) : (sendGate c t d e s).resetting = s.resetting := rfl
@[simp] theorem sendGate_consts (c : Chan) (t : W16) (d : Duties) (e : Bool) (s : State) : (sendGate c t d e s).consts = s.consts := rfl
@[simp] theorem sendGate_signals (c : Chan) (t : W16) (d : Duties) (e : Bool) (s : State) : (sendGate c t d e s).signals = s.signals := rfl
@[simp] theorem sendGate_pins (c : Chan) (t : W16) (d : Duties) (e : Bool) (s : State) : (sendGate c t d e s).pins = s.pins := rfl
@[simp] theorem sendGate_period (c : Chan) (t : W16) (d : Duties) (e : Bool) (s : State) : (sendGate c t d e s).period = s.period := rfl
@[simp] theorem sendGate_started (c : Chan) (t : W16) (d : Duties) (e : Bool) (s : State) : (sendGate c t d e s).started = s.started := rfl
@[simp] theorem sendGate_auth (c : Chan) (t : W16) (d : Duties) (e : Bool) (s : State) : (sendGate c t d e s).auth = s.auth := rfl
@[simp] theorem sendGate_queues (c : Chan) (t : W16) (d : Duties) (e : Bool) (s : State) : (sendGate c t d e s).queues = s.queues := rfl
@[simp] theorem sendGate_envs (c : Chan) (t : W16) (d : Duties) (e : Bool) (s : State) : (sendGate c t d e s).envs = s.envs := rfl
@[simp] theorem sendGate_link (c : Chan) (t : W16) (d : Duties) (e : Bool) (s : State) : (sendGate c t d e s).link = s.link := rfl
@[simp] theorem sendGate_allot (c : Chan) (t : W16) (d : Duties) (e : Bool) (s : State) : (sendGate c t d e s).allot = s.allot := rfl
@[simp] theorem sendGate_react (c : Chan) (t : W16) (d : Duties) (e : Bool) (s : State) : (sendGate c t d e s).react = s.react := rfl
@[simp] theorem sendGate_inputs (c : Chan) (t : W16) (d : Duties) (e : Bool) (s : State) : (sendGate c t d e s).inputs = s.inputs := rfl
@[simp] theorem sendGate_ports (c : Chan) (t : W16) (d : Duties) (e : Bool) (s : State) : (sendGate c t d e s).ports = s.ports := rfl
@[simp] theorem sendGate_pending (c : Chan) (t : W16) (d : Duties) (e : Bool) (s : State) : (sendGate c t d e s).pending = s.pending := rfl

/-! `dropHandover` changes auth alone. -/
@[simp] theorem dropHandover_phase (l : Chan) (s : State) : (dropHandover l s).phase = s.phase := rfl
@[simp] theorem dropHandover_safetyPort (l : Chan) (s : State) : (dropHandover l s).safetyPort = s.safetyPort := rfl
@[simp] theorem dropHandover_retained (l : Chan) (s : State) : (dropHandover l s).retained = s.retained := rfl
@[simp] theorem dropHandover_resetting (l : Chan) (s : State) : (dropHandover l s).resetting = s.resetting := rfl
@[simp] theorem dropHandover_consts (l : Chan) (s : State) : (dropHandover l s).consts = s.consts := rfl
@[simp] theorem dropHandover_signals (l : Chan) (s : State) : (dropHandover l s).signals = s.signals := rfl
@[simp] theorem dropHandover_pins (l : Chan) (s : State) : (dropHandover l s).pins = s.pins := rfl
@[simp] theorem dropHandover_period (l : Chan) (s : State) : (dropHandover l s).period = s.period := rfl
@[simp] theorem dropHandover_started (l : Chan) (s : State) : (dropHandover l s).started = s.started := rfl
@[simp] theorem dropHandover_queues (l : Chan) (s : State) : (dropHandover l s).queues = s.queues := rfl
@[simp] theorem dropHandover_engines (l : Chan) (s : State) : (dropHandover l s).engines = s.engines := rfl
@[simp] theorem dropHandover_envs (l : Chan) (s : State) : (dropHandover l s).envs = s.envs := rfl
@[simp] theorem dropHandover_link (l : Chan) (s : State) : (dropHandover l s).link = s.link := rfl
@[simp] theorem dropHandover_allot (l : Chan) (s : State) : (dropHandover l s).allot = s.allot := rfl
@[simp] theorem dropHandover_react (l : Chan) (s : State) : (dropHandover l s).react = s.react := rfl
@[simp] theorem dropHandover_inputs (l : Chan) (s : State) : (dropHandover l s).inputs = s.inputs := rfl
@[simp] theorem dropHandover_ports (l : Chan) (s : State) : (dropHandover l s).ports = s.ports := rfl
@[simp] theorem dropHandover_wire (l : Chan) (s : State) : (dropHandover l s).wire = s.wire := rfl
@[simp] theorem dropHandover_pending (l : Chan) (s : State) : (dropHandover l s).pending = s.pending := rfl

/-! `recordStart` changes engines alone. -/
@[simp] theorem recordStart_phase (l : Chan) (n : Nat) (s : State) : (recordStart l n s).phase = s.phase := rfl
@[simp] theorem recordStart_safetyPort (l : Chan) (n : Nat) (s : State) : (recordStart l n s).safetyPort = s.safetyPort := rfl
@[simp] theorem recordStart_retained (l : Chan) (n : Nat) (s : State) : (recordStart l n s).retained = s.retained := rfl
@[simp] theorem recordStart_resetting (l : Chan) (n : Nat) (s : State) : (recordStart l n s).resetting = s.resetting := rfl
@[simp] theorem recordStart_consts (l : Chan) (n : Nat) (s : State) : (recordStart l n s).consts = s.consts := rfl
@[simp] theorem recordStart_signals (l : Chan) (n : Nat) (s : State) : (recordStart l n s).signals = s.signals := rfl
@[simp] theorem recordStart_pins (l : Chan) (n : Nat) (s : State) : (recordStart l n s).pins = s.pins := rfl
@[simp] theorem recordStart_period (l : Chan) (n : Nat) (s : State) : (recordStart l n s).period = s.period := rfl
@[simp] theorem recordStart_started (l : Chan) (n : Nat) (s : State) : (recordStart l n s).started = s.started := rfl
@[simp] theorem recordStart_auth (l : Chan) (n : Nat) (s : State) : (recordStart l n s).auth = s.auth := rfl
@[simp] theorem recordStart_queues (l : Chan) (n : Nat) (s : State) : (recordStart l n s).queues = s.queues := rfl
@[simp] theorem recordStart_envs (l : Chan) (n : Nat) (s : State) : (recordStart l n s).envs = s.envs := rfl
@[simp] theorem recordStart_link (l : Chan) (n : Nat) (s : State) : (recordStart l n s).link = s.link := rfl
@[simp] theorem recordStart_allot (l : Chan) (n : Nat) (s : State) : (recordStart l n s).allot = s.allot := rfl
@[simp] theorem recordStart_react (l : Chan) (n : Nat) (s : State) : (recordStart l n s).react = s.react := rfl
@[simp] theorem recordStart_inputs (l : Chan) (n : Nat) (s : State) : (recordStart l n s).inputs = s.inputs := rfl
@[simp] theorem recordStart_ports (l : Chan) (n : Nat) (s : State) : (recordStart l n s).ports = s.ports := rfl
@[simp] theorem recordStart_wire (l : Chan) (n : Nat) (s : State) : (recordStart l n s).wire = s.wire := rfl
@[simp] theorem recordStart_pending (l : Chan) (n : Nat) (s : State) : (recordStart l n s).pending = s.pending := rfl

/-! `pendReport` changes react alone. -/
@[simp] theorem pendReport_phase (k : FaultKind) (sc : Scope) (e : Option W16) (s : State) : (pendReport k sc e s).phase = s.phase := rfl
@[simp] theorem pendReport_safetyPort (k : FaultKind) (sc : Scope) (e : Option W16) (s : State) : (pendReport k sc e s).safetyPort = s.safetyPort := rfl
@[simp] theorem pendReport_retained (k : FaultKind) (sc : Scope) (e : Option W16) (s : State) : (pendReport k sc e s).retained = s.retained := rfl
@[simp] theorem pendReport_resetting (k : FaultKind) (sc : Scope) (e : Option W16) (s : State) : (pendReport k sc e s).resetting = s.resetting := rfl
@[simp] theorem pendReport_consts (k : FaultKind) (sc : Scope) (e : Option W16) (s : State) : (pendReport k sc e s).consts = s.consts := rfl
@[simp] theorem pendReport_signals (k : FaultKind) (sc : Scope) (e : Option W16) (s : State) : (pendReport k sc e s).signals = s.signals := rfl
@[simp] theorem pendReport_pins (k : FaultKind) (sc : Scope) (e : Option W16) (s : State) : (pendReport k sc e s).pins = s.pins := rfl
@[simp] theorem pendReport_period (k : FaultKind) (sc : Scope) (e : Option W16) (s : State) : (pendReport k sc e s).period = s.period := rfl
@[simp] theorem pendReport_started (k : FaultKind) (sc : Scope) (e : Option W16) (s : State) : (pendReport k sc e s).started = s.started := rfl
@[simp] theorem pendReport_auth (k : FaultKind) (sc : Scope) (e : Option W16) (s : State) : (pendReport k sc e s).auth = s.auth := rfl
@[simp] theorem pendReport_queues (k : FaultKind) (sc : Scope) (e : Option W16) (s : State) : (pendReport k sc e s).queues = s.queues := rfl
@[simp] theorem pendReport_engines (k : FaultKind) (sc : Scope) (e : Option W16) (s : State) : (pendReport k sc e s).engines = s.engines := rfl
@[simp] theorem pendReport_envs (k : FaultKind) (sc : Scope) (e : Option W16) (s : State) : (pendReport k sc e s).envs = s.envs := rfl
@[simp] theorem pendReport_link (k : FaultKind) (sc : Scope) (e : Option W16) (s : State) : (pendReport k sc e s).link = s.link := rfl
@[simp] theorem pendReport_allot (k : FaultKind) (sc : Scope) (e : Option W16) (s : State) : (pendReport k sc e s).allot = s.allot := rfl
@[simp] theorem pendReport_inputs (k : FaultKind) (sc : Scope) (e : Option W16) (s : State) : (pendReport k sc e s).inputs = s.inputs := rfl
@[simp] theorem pendReport_ports (k : FaultKind) (sc : Scope) (e : Option W16) (s : State) : (pendReport k sc e s).ports = s.ports := rfl
@[simp] theorem pendReport_wire (k : FaultKind) (sc : Scope) (e : Option W16) (s : State) : (pendReport k sc e s).wire = s.wire := rfl
@[simp] theorem pendReport_pending (k : FaultKind) (sc : Scope) (e : Option W16) (s : State) : (pendReport k sc e s).pending = s.pending := rfl

/-! `putInService` changes react alone. -/
@[simp] theorem putInService_phase (x : PendingEntry) (s : State) : (putInService x s).phase = s.phase := rfl
@[simp] theorem putInService_safetyPort (x : PendingEntry) (s : State) : (putInService x s).safetyPort = s.safetyPort := rfl
@[simp] theorem putInService_retained (x : PendingEntry) (s : State) : (putInService x s).retained = s.retained := rfl
@[simp] theorem putInService_resetting (x : PendingEntry) (s : State) : (putInService x s).resetting = s.resetting := rfl
@[simp] theorem putInService_consts (x : PendingEntry) (s : State) : (putInService x s).consts = s.consts := rfl
@[simp] theorem putInService_signals (x : PendingEntry) (s : State) : (putInService x s).signals = s.signals := rfl
@[simp] theorem putInService_pins (x : PendingEntry) (s : State) : (putInService x s).pins = s.pins := rfl
@[simp] theorem putInService_period (x : PendingEntry) (s : State) : (putInService x s).period = s.period := rfl
@[simp] theorem putInService_started (x : PendingEntry) (s : State) : (putInService x s).started = s.started := rfl
@[simp] theorem putInService_auth (x : PendingEntry) (s : State) : (putInService x s).auth = s.auth := rfl
@[simp] theorem putInService_queues (x : PendingEntry) (s : State) : (putInService x s).queues = s.queues := rfl
@[simp] theorem putInService_engines (x : PendingEntry) (s : State) : (putInService x s).engines = s.engines := rfl
@[simp] theorem putInService_envs (x : PendingEntry) (s : State) : (putInService x s).envs = s.envs := rfl
@[simp] theorem putInService_link (x : PendingEntry) (s : State) : (putInService x s).link = s.link := rfl
@[simp] theorem putInService_allot (x : PendingEntry) (s : State) : (putInService x s).allot = s.allot := rfl
@[simp] theorem putInService_inputs (x : PendingEntry) (s : State) : (putInService x s).inputs = s.inputs := rfl
@[simp] theorem putInService_ports (x : PendingEntry) (s : State) : (putInService x s).ports = s.ports := rfl
@[simp] theorem putInService_wire (x : PendingEntry) (s : State) : (putInService x s).wire = s.wire := rfl
@[simp] theorem putInService_pending (x : PendingEntry) (s : State) : (putInService x s).pending = s.pending := rfl

/-! `writeSevere` changes retained alone. -/
@[simp] theorem writeSevere_phase (k : FaultKind) (sc : Scope) (s : State) : (writeSevere k sc s).phase = s.phase := rfl
@[simp] theorem writeSevere_safetyPort (k : FaultKind) (sc : Scope) (s : State) : (writeSevere k sc s).safetyPort = s.safetyPort := rfl
@[simp] theorem writeSevere_resetting (k : FaultKind) (sc : Scope) (s : State) : (writeSevere k sc s).resetting = s.resetting := rfl
@[simp] theorem writeSevere_consts (k : FaultKind) (sc : Scope) (s : State) : (writeSevere k sc s).consts = s.consts := rfl
@[simp] theorem writeSevere_signals (k : FaultKind) (sc : Scope) (s : State) : (writeSevere k sc s).signals = s.signals := rfl
@[simp] theorem writeSevere_pins (k : FaultKind) (sc : Scope) (s : State) : (writeSevere k sc s).pins = s.pins := rfl
@[simp] theorem writeSevere_period (k : FaultKind) (sc : Scope) (s : State) : (writeSevere k sc s).period = s.period := rfl
@[simp] theorem writeSevere_started (k : FaultKind) (sc : Scope) (s : State) : (writeSevere k sc s).started = s.started := rfl
@[simp] theorem writeSevere_auth (k : FaultKind) (sc : Scope) (s : State) : (writeSevere k sc s).auth = s.auth := rfl
@[simp] theorem writeSevere_queues (k : FaultKind) (sc : Scope) (s : State) : (writeSevere k sc s).queues = s.queues := rfl
@[simp] theorem writeSevere_engines (k : FaultKind) (sc : Scope) (s : State) : (writeSevere k sc s).engines = s.engines := rfl
@[simp] theorem writeSevere_envs (k : FaultKind) (sc : Scope) (s : State) : (writeSevere k sc s).envs = s.envs := rfl
@[simp] theorem writeSevere_link (k : FaultKind) (sc : Scope) (s : State) : (writeSevere k sc s).link = s.link := rfl
@[simp] theorem writeSevere_allot (k : FaultKind) (sc : Scope) (s : State) : (writeSevere k sc s).allot = s.allot := rfl
@[simp] theorem writeSevere_react (k : FaultKind) (sc : Scope) (s : State) : (writeSevere k sc s).react = s.react := rfl
@[simp] theorem writeSevere_inputs (k : FaultKind) (sc : Scope) (s : State) : (writeSevere k sc s).inputs = s.inputs := rfl
@[simp] theorem writeSevere_ports (k : FaultKind) (sc : Scope) (s : State) : (writeSevere k sc s).ports = s.ports := rfl
@[simp] theorem writeSevere_wire (k : FaultKind) (sc : Scope) (s : State) : (writeSevere k sc s).wire = s.wire := rfl
@[simp] theorem writeSevere_pending (k : FaultKind) (sc : Scope) (s : State) : (writeSevere k sc s).pending = s.pending := rfl

/-! `endInService` changes react alone. -/
@[simp] theorem endInService_phase (k : FaultKind) (sc : Scope) (e : ReactionEnd) (s : State) : (endInService k sc e s).phase = s.phase := rfl
@[simp] theorem endInService_safetyPort (k : FaultKind) (sc : Scope) (e : ReactionEnd) (s : State) : (endInService k sc e s).safetyPort = s.safetyPort := rfl
@[simp] theorem endInService_retained (k : FaultKind) (sc : Scope) (e : ReactionEnd) (s : State) : (endInService k sc e s).retained = s.retained := rfl
@[simp] theorem endInService_resetting (k : FaultKind) (sc : Scope) (e : ReactionEnd) (s : State) : (endInService k sc e s).resetting = s.resetting := rfl
@[simp] theorem endInService_consts (k : FaultKind) (sc : Scope) (e : ReactionEnd) (s : State) : (endInService k sc e s).consts = s.consts := rfl
@[simp] theorem endInService_signals (k : FaultKind) (sc : Scope) (e : ReactionEnd) (s : State) : (endInService k sc e s).signals = s.signals := rfl
@[simp] theorem endInService_pins (k : FaultKind) (sc : Scope) (e : ReactionEnd) (s : State) : (endInService k sc e s).pins = s.pins := rfl
@[simp] theorem endInService_period (k : FaultKind) (sc : Scope) (e : ReactionEnd) (s : State) : (endInService k sc e s).period = s.period := rfl
@[simp] theorem endInService_started (k : FaultKind) (sc : Scope) (e : ReactionEnd) (s : State) : (endInService k sc e s).started = s.started := rfl
@[simp] theorem endInService_auth (k : FaultKind) (sc : Scope) (e : ReactionEnd) (s : State) : (endInService k sc e s).auth = s.auth := rfl
@[simp] theorem endInService_queues (k : FaultKind) (sc : Scope) (e : ReactionEnd) (s : State) : (endInService k sc e s).queues = s.queues := rfl
@[simp] theorem endInService_engines (k : FaultKind) (sc : Scope) (e : ReactionEnd) (s : State) : (endInService k sc e s).engines = s.engines := rfl
@[simp] theorem endInService_envs (k : FaultKind) (sc : Scope) (e : ReactionEnd) (s : State) : (endInService k sc e s).envs = s.envs := rfl
@[simp] theorem endInService_link (k : FaultKind) (sc : Scope) (e : ReactionEnd) (s : State) : (endInService k sc e s).link = s.link := rfl
@[simp] theorem endInService_allot (k : FaultKind) (sc : Scope) (e : ReactionEnd) (s : State) : (endInService k sc e s).allot = s.allot := rfl
@[simp] theorem endInService_inputs (k : FaultKind) (sc : Scope) (e : ReactionEnd) (s : State) : (endInService k sc e s).inputs = s.inputs := rfl
@[simp] theorem endInService_ports (k : FaultKind) (sc : Scope) (e : ReactionEnd) (s : State) : (endInService k sc e s).ports = s.ports := rfl
@[simp] theorem endInService_wire (k : FaultKind) (sc : Scope) (e : ReactionEnd) (s : State) : (endInService k sc e s).wire = s.wire := rfl
@[simp] theorem endInService_pending (k : FaultKind) (sc : Scope) (e : ReactionEnd) (s : State) : (endInService k sc e s).pending = s.pending := rfl

/-! `withPending` changes react alone. -/
@[simp] theorem withPending_phase (l : List PendingEntry) (s : State) : (withPending l s).phase = s.phase := rfl
@[simp] theorem withPending_safetyPort (l : List PendingEntry) (s : State) : (withPending l s).safetyPort = s.safetyPort := rfl
@[simp] theorem withPending_retained (l : List PendingEntry) (s : State) : (withPending l s).retained = s.retained := rfl
@[simp] theorem withPending_resetting (l : List PendingEntry) (s : State) : (withPending l s).resetting = s.resetting := rfl
@[simp] theorem withPending_consts (l : List PendingEntry) (s : State) : (withPending l s).consts = s.consts := rfl
@[simp] theorem withPending_signals (l : List PendingEntry) (s : State) : (withPending l s).signals = s.signals := rfl
@[simp] theorem withPending_pins (l : List PendingEntry) (s : State) : (withPending l s).pins = s.pins := rfl
@[simp] theorem withPending_period (l : List PendingEntry) (s : State) : (withPending l s).period = s.period := rfl
@[simp] theorem withPending_started (l : List PendingEntry) (s : State) : (withPending l s).started = s.started := rfl
@[simp] theorem withPending_auth (l : List PendingEntry) (s : State) : (withPending l s).auth = s.auth := rfl
@[simp] theorem withPending_queues (l : List PendingEntry) (s : State) : (withPending l s).queues = s.queues := rfl
@[simp] theorem withPending_engines (l : List PendingEntry) (s : State) : (withPending l s).engines = s.engines := rfl
@[simp] theorem withPending_envs (l : List PendingEntry) (s : State) : (withPending l s).envs = s.envs := rfl
@[simp] theorem withPending_link (l : List PendingEntry) (s : State) : (withPending l s).link = s.link := rfl
@[simp] theorem withPending_allot (l : List PendingEntry) (s : State) : (withPending l s).allot = s.allot := rfl
@[simp] theorem withPending_inputs (l : List PendingEntry) (s : State) : (withPending l s).inputs = s.inputs := rfl
@[simp] theorem withPending_ports (l : List PendingEntry) (s : State) : (withPending l s).ports = s.ports := rfl
@[simp] theorem withPending_wire (l : List PendingEntry) (s : State) : (withPending l s).wire = s.wire := rfl
@[simp] theorem withPending_pending (l : List PendingEntry) (s : State) : (withPending l s).pending = s.pending := rfl

/-! `holdRepeat` changes react alone. -/
@[simp] theorem holdRepeat_phase (s : State) : (holdRepeat s).phase = s.phase := rfl
@[simp] theorem holdRepeat_safetyPort (s : State) : (holdRepeat s).safetyPort = s.safetyPort := rfl
@[simp] theorem holdRepeat_retained (s : State) : (holdRepeat s).retained = s.retained := rfl
@[simp] theorem holdRepeat_resetting (s : State) : (holdRepeat s).resetting = s.resetting := rfl
@[simp] theorem holdRepeat_consts (s : State) : (holdRepeat s).consts = s.consts := rfl
@[simp] theorem holdRepeat_signals (s : State) : (holdRepeat s).signals = s.signals := rfl
@[simp] theorem holdRepeat_pins (s : State) : (holdRepeat s).pins = s.pins := rfl
@[simp] theorem holdRepeat_period (s : State) : (holdRepeat s).period = s.period := rfl
@[simp] theorem holdRepeat_started (s : State) : (holdRepeat s).started = s.started := rfl
@[simp] theorem holdRepeat_auth (s : State) : (holdRepeat s).auth = s.auth := rfl
@[simp] theorem holdRepeat_queues (s : State) : (holdRepeat s).queues = s.queues := rfl
@[simp] theorem holdRepeat_engines (s : State) : (holdRepeat s).engines = s.engines := rfl
@[simp] theorem holdRepeat_envs (s : State) : (holdRepeat s).envs = s.envs := rfl
@[simp] theorem holdRepeat_link (s : State) : (holdRepeat s).link = s.link := rfl
@[simp] theorem holdRepeat_allot (s : State) : (holdRepeat s).allot = s.allot := rfl
@[simp] theorem holdRepeat_inputs (s : State) : (holdRepeat s).inputs = s.inputs := rfl
@[simp] theorem holdRepeat_ports (s : State) : (holdRepeat s).ports = s.ports := rfl
@[simp] theorem holdRepeat_wire (s : State) : (holdRepeat s).wire = s.wire := rfl
@[simp] theorem holdRepeat_pending (s : State) : (holdRepeat s).pending = s.pending := rfl

/-! `setLatch` changes react alone. -/
@[simp] theorem setLatch_phase (b : Bool) (s : State) : (setLatch b s).phase = s.phase := rfl
@[simp] theorem setLatch_safetyPort (b : Bool) (s : State) : (setLatch b s).safetyPort = s.safetyPort := rfl
@[simp] theorem setLatch_retained (b : Bool) (s : State) : (setLatch b s).retained = s.retained := rfl
@[simp] theorem setLatch_resetting (b : Bool) (s : State) : (setLatch b s).resetting = s.resetting := rfl
@[simp] theorem setLatch_consts (b : Bool) (s : State) : (setLatch b s).consts = s.consts := rfl
@[simp] theorem setLatch_signals (b : Bool) (s : State) : (setLatch b s).signals = s.signals := rfl
@[simp] theorem setLatch_pins (b : Bool) (s : State) : (setLatch b s).pins = s.pins := rfl
@[simp] theorem setLatch_period (b : Bool) (s : State) : (setLatch b s).period = s.period := rfl
@[simp] theorem setLatch_started (b : Bool) (s : State) : (setLatch b s).started = s.started := rfl
@[simp] theorem setLatch_auth (b : Bool) (s : State) : (setLatch b s).auth = s.auth := rfl
@[simp] theorem setLatch_queues (b : Bool) (s : State) : (setLatch b s).queues = s.queues := rfl
@[simp] theorem setLatch_engines (b : Bool) (s : State) : (setLatch b s).engines = s.engines := rfl
@[simp] theorem setLatch_envs (b : Bool) (s : State) : (setLatch b s).envs = s.envs := rfl
@[simp] theorem setLatch_link (b : Bool) (s : State) : (setLatch b s).link = s.link := rfl
@[simp] theorem setLatch_allot (b : Bool) (s : State) : (setLatch b s).allot = s.allot := rfl
@[simp] theorem setLatch_inputs (b : Bool) (s : State) : (setLatch b s).inputs = s.inputs := rfl
@[simp] theorem setLatch_ports (b : Bool) (s : State) : (setLatch b s).ports = s.ports := rfl
@[simp] theorem setLatch_wire (b : Bool) (s : State) : (setLatch b s).wire = s.wire := rfl
@[simp] theorem setLatch_pending (b : Bool) (s : State) : (setLatch b s).pending = s.pending := rfl

/-! `keepSupply` changes link alone. -/
@[simp] theorem keepSupply_phase (d : SupplyData) (s : State) : (keepSupply d s).phase = s.phase := rfl
@[simp] theorem keepSupply_safetyPort (d : SupplyData) (s : State) : (keepSupply d s).safetyPort = s.safetyPort := rfl
@[simp] theorem keepSupply_retained (d : SupplyData) (s : State) : (keepSupply d s).retained = s.retained := rfl
@[simp] theorem keepSupply_resetting (d : SupplyData) (s : State) : (keepSupply d s).resetting = s.resetting := rfl
@[simp] theorem keepSupply_consts (d : SupplyData) (s : State) : (keepSupply d s).consts = s.consts := rfl
@[simp] theorem keepSupply_signals (d : SupplyData) (s : State) : (keepSupply d s).signals = s.signals := rfl
@[simp] theorem keepSupply_pins (d : SupplyData) (s : State) : (keepSupply d s).pins = s.pins := rfl
@[simp] theorem keepSupply_period (d : SupplyData) (s : State) : (keepSupply d s).period = s.period := rfl
@[simp] theorem keepSupply_started (d : SupplyData) (s : State) : (keepSupply d s).started = s.started := rfl
@[simp] theorem keepSupply_auth (d : SupplyData) (s : State) : (keepSupply d s).auth = s.auth := rfl
@[simp] theorem keepSupply_queues (d : SupplyData) (s : State) : (keepSupply d s).queues = s.queues := rfl
@[simp] theorem keepSupply_engines (d : SupplyData) (s : State) : (keepSupply d s).engines = s.engines := rfl
@[simp] theorem keepSupply_envs (d : SupplyData) (s : State) : (keepSupply d s).envs = s.envs := rfl
@[simp] theorem keepSupply_allot (d : SupplyData) (s : State) : (keepSupply d s).allot = s.allot := rfl
@[simp] theorem keepSupply_react (d : SupplyData) (s : State) : (keepSupply d s).react = s.react := rfl
@[simp] theorem keepSupply_inputs (d : SupplyData) (s : State) : (keepSupply d s).inputs = s.inputs := rfl
@[simp] theorem keepSupply_ports (d : SupplyData) (s : State) : (keepSupply d s).ports = s.ports := rfl
@[simp] theorem keepSupply_wire (d : SupplyData) (s : State) : (keepSupply d s).wire = s.wire := rfl
@[simp] theorem keepSupply_pending (d : SupplyData) (s : State) : (keepSupply d s).pending = s.pending := rfl

/-! `setDebounce` changes inputs alone. -/
@[simp] theorem setDebounce_phase (i : Input) (n : Option Nat) (s : State) : (setDebounce i n s).phase = s.phase := rfl
@[simp] theorem setDebounce_safetyPort (i : Input) (n : Option Nat) (s : State) : (setDebounce i n s).safetyPort = s.safetyPort := rfl
@[simp] theorem setDebounce_retained (i : Input) (n : Option Nat) (s : State) : (setDebounce i n s).retained = s.retained := rfl
@[simp] theorem setDebounce_resetting (i : Input) (n : Option Nat) (s : State) : (setDebounce i n s).resetting = s.resetting := rfl
@[simp] theorem setDebounce_consts (i : Input) (n : Option Nat) (s : State) : (setDebounce i n s).consts = s.consts := rfl
@[simp] theorem setDebounce_signals (i : Input) (n : Option Nat) (s : State) : (setDebounce i n s).signals = s.signals := rfl
@[simp] theorem setDebounce_pins (i : Input) (n : Option Nat) (s : State) : (setDebounce i n s).pins = s.pins := rfl
@[simp] theorem setDebounce_period (i : Input) (n : Option Nat) (s : State) : (setDebounce i n s).period = s.period := rfl
@[simp] theorem setDebounce_started (i : Input) (n : Option Nat) (s : State) : (setDebounce i n s).started = s.started := rfl
@[simp] theorem setDebounce_auth (i : Input) (n : Option Nat) (s : State) : (setDebounce i n s).auth = s.auth := rfl
@[simp] theorem setDebounce_queues (i : Input) (n : Option Nat) (s : State) : (setDebounce i n s).queues = s.queues := rfl
@[simp] theorem setDebounce_engines (i : Input) (n : Option Nat) (s : State) : (setDebounce i n s).engines = s.engines := rfl
@[simp] theorem setDebounce_envs (i : Input) (n : Option Nat) (s : State) : (setDebounce i n s).envs = s.envs := rfl
@[simp] theorem setDebounce_link (i : Input) (n : Option Nat) (s : State) : (setDebounce i n s).link = s.link := rfl
@[simp] theorem setDebounce_allot (i : Input) (n : Option Nat) (s : State) : (setDebounce i n s).allot = s.allot := rfl
@[simp] theorem setDebounce_react (i : Input) (n : Option Nat) (s : State) : (setDebounce i n s).react = s.react := rfl
@[simp] theorem setDebounce_ports (i : Input) (n : Option Nat) (s : State) : (setDebounce i n s).ports = s.ports := rfl
@[simp] theorem setDebounce_wire (i : Input) (n : Option Nat) (s : State) : (setDebounce i n s).wire = s.wire := rfl
@[simp] theorem setDebounce_pending (i : Input) (n : Option Nat) (s : State) : (setDebounce i n s).pending = s.pending := rfl

/-! `settle` changes ports alone. -/
@[simp] theorem settle_phase (s : State) : (settle s).phase = s.phase := rfl
@[simp] theorem settle_safetyPort (s : State) : (settle s).safetyPort = s.safetyPort := rfl
@[simp] theorem settle_retained (s : State) : (settle s).retained = s.retained := rfl
@[simp] theorem settle_resetting (s : State) : (settle s).resetting = s.resetting := rfl
@[simp] theorem settle_consts (s : State) : (settle s).consts = s.consts := rfl
@[simp] theorem settle_signals (s : State) : (settle s).signals = s.signals := rfl
@[simp] theorem settle_pins (s : State) : (settle s).pins = s.pins := rfl
@[simp] theorem settle_period (s : State) : (settle s).period = s.period := rfl
@[simp] theorem settle_started (s : State) : (settle s).started = s.started := rfl
@[simp] theorem settle_auth (s : State) : (settle s).auth = s.auth := rfl
@[simp] theorem settle_queues (s : State) : (settle s).queues = s.queues := rfl
@[simp] theorem settle_engines (s : State) : (settle s).engines = s.engines := rfl
@[simp] theorem settle_envs (s : State) : (settle s).envs = s.envs := rfl
@[simp] theorem settle_link (s : State) : (settle s).link = s.link := rfl
@[simp] theorem settle_allot (s : State) : (settle s).allot = s.allot := rfl
@[simp] theorem settle_react (s : State) : (settle s).react = s.react := rfl
@[simp] theorem settle_inputs (s : State) : (settle s).inputs = s.inputs := rfl
@[simp] theorem settle_wire (s : State) : (settle s).wire = s.wire := rfl
@[simp] theorem settle_pending (s : State) : (settle s).pending = s.pending := rfl

/-! `popRequest` changes ports alone. -/
@[simp] theorem popRequest_phase (p : Port) (s : State) : (popRequest p s).phase = s.phase := rfl
@[simp] theorem popRequest_safetyPort (p : Port) (s : State) : (popRequest p s).safetyPort = s.safetyPort := rfl
@[simp] theorem popRequest_retained (p : Port) (s : State) : (popRequest p s).retained = s.retained := rfl
@[simp] theorem popRequest_resetting (p : Port) (s : State) : (popRequest p s).resetting = s.resetting := rfl
@[simp] theorem popRequest_consts (p : Port) (s : State) : (popRequest p s).consts = s.consts := rfl
@[simp] theorem popRequest_signals (p : Port) (s : State) : (popRequest p s).signals = s.signals := rfl
@[simp] theorem popRequest_pins (p : Port) (s : State) : (popRequest p s).pins = s.pins := rfl
@[simp] theorem popRequest_period (p : Port) (s : State) : (popRequest p s).period = s.period := rfl
@[simp] theorem popRequest_started (p : Port) (s : State) : (popRequest p s).started = s.started := rfl
@[simp] theorem popRequest_auth (p : Port) (s : State) : (popRequest p s).auth = s.auth := rfl
@[simp] theorem popRequest_queues (p : Port) (s : State) : (popRequest p s).queues = s.queues := rfl
@[simp] theorem popRequest_engines (p : Port) (s : State) : (popRequest p s).engines = s.engines := rfl
@[simp] theorem popRequest_envs (p : Port) (s : State) : (popRequest p s).envs = s.envs := rfl
@[simp] theorem popRequest_link (p : Port) (s : State) : (popRequest p s).link = s.link := rfl
@[simp] theorem popRequest_allot (p : Port) (s : State) : (popRequest p s).allot = s.allot := rfl
@[simp] theorem popRequest_react (p : Port) (s : State) : (popRequest p s).react = s.react := rfl
@[simp] theorem popRequest_inputs (p : Port) (s : State) : (popRequest p s).inputs = s.inputs := rfl
@[simp] theorem popRequest_wire (p : Port) (s : State) : (popRequest p s).wire = s.wire := rfl
@[simp] theorem popRequest_pending (p : Port) (s : State) : (popRequest p s).pending = s.pending := rfl

/-! `putAnswer` changes ports alone. -/
@[simp] theorem putAnswer_phase (p : Port) (n : W16) (b : Bool) (r : Reply) (s : State) : (putAnswer p n b r s).phase = s.phase := rfl
@[simp] theorem putAnswer_safetyPort (p : Port) (n : W16) (b : Bool) (r : Reply) (s : State) : (putAnswer p n b r s).safetyPort = s.safetyPort := rfl
@[simp] theorem putAnswer_retained (p : Port) (n : W16) (b : Bool) (r : Reply) (s : State) : (putAnswer p n b r s).retained = s.retained := rfl
@[simp] theorem putAnswer_resetting (p : Port) (n : W16) (b : Bool) (r : Reply) (s : State) : (putAnswer p n b r s).resetting = s.resetting := rfl
@[simp] theorem putAnswer_consts (p : Port) (n : W16) (b : Bool) (r : Reply) (s : State) : (putAnswer p n b r s).consts = s.consts := rfl
@[simp] theorem putAnswer_signals (p : Port) (n : W16) (b : Bool) (r : Reply) (s : State) : (putAnswer p n b r s).signals = s.signals := rfl
@[simp] theorem putAnswer_pins (p : Port) (n : W16) (b : Bool) (r : Reply) (s : State) : (putAnswer p n b r s).pins = s.pins := rfl
@[simp] theorem putAnswer_period (p : Port) (n : W16) (b : Bool) (r : Reply) (s : State) : (putAnswer p n b r s).period = s.period := rfl
@[simp] theorem putAnswer_started (p : Port) (n : W16) (b : Bool) (r : Reply) (s : State) : (putAnswer p n b r s).started = s.started := rfl
@[simp] theorem putAnswer_auth (p : Port) (n : W16) (b : Bool) (r : Reply) (s : State) : (putAnswer p n b r s).auth = s.auth := rfl
@[simp] theorem putAnswer_queues (p : Port) (n : W16) (b : Bool) (r : Reply) (s : State) : (putAnswer p n b r s).queues = s.queues := rfl
@[simp] theorem putAnswer_engines (p : Port) (n : W16) (b : Bool) (r : Reply) (s : State) : (putAnswer p n b r s).engines = s.engines := rfl
@[simp] theorem putAnswer_envs (p : Port) (n : W16) (b : Bool) (r : Reply) (s : State) : (putAnswer p n b r s).envs = s.envs := rfl
@[simp] theorem putAnswer_link (p : Port) (n : W16) (b : Bool) (r : Reply) (s : State) : (putAnswer p n b r s).link = s.link := rfl
@[simp] theorem putAnswer_allot (p : Port) (n : W16) (b : Bool) (r : Reply) (s : State) : (putAnswer p n b r s).allot = s.allot := rfl
@[simp] theorem putAnswer_react (p : Port) (n : W16) (b : Bool) (r : Reply) (s : State) : (putAnswer p n b r s).react = s.react := rfl
@[simp] theorem putAnswer_inputs (p : Port) (n : W16) (b : Bool) (r : Reply) (s : State) : (putAnswer p n b r s).inputs = s.inputs := rfl
@[simp] theorem putAnswer_wire (p : Port) (n : W16) (b : Bool) (r : Reply) (s : State) : (putAnswer p n b r s).wire = s.wire := rfl
@[simp] theorem putAnswer_pending (p : Port) (n : W16) (b : Bool) (r : Reply) (s : State) : (putAnswer p n b r s).pending = s.pending := rfl

/-! `setEntries` changes queues alone. -/
@[simp] theorem setEntries_phase (l : Chan) (es : List Entry) (s : State) : (setEntries l es s).phase = s.phase := rfl
@[simp] theorem setEntries_safetyPort (l : Chan) (es : List Entry) (s : State) : (setEntries l es s).safetyPort = s.safetyPort := rfl
@[simp] theorem setEntries_retained (l : Chan) (es : List Entry) (s : State) : (setEntries l es s).retained = s.retained := rfl
@[simp] theorem setEntries_resetting (l : Chan) (es : List Entry) (s : State) : (setEntries l es s).resetting = s.resetting := rfl
@[simp] theorem setEntries_consts (l : Chan) (es : List Entry) (s : State) : (setEntries l es s).consts = s.consts := rfl
@[simp] theorem setEntries_signals (l : Chan) (es : List Entry) (s : State) : (setEntries l es s).signals = s.signals := rfl
@[simp] theorem setEntries_pins (l : Chan) (es : List Entry) (s : State) : (setEntries l es s).pins = s.pins := rfl
@[simp] theorem setEntries_period (l : Chan) (es : List Entry) (s : State) : (setEntries l es s).period = s.period := rfl
@[simp] theorem setEntries_started (l : Chan) (es : List Entry) (s : State) : (setEntries l es s).started = s.started := rfl
@[simp] theorem setEntries_auth (l : Chan) (es : List Entry) (s : State) : (setEntries l es s).auth = s.auth := rfl
@[simp] theorem setEntries_engines (l : Chan) (es : List Entry) (s : State) : (setEntries l es s).engines = s.engines := rfl
@[simp] theorem setEntries_envs (l : Chan) (es : List Entry) (s : State) : (setEntries l es s).envs = s.envs := rfl
@[simp] theorem setEntries_link (l : Chan) (es : List Entry) (s : State) : (setEntries l es s).link = s.link := rfl
@[simp] theorem setEntries_allot (l : Chan) (es : List Entry) (s : State) : (setEntries l es s).allot = s.allot := rfl
@[simp] theorem setEntries_react (l : Chan) (es : List Entry) (s : State) : (setEntries l es s).react = s.react := rfl
@[simp] theorem setEntries_inputs (l : Chan) (es : List Entry) (s : State) : (setEntries l es s).inputs = s.inputs := rfl
@[simp] theorem setEntries_ports (l : Chan) (es : List Entry) (s : State) : (setEntries l es s).ports = s.ports := rfl
@[simp] theorem setEntries_wire (l : Chan) (es : List Entry) (s : State) : (setEntries l es s).wire = s.wire := rfl
@[simp] theorem setEntries_pending (l : Chan) (es : List Entry) (s : State) : (setEntries l es s).pending = s.pending := rfl

/-! `ackInput` changes inputs alone. -/
@[simp] theorem ackInput_phase (i : Input) (s : State) : (ackInput i s).phase = s.phase := rfl
@[simp] theorem ackInput_safetyPort (i : Input) (s : State) : (ackInput i s).safetyPort = s.safetyPort := rfl
@[simp] theorem ackInput_retained (i : Input) (s : State) : (ackInput i s).retained = s.retained := rfl
@[simp] theorem ackInput_resetting (i : Input) (s : State) : (ackInput i s).resetting = s.resetting := rfl
@[simp] theorem ackInput_consts (i : Input) (s : State) : (ackInput i s).consts = s.consts := rfl
@[simp] theorem ackInput_signals (i : Input) (s : State) : (ackInput i s).signals = s.signals := rfl
@[simp] theorem ackInput_pins (i : Input) (s : State) : (ackInput i s).pins = s.pins := rfl
@[simp] theorem ackInput_period (i : Input) (s : State) : (ackInput i s).period = s.period := rfl
@[simp] theorem ackInput_started (i : Input) (s : State) : (ackInput i s).started = s.started := rfl
@[simp] theorem ackInput_auth (i : Input) (s : State) : (ackInput i s).auth = s.auth := rfl
@[simp] theorem ackInput_queues (i : Input) (s : State) : (ackInput i s).queues = s.queues := rfl
@[simp] theorem ackInput_engines (i : Input) (s : State) : (ackInput i s).engines = s.engines := rfl
@[simp] theorem ackInput_envs (i : Input) (s : State) : (ackInput i s).envs = s.envs := rfl
@[simp] theorem ackInput_link (i : Input) (s : State) : (ackInput i s).link = s.link := rfl
@[simp] theorem ackInput_allot (i : Input) (s : State) : (ackInput i s).allot = s.allot := rfl
@[simp] theorem ackInput_react (i : Input) (s : State) : (ackInput i s).react = s.react := rfl
@[simp] theorem ackInput_ports (i : Input) (s : State) : (ackInput i s).ports = s.ports := rfl
@[simp] theorem ackInput_wire (i : Input) (s : State) : (ackInput i s).wire = s.wire := rfl
@[simp] theorem ackInput_pending (i : Input) (s : State) : (ackInput i s).pending = s.pending := rfl

/-! `withQueue` changes pending alone. -/
@[simp] theorem withQueue_phase (q : List Instr) (s : State) : (s.withQueue q).phase = s.phase := rfl
@[simp] theorem withQueue_safetyPort (q : List Instr) (s : State) : (s.withQueue q).safetyPort = s.safetyPort := rfl
@[simp] theorem withQueue_retained (q : List Instr) (s : State) : (s.withQueue q).retained = s.retained := rfl
@[simp] theorem withQueue_resetting (q : List Instr) (s : State) : (s.withQueue q).resetting = s.resetting := rfl
@[simp] theorem withQueue_consts (q : List Instr) (s : State) : (s.withQueue q).consts = s.consts := rfl
@[simp] theorem withQueue_signals (q : List Instr) (s : State) : (s.withQueue q).signals = s.signals := rfl
@[simp] theorem withQueue_pins (q : List Instr) (s : State) : (s.withQueue q).pins = s.pins := rfl
@[simp] theorem withQueue_period (q : List Instr) (s : State) : (s.withQueue q).period = s.period := rfl
@[simp] theorem withQueue_started (q : List Instr) (s : State) : (s.withQueue q).started = s.started := rfl
@[simp] theorem withQueue_auth (q : List Instr) (s : State) : (s.withQueue q).auth = s.auth := rfl
@[simp] theorem withQueue_queues (q : List Instr) (s : State) : (s.withQueue q).queues = s.queues := rfl
@[simp] theorem withQueue_engines (q : List Instr) (s : State) : (s.withQueue q).engines = s.engines := rfl
@[simp] theorem withQueue_envs (q : List Instr) (s : State) : (s.withQueue q).envs = s.envs := rfl
@[simp] theorem withQueue_link (q : List Instr) (s : State) : (s.withQueue q).link = s.link := rfl
@[simp] theorem withQueue_allot (q : List Instr) (s : State) : (s.withQueue q).allot = s.allot := rfl
@[simp] theorem withQueue_react (q : List Instr) (s : State) : (s.withQueue q).react = s.react := rfl
@[simp] theorem withQueue_inputs (q : List Instr) (s : State) : (s.withQueue q).inputs = s.inputs := rfl
@[simp] theorem withQueue_ports (q : List Instr) (s : State) : (s.withQueue q).ports = s.ports := rfl
@[simp] theorem withQueue_wire (q : List Instr) (s : State) : (s.withQueue q).wire = s.wire := rfl

end Sys2Proof.Machine
end

