-- ==== Sys2Proof/Laws/Ops.lean ====
section
/-! SUPPORT. The shared operations on channels, authority and proposals: for each, one lemma for each field it leaves
alone. -/

namespace Sys2Proof.Machine

/-! `setBudget` changes allot at most. -/
@[simp] theorem setBudget_phase (b : Nat) (s : State) : (setBudget b s).phase = s.phase := by
  unfold setBudget; (try dsimp only); (repeat' split) <;> simp
@[simp] theorem setBudget_safetyPort (b : Nat) (s : State) : (setBudget b s).safetyPort = s.safetyPort := by
  unfold setBudget; (try dsimp only); (repeat' split) <;> simp
@[simp] theorem setBudget_retained (b : Nat) (s : State) : (setBudget b s).retained = s.retained := by
  unfold setBudget; (try dsimp only); (repeat' split) <;> simp
@[simp] theorem setBudget_resetting (b : Nat) (s : State) : (setBudget b s).resetting = s.resetting := by
  unfold setBudget; (try dsimp only); (repeat' split) <;> simp
@[simp] theorem setBudget_consts (b : Nat) (s : State) : (setBudget b s).consts = s.consts := by
  unfold setBudget; (try dsimp only); (repeat' split) <;> simp
@[simp] theorem setBudget_signals (b : Nat) (s : State) : (setBudget b s).signals = s.signals := by
  unfold setBudget; (try dsimp only); (repeat' split) <;> simp
@[simp] theorem setBudget_pins (b : Nat) (s : State) : (setBudget b s).pins = s.pins := by
  unfold setBudget; (try dsimp only); (repeat' split) <;> simp
@[simp] theorem setBudget_period (b : Nat) (s : State) : (setBudget b s).period = s.period := by
  unfold setBudget; (try dsimp only); (repeat' split) <;> simp
@[simp] theorem setBudget_started (b : Nat) (s : State) : (setBudget b s).started = s.started := by
  unfold setBudget; (try dsimp only); (repeat' split) <;> simp
@[simp] theorem setBudget_auth (b : Nat) (s : State) : (setBudget b s).auth = s.auth := by
  unfold setBudget; (try dsimp only); (repeat' split) <;> simp
@[simp] theorem setBudget_queues (b : Nat) (s : State) : (setBudget b s).queues = s.queues := by
  unfold setBudget; (try dsimp only); (repeat' split) <;> simp
@[simp] theorem setBudget_engines (b : Nat) (s : State) : (setBudget b s).engines = s.engines := by
  unfold setBudget; (try dsimp only); (repeat' split) <;> simp
@[simp] theorem setBudget_envs (b : Nat) (s : State) : (setBudget b s).envs = s.envs := by
  unfold setBudget; (try dsimp only); (repeat' split) <;> simp
@[simp] theorem setBudget_link (b : Nat) (s : State) : (setBudget b s).link = s.link := by
  unfold setBudget; (try dsimp only); (repeat' split) <;> simp
@[simp] theorem setBudget_react (b : Nat) (s : State) : (setBudget b s).react = s.react := by
  unfold setBudget; (try dsimp only); (repeat' split) <;> simp
@[simp] theorem setBudget_inputs (b : Nat) (s : State) : (setBudget b s).inputs = s.inputs := by
  unfold setBudget; (try dsimp only); (repeat' split) <;> simp
@[simp] theorem setBudget_ports (b : Nat) (s : State) : (setBudget b s).ports = s.ports := by
  unfold setBudget; (try dsimp only); (repeat' split) <;> simp
@[simp] theorem setBudget_wire (b : Nat) (s : State) : (setBudget b s).wire = s.wire := by
  unfold setBudget; (try dsimp only); (repeat' split) <;> simp
@[simp] theorem setBudget_pending (b : Nat) (s : State) : (setBudget b s).pending = s.pending := by
  unfold setBudget; (try dsimp only); (repeat' split) <;> simp

/-! `gateSync` changes engines, allot, wire at most. -/
@[simp] theorem gateSync_phase (c : Chan) (s : State) : (gateSync c s).phase = s.phase := by
  unfold gateSync; (try dsimp only); (repeat' split) <;> simp
@[simp] theorem gateSync_safetyPort (c : Chan) (s : State) : (gateSync c s).safetyPort = s.safetyPort := by
  unfold gateSync; (try dsimp only); (repeat' split) <;> simp
@[simp] theorem gateSync_retained (c : Chan) (s : State) : (gateSync c s).retained = s.retained := by
  unfold gateSync; (try dsimp only); (repeat' split) <;> simp
@[simp] theorem gateSync_resetting (c : Chan) (s : State) : (gateSync c s).resetting = s.resetting := by
  unfold gateSync; (try dsimp only); (repeat' split) <;> simp
@[simp] theorem gateSync_consts (c : Chan) (s : State) : (gateSync c s).consts = s.consts := by
  unfold gateSync; (try dsimp only); (repeat' split) <;> simp
@[simp] theorem gateSync_signals (c : Chan) (s : State) : (gateSync c s).signals = s.signals := by
  unfold gateSync; (try dsimp only); (repeat' split) <;> simp
@[simp] theorem gateSync_pins (c : Chan) (s : State) : (gateSync c s).pins = s.pins := by
  unfold gateSync; (try dsimp only); (repeat' split) <;> simp
@[simp] theorem gateSync_period (c : Chan) (s : State) : (gateSync c s).period = s.period := by
  unfold gateSync; (try dsimp only); (repeat' split) <;> simp
@[simp] theorem gateSync_started (c : Chan) (s : State) : (gateSync c s).started = s.started := by
  unfold gateSync; (try dsimp only); (repeat' split) <;> simp
@[simp] theorem gateSync_auth (c : Chan) (s : State) : (gateSync c s).auth = s.auth := by
  unfold gateSync; (try dsimp only); (repeat' split) <;> simp
@[simp] theorem gateSync_queues (c : Chan) (s : State) : (gateSync c s).queues = s.queues := by
  unfold gateSync; (try dsimp only); (repeat' split) <;> simp
@[simp] theorem gateSync_envs (c : Chan) (s : State) : (gateSync c s).envs = s.envs := by
  unfold gateSync; (try dsimp only); (repeat' split) <;> simp
@[simp] theorem gateSync_link (c : Chan) (s : State) : (gateSync c s).link = s.link := by
  unfold gateSync; (try dsimp only); (repeat' split) <;> simp
@[simp] theorem gateSync_react (c : Chan) (s : State) : (gateSync c s).react = s.react := by
  unfold gateSync; (try dsimp only); (repeat' split) <;> simp
@[simp] theorem gateSync_inputs (c : Chan) (s : State) : (gateSync c s).inputs = s.inputs := by
  unfold gateSync; (try dsimp only); (repeat' split) <;> simp
@[simp] theorem gateSync_ports (c : Chan) (s : State) : (gateSync c s).ports = s.ports := by
  unfold gateSync; (try dsimp only); (repeat' split) <;> simp
@[simp] theorem gateSync_pending (c : Chan) (s : State) : (gateSync c s).pending = s.pending := by
  unfold gateSync; (try dsimp only); (repeat' split) <;> simp

/-! `gateSyncs` changes engines, allot, wire at most. -/
@[simp] theorem gateSyncs_phase  : ∀ (l : List Chan) (s : State), (gateSyncs l s).phase = s.phase
  | [], _ => rfl
  | c :: rest, s => by
    unfold gateSyncs; (try split) <;> simp [gateSyncs_phase rest]
@[simp] theorem gateSyncs_safetyPort  : ∀ (l : List Chan) (s : State), (gateSyncs l s).safetyPort = s.safetyPort
  | [], _ => rfl
  | c :: rest, s => by
    unfold gateSyncs; (try split) <;> simp [gateSyncs_safetyPort rest]
@[simp] theorem gateSyncs_retained  : ∀ (l : List Chan) (s : State), (gateSyncs l s).retained = s.retained
  | [], _ => rfl
  | c :: rest, s => by
    unfold gateSyncs; (try split) <;> simp [gateSyncs_retained rest]
@[simp] theorem gateSyncs_resetting  : ∀ (l : List Chan) (s : State), (gateSyncs l s).resetting = s.resetting
  | [], _ => rfl
  | c :: rest, s => by
    unfold gateSyncs; (try split) <;> simp [gateSyncs_resetting rest]
@[simp] theorem gateSyncs_consts  : ∀ (l : List Chan) (s : State), (gateSyncs l s).consts = s.consts
  | [], _ => rfl
  | c :: rest, s => by
    unfold gateSyncs; (try split) <;> simp [gateSyncs_consts rest]
@[simp] theorem gateSyncs_signals  : ∀ (l : List Chan) (s : State), (gateSyncs l s).signals = s.signals
  | [], _ => rfl
  | c :: rest, s => by
    unfold gateSyncs; (try split) <;> simp [gateSyncs_signals rest]
@[simp] theorem gateSyncs_pins  : ∀ (l : List Chan) (s : State), (gateSyncs l s).pins = s.pins
  | [], _ => rfl
  | c :: rest, s => by
    unfold gateSyncs; (try split) <;> simp [gateSyncs_pins rest]
@[simp] theorem gateSyncs_period  : ∀ (l : List Chan) (s : State), (gateSyncs l s).period = s.period
  | [], _ => rfl
  | c :: rest, s => by
    unfold gateSyncs; (try split) <;> simp [gateSyncs_period rest]
@[simp] theorem gateSyncs_started  : ∀ (l : List Chan) (s : State), (gateSyncs l s).started = s.started
  | [], _ => rfl
  | c :: rest, s => by
    unfold gateSyncs; (try split) <;> simp [gateSyncs_started rest]
@[simp] theorem gateSyncs_auth  : ∀ (l : List Chan) (s : State), (gateSyncs l s).auth = s.auth
  | [], _ => rfl
  | c :: rest, s => by
    unfold gateSyncs; (try split) <;> simp [gateSyncs_auth rest]
@[simp] theorem gateSyncs_queues  : ∀ (l : List Chan) (s : State), (gateSyncs l s).queues = s.queues
  | [], _ => rfl
  | c :: rest, s => by
    unfold gateSyncs; (try split) <;> simp [gateSyncs_queues rest]
@[simp] theorem gateSyncs_envs  : ∀ (l : List Chan) (s : State), (gateSyncs l s).envs = s.envs
  | [], _ => rfl
  | c :: rest, s => by
    unfold gateSyncs; (try split) <;> simp [gateSyncs_envs rest]
@[simp] theorem gateSyncs_link  : ∀ (l : List Chan) (s : State), (gateSyncs l s).link = s.link
  | [], _ => rfl
  | c :: rest, s => by
    unfold gateSyncs; (try split) <;> simp [gateSyncs_link rest]
@[simp] theorem gateSyncs_react  : ∀ (l : List Chan) (s : State), (gateSyncs l s).react = s.react
  | [], _ => rfl
  | c :: rest, s => by
    unfold gateSyncs; (try split) <;> simp [gateSyncs_react rest]
@[simp] theorem gateSyncs_inputs  : ∀ (l : List Chan) (s : State), (gateSyncs l s).inputs = s.inputs
  | [], _ => rfl
  | c :: rest, s => by
    unfold gateSyncs; (try split) <;> simp [gateSyncs_inputs rest]
@[simp] theorem gateSyncs_ports  : ∀ (l : List Chan) (s : State), (gateSyncs l s).ports = s.ports
  | [], _ => rfl
  | c :: rest, s => by
    unfold gateSyncs; (try split) <;> simp [gateSyncs_ports rest]
@[simp] theorem gateSyncs_pending  : ∀ (l : List Chan) (s : State), (gateSyncs l s).pending = s.pending
  | [], _ => rfl
  | c :: rest, s => by
    unfold gateSyncs; (try split) <;> simp [gateSyncs_pending rest]

/-! `moveGroup` changes auth, engines, allot, ports, wire at most. -/
@[simp] theorem moveGroup_phase (l : Chan) (x : ChState) (n : Option Nat) (s : State) : (moveGroup l x n s).phase = s.phase := by
  unfold moveGroup; (try dsimp only); (repeat' split) <;> simp
@[simp] theorem moveGroup_safetyPort (l : Chan) (x : ChState) (n : Option Nat) (s : State) : (moveGroup l x n s).safetyPort = s.safetyPort := by
  unfold moveGroup; (try dsimp only); (repeat' split) <;> simp
@[simp] theorem moveGroup_retained (l : Chan) (x : ChState) (n : Option Nat) (s : State) : (moveGroup l x n s).retained = s.retained := by
  unfold moveGroup; (try dsimp only); (repeat' split) <;> simp
@[simp] theorem moveGroup_resetting (l : Chan) (x : ChState) (n : Option Nat) (s : State) : (moveGroup l x n s).resetting = s.resetting := by
  unfold moveGroup; (try dsimp only); (repeat' split) <;> simp
@[simp] theorem moveGroup_consts (l : Chan) (x : ChState) (n : Option Nat) (s : State) : (moveGroup l x n s).consts = s.consts := by
  unfold moveGroup; (try dsimp only); (repeat' split) <;> simp
@[simp] theorem moveGroup_signals (l : Chan) (x : ChState) (n : Option Nat) (s : State) : (moveGroup l x n s).signals = s.signals := by
  unfold moveGroup; (try dsimp only); (repeat' split) <;> simp
@[simp] theorem moveGroup_pins (l : Chan) (x : ChState) (n : Option Nat) (s : State) : (moveGroup l x n s).pins = s.pins := by
  unfold moveGroup; (try dsimp only); (repeat' split) <;> simp
@[simp] theorem moveGroup_period (l : Chan) (x : ChState) (n : Option Nat) (s : State) : (moveGroup l x n s).period = s.period := by
  unfold moveGroup; (try dsimp only); (repeat' split) <;> simp
@[simp] theorem moveGroup_started (l : Chan) (x : ChState) (n : Option Nat) (s : State) : (moveGroup l x n s).started = s.started := by
  unfold moveGroup; (try dsimp only); (repeat' split) <;> simp
@[simp] theorem moveGroup_queues (l : Chan) (x : ChState) (n : Option Nat) (s : State) : (moveGroup l x n s).queues = s.queues := by
  unfold moveGroup; (try dsimp only); (repeat' split) <;> simp
@[simp] theorem moveGroup_envs (l : Chan) (x : ChState) (n : Option Nat) (s : State) : (moveGroup l x n s).envs = s.envs := by
  unfold moveGroup; (try dsimp only); (repeat' split) <;> simp
@[simp] theorem moveGroup_link (l : Chan) (x : ChState) (n : Option Nat) (s : State) : (moveGroup l x n s).link = s.link := by
  unfold moveGroup; (try dsimp only); (repeat' split) <;> simp
@[simp] theorem moveGroup_react (l : Chan) (x : ChState) (n : Option Nat) (s : State) : (moveGroup l x n s).react = s.react := by
  unfold moveGroup; (try dsimp only); (repeat' split) <;> simp
@[simp] theorem moveGroup_inputs (l : Chan) (x : ChState) (n : Option Nat) (s : State) : (moveGroup l x n s).inputs = s.inputs := by
  unfold moveGroup; (try dsimp only); (repeat' split) <;> simp
@[simp] theorem moveGroup_pending (l : Chan) (x : ChState) (n : Option Nat) (s : State) : (moveGroup l x n s).pending = s.pending := by
  unfold moveGroup; (try dsimp only); (repeat' split) <;> simp

/-! `toOff` changes auth, engines, allot, ports, wire at most. -/
@[simp] theorem toOff_phase (l : Chan) (s : State) : (toOff l s).phase = s.phase := by
  unfold toOff; (try dsimp only); (repeat' split) <;> simp
@[simp] theorem toOff_safetyPort (l : Chan) (s : State) : (toOff l s).safetyPort = s.safetyPort := by
  unfold toOff; (try dsimp only); (repeat' split) <;> simp
@[simp] theorem toOff_retained (l : Chan) (s : State) : (toOff l s).retained = s.retained := by
  unfold toOff; (try dsimp only); (repeat' split) <;> simp
@[simp] theorem toOff_resetting (l : Chan) (s : State) : (toOff l s).resetting = s.resetting := by
  unfold toOff; (try dsimp only); (repeat' split) <;> simp
@[simp] theorem toOff_consts (l : Chan) (s : State) : (toOff l s).consts = s.consts := by
  unfold toOff; (try dsimp only); (repeat' split) <;> simp
@[simp] theorem toOff_signals (l : Chan) (s : State) : (toOff l s).signals = s.signals := by
  unfold toOff; (try dsimp only); (repeat' split) <;> simp
@[simp] theorem toOff_pins (l : Chan) (s : State) : (toOff l s).pins = s.pins := by
  unfold toOff; (try dsimp only); (repeat' split) <;> simp
@[simp] theorem toOff_period (l : Chan) (s : State) : (toOff l s).period = s.period := by
  unfold toOff; (try dsimp only); (repeat' split) <;> simp
@[simp] theorem toOff_started (l : Chan) (s : State) : (toOff l s).started = s.started := by
  unfold toOff; (try dsimp only); (repeat' split) <;> simp
@[simp] theorem toOff_queues (l : Chan) (s : State) : (toOff l s).queues = s.queues := by
  unfold toOff; (try dsimp only); (repeat' split) <;> simp
@[simp] theorem toOff_envs (l : Chan) (s : State) : (toOff l s).envs = s.envs := by
  unfold toOff; (try dsimp only); (repeat' split) <;> simp
@[simp] theorem toOff_link (l : Chan) (s : State) : (toOff l s).link = s.link := by
  unfold toOff; (try dsimp only); (repeat' split) <;> simp
@[simp] theorem toOff_react (l : Chan) (s : State) : (toOff l s).react = s.react := by
  unfold toOff; (try dsimp only); (repeat' split) <;> simp
@[simp] theorem toOff_inputs (l : Chan) (s : State) : (toOff l s).inputs = s.inputs := by
  unfold toOff; (try dsimp only); (repeat' split) <;> simp
@[simp] theorem toOff_pending (l : Chan) (s : State) : (toOff l s).pending = s.pending := by
  unfold toOff; (try dsimp only); (repeat' split) <;> simp

/-! `toHolding` changes auth, queues, engines, allot, ports, wire at most. -/
@[simp] theorem toHolding_phase (l : Chan) (s : State) : (toHolding l s).phase = s.phase := by
  unfold toHolding; (try dsimp only); (repeat' split) <;> simp
@[simp] theorem toHolding_safetyPort (l : Chan) (s : State) : (toHolding l s).safetyPort = s.safetyPort := by
  unfold toHolding; (try dsimp only); (repeat' split) <;> simp
@[simp] theorem toHolding_retained (l : Chan) (s : State) : (toHolding l s).retained = s.retained := by
  unfold toHolding; (try dsimp only); (repeat' split) <;> simp
@[simp] theorem toHolding_resetting (l : Chan) (s : State) : (toHolding l s).resetting = s.resetting := by
  unfold toHolding; (try dsimp only); (repeat' split) <;> simp
@[simp] theorem toHolding_consts (l : Chan) (s : State) : (toHolding l s).consts = s.consts := by
  unfold toHolding; (try dsimp only); (repeat' split) <;> simp
@[simp] theorem toHolding_signals (l : Chan) (s : State) : (toHolding l s).signals = s.signals := by
  unfold toHolding; (try dsimp only); (repeat' split) <;> simp
@[simp] theorem toHolding_pins (l : Chan) (s : State) : (toHolding l s).pins = s.pins := by
  unfold toHolding; (try dsimp only); (repeat' split) <;> simp
@[simp] theorem toHolding_period (l : Chan) (s : State) : (toHolding l s).period = s.period := by
  unfold toHolding; (try dsimp only); (repeat' split) <;> simp
@[simp] theorem toHolding_started (l : Chan) (s : State) : (toHolding l s).started = s.started := by
  unfold toHolding; (try dsimp only); (repeat' split) <;> simp
@[simp] theorem toHolding_envs (l : Chan) (s : State) : (toHolding l s).envs = s.envs := by
  unfold toHolding; (try dsimp only); (repeat' split) <;> simp
@[simp] theorem toHolding_link (l : Chan) (s : State) : (toHolding l s).link = s.link := by
  unfold toHolding; (try dsimp only); (repeat' split) <;> simp
@[simp] theorem toHolding_react (l : Chan) (s : State) : (toHolding l s).react = s.react := by
  unfold toHolding; (try dsimp only); (repeat' split) <;> simp
@[simp] theorem toHolding_inputs (l : Chan) (s : State) : (toHolding l s).inputs = s.inputs := by
  unfold toHolding; (try dsimp only); (repeat' split) <;> simp
@[simp] theorem toHolding_pending (l : Chan) (s : State) : (toHolding l s).pending = s.pending := by
  unfold toHolding; (try dsimp only); (repeat' split) <;> simp

/-! `toRamping` changes auth, engines, allot, ports, wire at most. -/
@[simp] theorem toRamping_phase (l : Chan) (s : State) : (toRamping l s).phase = s.phase := by
  unfold toRamping; (try dsimp only); (repeat' split) <;> simp
@[simp] theorem toRamping_safetyPort (l : Chan) (s : State) : (toRamping l s).safetyPort = s.safetyPort := by
  unfold toRamping; (try dsimp only); (repeat' split) <;> simp
@[simp] theorem toRamping_retained (l : Chan) (s : State) : (toRamping l s).retained = s.retained := by
  unfold toRamping; (try dsimp only); (repeat' split) <;> simp
@[simp] theorem toRamping_resetting (l : Chan) (s : State) : (toRamping l s).resetting = s.resetting := by
  unfold toRamping; (try dsimp only); (repeat' split) <;> simp
@[simp] theorem toRamping_consts (l : Chan) (s : State) : (toRamping l s).consts = s.consts := by
  unfold toRamping; (try dsimp only); (repeat' split) <;> simp
@[simp] theorem toRamping_signals (l : Chan) (s : State) : (toRamping l s).signals = s.signals := by
  unfold toRamping; (try dsimp only); (repeat' split) <;> simp
@[simp] theorem toRamping_pins (l : Chan) (s : State) : (toRamping l s).pins = s.pins := by
  unfold toRamping; (try dsimp only); (repeat' split) <;> simp
@[simp] theorem toRamping_period (l : Chan) (s : State) : (toRamping l s).period = s.period := by
  unfold toRamping; (try dsimp only); (repeat' split) <;> simp
@[simp] theorem toRamping_started (l : Chan) (s : State) : (toRamping l s).started = s.started := by
  unfold toRamping; (try dsimp only); (repeat' split) <;> simp
@[simp] theorem toRamping_queues (l : Chan) (s : State) : (toRamping l s).queues = s.queues := by
  unfold toRamping; (try dsimp only); (repeat' split) <;> simp
@[simp] theorem toRamping_envs (l : Chan) (s : State) : (toRamping l s).envs = s.envs := by
  unfold toRamping; (try dsimp only); (repeat' split) <;> simp
@[simp] theorem toRamping_link (l : Chan) (s : State) : (toRamping l s).link = s.link := by
  unfold toRamping; (try dsimp only); (repeat' split) <;> simp
@[simp] theorem toRamping_react (l : Chan) (s : State) : (toRamping l s).react = s.react := by
  unfold toRamping; (try dsimp only); (repeat' split) <;> simp
@[simp] theorem toRamping_inputs (l : Chan) (s : State) : (toRamping l s).inputs = s.inputs := by
  unfold toRamping; (try dsimp only); (repeat' split) <;> simp
@[simp] theorem toRamping_pending (l : Chan) (s : State) : (toRamping l s).pending = s.pending := by
  unfold toRamping; (try dsimp only); (repeat' split) <;> simp

/-! `toStopping` changes auth, queues, engines, allot, ports, wire at most. -/
@[simp] theorem toStopping_phase (l : Chan) (s : State) : (toStopping l s).phase = s.phase := by
  unfold toStopping; (try dsimp only); (repeat' split) <;> simp
@[simp] theorem toStopping_safetyPort (l : Chan) (s : State) : (toStopping l s).safetyPort = s.safetyPort := by
  unfold toStopping; (try dsimp only); (repeat' split) <;> simp
@[simp] theorem toStopping_retained (l : Chan) (s : State) : (toStopping l s).retained = s.retained := by
  unfold toStopping; (try dsimp only); (repeat' split) <;> simp
@[simp] theorem toStopping_resetting (l : Chan) (s : State) : (toStopping l s).resetting = s.resetting := by
  unfold toStopping; (try dsimp only); (repeat' split) <;> simp
@[simp] theorem toStopping_consts (l : Chan) (s : State) : (toStopping l s).consts = s.consts := by
  unfold toStopping; (try dsimp only); (repeat' split) <;> simp
@[simp] theorem toStopping_signals (l : Chan) (s : State) : (toStopping l s).signals = s.signals := by
  unfold toStopping; (try dsimp only); (repeat' split) <;> simp
@[simp] theorem toStopping_pins (l : Chan) (s : State) : (toStopping l s).pins = s.pins := by
  unfold toStopping; (try dsimp only); (repeat' split) <;> simp
@[simp] theorem toStopping_period (l : Chan) (s : State) : (toStopping l s).period = s.period := by
  unfold toStopping; (try dsimp only); (repeat' split) <;> simp
@[simp] theorem toStopping_started (l : Chan) (s : State) : (toStopping l s).started = s.started := by
  unfold toStopping; (try dsimp only); (repeat' split) <;> simp
@[simp] theorem toStopping_envs (l : Chan) (s : State) : (toStopping l s).envs = s.envs := by
  unfold toStopping; (try dsimp only); (repeat' split) <;> simp
@[simp] theorem toStopping_link (l : Chan) (s : State) : (toStopping l s).link = s.link := by
  unfold toStopping; (try dsimp only); (repeat' split) <;> simp
@[simp] theorem toStopping_react (l : Chan) (s : State) : (toStopping l s).react = s.react := by
  unfold toStopping; (try dsimp only); (repeat' split) <;> simp
@[simp] theorem toStopping_inputs (l : Chan) (s : State) : (toStopping l s).inputs = s.inputs := by
  unfold toStopping; (try dsimp only); (repeat' split) <;> simp
@[simp] theorem toStopping_pending (l : Chan) (s : State) : (toStopping l s).pending = s.pending := by
  unfold toStopping; (try dsimp only); (repeat' split) <;> simp

/-! `fillTrips` changes engines at most. -/
@[simp] theorem fillTrips_phase (r : TripRecord) : ∀ (l : List Chan) (s : State), (fillTrips r l s).phase = s.phase
  | [], _ => rfl
  | c :: rest, s => by
    unfold fillTrips; (try split) <;> simp [fillTrips_phase r rest]
@[simp] theorem fillTrips_safetyPort (r : TripRecord) : ∀ (l : List Chan) (s : State), (fillTrips r l s).safetyPort = s.safetyPort
  | [], _ => rfl
  | c :: rest, s => by
    unfold fillTrips; (try split) <;> simp [fillTrips_safetyPort r rest]
@[simp] theorem fillTrips_retained (r : TripRecord) : ∀ (l : List Chan) (s : State), (fillTrips r l s).retained = s.retained
  | [], _ => rfl
  | c :: rest, s => by
    unfold fillTrips; (try split) <;> simp [fillTrips_retained r rest]
@[simp] theorem fillTrips_resetting (r : TripRecord) : ∀ (l : List Chan) (s : State), (fillTrips r l s).resetting = s.resetting
  | [], _ => rfl
  | c :: rest, s => by
    unfold fillTrips; (try split) <;> simp [fillTrips_resetting r rest]
@[simp] theorem fillTrips_consts (r : TripRecord) : ∀ (l : List Chan) (s : State), (fillTrips r l s).consts = s.consts
  | [], _ => rfl
  | c :: rest, s => by
    unfold fillTrips; (try split) <;> simp [fillTrips_consts r rest]
@[simp] theorem fillTrips_signals (r : TripRecord) : ∀ (l : List Chan) (s : State), (fillTrips r l s).signals = s.signals
  | [], _ => rfl
  | c :: rest, s => by
    unfold fillTrips; (try split) <;> simp [fillTrips_signals r rest]
@[simp] theorem fillTrips_pins (r : TripRecord) : ∀ (l : List Chan) (s : State), (fillTrips r l s).pins = s.pins
  | [], _ => rfl
  | c :: rest, s => by
    unfold fillTrips; (try split) <;> simp [fillTrips_pins r rest]
@[simp] theorem fillTrips_period (r : TripRecord) : ∀ (l : List Chan) (s : State), (fillTrips r l s).period = s.period
  | [], _ => rfl
  | c :: rest, s => by
    unfold fillTrips; (try split) <;> simp [fillTrips_period r rest]
@[simp] theorem fillTrips_started (r : TripRecord) : ∀ (l : List Chan) (s : State), (fillTrips r l s).started = s.started
  | [], _ => rfl
  | c :: rest, s => by
    unfold fillTrips; (try split) <;> simp [fillTrips_started r rest]
@[simp] theorem fillTrips_auth (r : TripRecord) : ∀ (l : List Chan) (s : State), (fillTrips r l s).auth = s.auth
  | [], _ => rfl
  | c :: rest, s => by
    unfold fillTrips; (try split) <;> simp [fillTrips_auth r rest]
@[simp] theorem fillTrips_queues (r : TripRecord) : ∀ (l : List Chan) (s : State), (fillTrips r l s).queues = s.queues
  | [], _ => rfl
  | c :: rest, s => by
    unfold fillTrips; (try split) <;> simp [fillTrips_queues r rest]
@[simp] theorem fillTrips_envs (r : TripRecord) : ∀ (l : List Chan) (s : State), (fillTrips r l s).envs = s.envs
  | [], _ => rfl
  | c :: rest, s => by
    unfold fillTrips; (try split) <;> simp [fillTrips_envs r rest]
@[simp] theorem fillTrips_link (r : TripRecord) : ∀ (l : List Chan) (s : State), (fillTrips r l s).link = s.link
  | [], _ => rfl
  | c :: rest, s => by
    unfold fillTrips; (try split) <;> simp [fillTrips_link r rest]
@[simp] theorem fillTrips_allot (r : TripRecord) : ∀ (l : List Chan) (s : State), (fillTrips r l s).allot = s.allot
  | [], _ => rfl
  | c :: rest, s => by
    unfold fillTrips; (try split) <;> simp [fillTrips_allot r rest]
@[simp] theorem fillTrips_react (r : TripRecord) : ∀ (l : List Chan) (s : State), (fillTrips r l s).react = s.react
  | [], _ => rfl
  | c :: rest, s => by
    unfold fillTrips; (try split) <;> simp [fillTrips_react r rest]
@[simp] theorem fillTrips_inputs (r : TripRecord) : ∀ (l : List Chan) (s : State), (fillTrips r l s).inputs = s.inputs
  | [], _ => rfl
  | c :: rest, s => by
    unfold fillTrips; (try split) <;> simp [fillTrips_inputs r rest]
@[simp] theorem fillTrips_ports (r : TripRecord) : ∀ (l : List Chan) (s : State), (fillTrips r l s).ports = s.ports
  | [], _ => rfl
  | c :: rest, s => by
    unfold fillTrips; (try split) <;> simp [fillTrips_ports r rest]
@[simp] theorem fillTrips_wire (r : TripRecord) : ∀ (l : List Chan) (s : State), (fillTrips r l s).wire = s.wire
  | [], _ => rfl
  | c :: rest, s => by
    unfold fillTrips; (try split) <;> simp [fillTrips_wire r rest]
@[simp] theorem fillTrips_pending (r : TripRecord) : ∀ (l : List Chan) (s : State), (fillTrips r l s).pending = s.pending
  | [], _ => rfl
  | c :: rest, s => by
    unfold fillTrips; (try split) <;> simp [fillTrips_pending r rest]

/-! `toTripped` changes auth, queues, engines, allot, ports, wire at most. -/
@[simp] theorem toTripped_phase (l : Chan) (k : FaultKind) (n : Nat) (s : State) : (toTripped l k n s).phase = s.phase := by
  unfold toTripped; (try dsimp only); (repeat' split) <;> simp
@[simp] theorem toTripped_safetyPort (l : Chan) (k : FaultKind) (n : Nat) (s : State) : (toTripped l k n s).safetyPort = s.safetyPort := by
  unfold toTripped; (try dsimp only); (repeat' split) <;> simp
@[simp] theorem toTripped_retained (l : Chan) (k : FaultKind) (n : Nat) (s : State) : (toTripped l k n s).retained = s.retained := by
  unfold toTripped; (try dsimp only); (repeat' split) <;> simp
@[simp] theorem toTripped_resetting (l : Chan) (k : FaultKind) (n : Nat) (s : State) : (toTripped l k n s).resetting = s.resetting := by
  unfold toTripped; (try dsimp only); (repeat' split) <;> simp
@[simp] theorem toTripped_consts (l : Chan) (k : FaultKind) (n : Nat) (s : State) : (toTripped l k n s).consts = s.consts := by
  unfold toTripped; (try dsimp only); (repeat' split) <;> simp
@[simp] theorem toTripped_signals (l : Chan) (k : FaultKind) (n : Nat) (s : State) : (toTripped l k n s).signals = s.signals := by
  unfold toTripped; (try dsimp only); (repeat' split) <;> simp
@[simp] theorem toTripped_pins (l : Chan) (k : FaultKind) (n : Nat) (s : State) : (toTripped l k n s).pins = s.pins := by
  unfold toTripped; (try dsimp only); (repeat' split) <;> simp
@[simp] theorem toTripped_period (l : Chan) (k : FaultKind) (n : Nat) (s : State) : (toTripped l k n s).period = s.period := by
  unfold toTripped; (try dsimp only); (repeat' split) <;> simp
@[simp] theorem toTripped_started (l : Chan) (k : FaultKind) (n : Nat) (s : State) : (toTripped l k n s).started = s.started := by
  unfold toTripped; (try dsimp only); (repeat' split) <;> simp
@[simp] theorem toTripped_envs (l : Chan) (k : FaultKind) (n : Nat) (s : State) : (toTripped l k n s).envs = s.envs := by
  unfold toTripped; (try dsimp only); (repeat' split) <;> simp
@[simp] theorem toTripped_link (l : Chan) (k : FaultKind) (n : Nat) (s : State) : (toTripped l k n s).link = s.link := by
  unfold toTripped; (try dsimp only); (repeat' split) <;> simp
@[simp] theorem toTripped_react (l : Chan) (k : FaultKind) (n : Nat) (s : State) : (toTripped l k n s).react = s.react := by
  unfold toTripped; (try dsimp only); (repeat' split) <;> simp
@[simp] theorem toTripped_inputs (l : Chan) (k : FaultKind) (n : Nat) (s : State) : (toTripped l k n s).inputs = s.inputs := by
  unfold toTripped; (try dsimp only); (repeat' split) <;> simp
@[simp] theorem toTripped_pending (l : Chan) (k : FaultKind) (n : Nat) (s : State) : (toTripped l k n s).pending = s.pending := by
  unfold toTripped; (try dsimp only); (repeat' split) <;> simp

/-! `clearIntegrators` changes engines at most. -/
@[simp] theorem clearIntegrators_phase  : ∀ (l : List Chan) (s : State), (clearIntegrators l s).phase = s.phase
  | [], _ => rfl
  | c :: rest, s => by
    unfold clearIntegrators; (try split) <;> simp [clearIntegrators_phase rest]
@[simp] theorem clearIntegrators_safetyPort  : ∀ (l : List Chan) (s : State), (clearIntegrators l s).safetyPort = s.safetyPort
  | [], _ => rfl
  | c :: rest, s => by
    unfold clearIntegrators; (try split) <;> simp [clearIntegrators_safetyPort rest]
@[simp] theorem clearIntegrators_retained  : ∀ (l : List Chan) (s : State), (clearIntegrators l s).retained = s.retained
  | [], _ => rfl
  | c :: rest, s => by
    unfold clearIntegrators; (try split) <;> simp [clearIntegrators_retained rest]
@[simp] theorem clearIntegrators_resetting  : ∀ (l : List Chan) (s : State), (clearIntegrators l s).resetting = s.resetting
  | [], _ => rfl
  | c :: rest, s => by
    unfold clearIntegrators; (try split) <;> simp [clearIntegrators_resetting rest]
@[simp] theorem clearIntegrators_consts  : ∀ (l : List Chan) (s : State), (clearIntegrators l s).consts = s.consts
  | [], _ => rfl
  | c :: rest, s => by
    unfold clearIntegrators; (try split) <;> simp [clearIntegrators_consts rest]
@[simp] theorem clearIntegrators_signals  : ∀ (l : List Chan) (s : State), (clearIntegrators l s).signals = s.signals
  | [], _ => rfl
  | c :: rest, s => by
    unfold clearIntegrators; (try split) <;> simp [clearIntegrators_signals rest]
@[simp] theorem clearIntegrators_pins  : ∀ (l : List Chan) (s : State), (clearIntegrators l s).pins = s.pins
  | [], _ => rfl
  | c :: rest, s => by
    unfold clearIntegrators; (try split) <;> simp [clearIntegrators_pins rest]
@[simp] theorem clearIntegrators_period  : ∀ (l : List Chan) (s : State), (clearIntegrators l s).period = s.period
  | [], _ => rfl
  | c :: rest, s => by
    unfold clearIntegrators; (try split) <;> simp [clearIntegrators_period rest]
@[simp] theorem clearIntegrators_started  : ∀ (l : List Chan) (s : State), (clearIntegrators l s).started = s.started
  | [], _ => rfl
  | c :: rest, s => by
    unfold clearIntegrators; (try split) <;> simp [clearIntegrators_started rest]
@[simp] theorem clearIntegrators_auth  : ∀ (l : List Chan) (s : State), (clearIntegrators l s).auth = s.auth
  | [], _ => rfl
  | c :: rest, s => by
    unfold clearIntegrators; (try split) <;> simp [clearIntegrators_auth rest]
@[simp] theorem clearIntegrators_queues  : ∀ (l : List Chan) (s : State), (clearIntegrators l s).queues = s.queues
  | [], _ => rfl
  | c :: rest, s => by
    unfold clearIntegrators; (try split) <;> simp [clearIntegrators_queues rest]
@[simp] theorem clearIntegrators_envs  : ∀ (l : List Chan) (s : State), (clearIntegrators l s).envs = s.envs
  | [], _ => rfl
  | c :: rest, s => by
    unfold clearIntegrators; (try split) <;> simp [clearIntegrators_envs rest]
@[simp] theorem clearIntegrators_link  : ∀ (l : List Chan) (s : State), (clearIntegrators l s).link = s.link
  | [], _ => rfl
  | c :: rest, s => by
    unfold clearIntegrators; (try split) <;> simp [clearIntegrators_link rest]
@[simp] theorem clearIntegrators_allot  : ∀ (l : List Chan) (s : State), (clearIntegrators l s).allot = s.allot
  | [], _ => rfl
  | c :: rest, s => by
    unfold clearIntegrators; (try split) <;> simp [clearIntegrators_allot rest]
@[simp] theorem clearIntegrators_react  : ∀ (l : List Chan) (s : State), (clearIntegrators l s).react = s.react
  | [], _ => rfl
  | c :: rest, s => by
    unfold clearIntegrators; (try split) <;> simp [clearIntegrators_react rest]
@[simp] theorem clearIntegrators_inputs  : ∀ (l : List Chan) (s : State), (clearIntegrators l s).inputs = s.inputs
  | [], _ => rfl
  | c :: rest, s => by
    unfold clearIntegrators; (try split) <;> simp [clearIntegrators_inputs rest]
@[simp] theorem clearIntegrators_ports  : ∀ (l : List Chan) (s : State), (clearIntegrators l s).ports = s.ports
  | [], _ => rfl
  | c :: rest, s => by
    unfold clearIntegrators; (try split) <;> simp [clearIntegrators_ports rest]
@[simp] theorem clearIntegrators_wire  : ∀ (l : List Chan) (s : State), (clearIntegrators l s).wire = s.wire
  | [], _ => rfl
  | c :: rest, s => by
    unfold clearIntegrators; (try split) <;> simp [clearIntegrators_wire rest]
@[simp] theorem clearIntegrators_pending  : ∀ (l : List Chan) (s : State), (clearIntegrators l s).pending = s.pending
  | [], _ => rfl
  | c :: rest, s => by
    unfold clearIntegrators; (try split) <;> simp [clearIntegrators_pending rest]

/-! `toReleasing` changes auth, queues, engines, allot, ports, wire at most. -/
@[simp] theorem toReleasing_phase (l : Chan) (s : State) : (toReleasing l s).phase = s.phase := by
  unfold toReleasing; (try dsimp only); (repeat' split) <;> simp
@[simp] theorem toReleasing_safetyPort (l : Chan) (s : State) : (toReleasing l s).safetyPort = s.safetyPort := by
  unfold toReleasing; (try dsimp only); (repeat' split) <;> simp
@[simp] theorem toReleasing_retained (l : Chan) (s : State) : (toReleasing l s).retained = s.retained := by
  unfold toReleasing; (try dsimp only); (repeat' split) <;> simp
@[simp] theorem toReleasing_resetting (l : Chan) (s : State) : (toReleasing l s).resetting = s.resetting := by
  unfold toReleasing; (try dsimp only); (repeat' split) <;> simp
@[simp] theorem toReleasing_consts (l : Chan) (s : State) : (toReleasing l s).consts = s.consts := by
  unfold toReleasing; (try dsimp only); (repeat' split) <;> simp
@[simp] theorem toReleasing_signals (l : Chan) (s : State) : (toReleasing l s).signals = s.signals := by
  unfold toReleasing; (try dsimp only); (repeat' split) <;> simp
@[simp] theorem toReleasing_pins (l : Chan) (s : State) : (toReleasing l s).pins = s.pins := by
  unfold toReleasing; (try dsimp only); (repeat' split) <;> simp
@[simp] theorem toReleasing_period (l : Chan) (s : State) : (toReleasing l s).period = s.period := by
  unfold toReleasing; (try dsimp only); (repeat' split) <;> simp
@[simp] theorem toReleasing_started (l : Chan) (s : State) : (toReleasing l s).started = s.started := by
  unfold toReleasing; (try dsimp only); (repeat' split) <;> simp
@[simp] theorem toReleasing_envs (l : Chan) (s : State) : (toReleasing l s).envs = s.envs := by
  unfold toReleasing; (try dsimp only); (repeat' split) <;> simp
@[simp] theorem toReleasing_link (l : Chan) (s : State) : (toReleasing l s).link = s.link := by
  unfold toReleasing; (try dsimp only); (repeat' split) <;> simp
@[simp] theorem toReleasing_react (l : Chan) (s : State) : (toReleasing l s).react = s.react := by
  unfold toReleasing; (try dsimp only); (repeat' split) <;> simp
@[simp] theorem toReleasing_inputs (l : Chan) (s : State) : (toReleasing l s).inputs = s.inputs := by
  unfold toReleasing; (try dsimp only); (repeat' split) <;> simp
@[simp] theorem toReleasing_pending (l : Chan) (s : State) : (toReleasing l s).pending = s.pending := by
  unfold toReleasing; (try dsimp only); (repeat' split) <;> simp

/-! `changeHolder` changes auth, queues, engines, allot, ports, wire at most. -/
@[simp] theorem changeHolder_phase (l : Chan) (n : Option Port) (s : State) : (changeHolder l n s).phase = s.phase := by
  unfold changeHolder; (try dsimp only); (repeat' split) <;> simp
@[simp] theorem changeHolder_safetyPort (l : Chan) (n : Option Port) (s : State) : (changeHolder l n s).safetyPort = s.safetyPort := by
  unfold changeHolder; (try dsimp only); (repeat' split) <;> simp
@[simp] theorem changeHolder_retained (l : Chan) (n : Option Port) (s : State) : (changeHolder l n s).retained = s.retained := by
  unfold changeHolder; (try dsimp only); (repeat' split) <;> simp
@[simp] theorem changeHolder_resetting (l : Chan) (n : Option Port) (s : State) : (changeHolder l n s).resetting = s.resetting := by
  unfold changeHolder; (try dsimp only); (repeat' split) <;> simp
@[simp] theorem changeHolder_consts (l : Chan) (n : Option Port) (s : State) : (changeHolder l n s).consts = s.consts := by
  unfold changeHolder; (try dsimp only); (repeat' split) <;> simp
@[simp] theorem changeHolder_signals (l : Chan) (n : Option Port) (s : State) : (changeHolder l n s).signals = s.signals := by
  unfold changeHolder; (try dsimp only); (repeat' split) <;> simp
@[simp] theorem changeHolder_pins (l : Chan) (n : Option Port) (s : State) : (changeHolder l n s).pins = s.pins := by
  unfold changeHolder; (try dsimp only); (repeat' split) <;> simp
@[simp] theorem changeHolder_period (l : Chan) (n : Option Port) (s : State) : (changeHolder l n s).period = s.period := by
  unfold changeHolder; (try dsimp only); (repeat' split) <;> simp
@[simp] theorem changeHolder_started (l : Chan) (n : Option Port) (s : State) : (changeHolder l n s).started = s.started := by
  unfold changeHolder; (try dsimp only); (repeat' split) <;> simp
@[simp] theorem changeHolder_envs (l : Chan) (n : Option Port) (s : State) : (changeHolder l n s).envs = s.envs := by
  unfold changeHolder; (try dsimp only); (repeat' split) <;> simp
@[simp] theorem changeHolder_link (l : Chan) (n : Option Port) (s : State) : (changeHolder l n s).link = s.link := by
  unfold changeHolder; (try dsimp only); (repeat' split) <;> simp
@[simp] theorem changeHolder_react (l : Chan) (n : Option Port) (s : State) : (changeHolder l n s).react = s.react := by
  unfold changeHolder; (try dsimp only); (repeat' split) <;> simp
@[simp] theorem changeHolder_inputs (l : Chan) (n : Option Port) (s : State) : (changeHolder l n s).inputs = s.inputs := by
  unfold changeHolder; (try dsimp only); (repeat' split) <;> simp
@[simp] theorem changeHolder_pending (l : Chan) (n : Option Port) (s : State) : (changeHolder l n s).pending = s.pending := by
  unfold changeHolder; (try dsimp only); (repeat' split) <;> simp

/-! `installHead` changes auth, queues, engines, allot, ports, wire at most. -/
@[simp] theorem installHead_phase (l : Chan) (s : State) : (installHead l s).phase = s.phase := by
  unfold installHead; (try dsimp only); (repeat' split) <;> simp
@[simp] theorem installHead_safetyPort (l : Chan) (s : State) : (installHead l s).safetyPort = s.safetyPort := by
  unfold installHead; (try dsimp only); (repeat' split) <;> simp
@[simp] theorem installHead_retained (l : Chan) (s : State) : (installHead l s).retained = s.retained := by
  unfold installHead; (try dsimp only); (repeat' split) <;> simp
@[simp] theorem installHead_resetting (l : Chan) (s : State) : (installHead l s).resetting = s.resetting := by
  unfold installHead; (try dsimp only); (repeat' split) <;> simp
@[simp] theorem installHead_consts (l : Chan) (s : State) : (installHead l s).consts = s.consts := by
  unfold installHead; (try dsimp only); (repeat' split) <;> simp
@[simp] theorem installHead_signals (l : Chan) (s : State) : (installHead l s).signals = s.signals := by
  unfold installHead; (try dsimp only); (repeat' split) <;> simp
@[simp] theorem installHead_pins (l : Chan) (s : State) : (installHead l s).pins = s.pins := by
  unfold installHead; (try dsimp only); (repeat' split) <;> simp
@[simp] theorem installHead_period (l : Chan) (s : State) : (installHead l s).period = s.period := by
  unfold installHead; (try dsimp only); (repeat' split) <;> simp
@[simp] theorem installHead_started (l : Chan) (s : State) : (installHead l s).started = s.started := by
  unfold installHead; (try dsimp only); (repeat' split) <;> simp
@[simp] theorem installHead_envs (l : Chan) (s : State) : (installHead l s).envs = s.envs := by
  unfold installHead; (try dsimp only); (repeat' split) <;> simp
@[simp] theorem installHead_link (l : Chan) (s : State) : (installHead l s).link = s.link := by
  unfold installHead; (try dsimp only); (repeat' split) <;> simp
@[simp] theorem installHead_react (l : Chan) (s : State) : (installHead l s).react = s.react := by
  unfold installHead; (try dsimp only); (repeat' split) <;> simp
@[simp] theorem installHead_inputs (l : Chan) (s : State) : (installHead l s).inputs = s.inputs := by
  unfold installHead; (try dsimp only); (repeat' split) <;> simp
@[simp] theorem installHead_pending (l : Chan) (s : State) : (installHead l s).pending = s.pending := by
  unfold installHead; (try dsimp only); (repeat' split) <;> simp

/-! `noticeHolder` changes ports at most. -/
@[simp] theorem noticeHolder_phase (l : Chan) (s : State) : (noticeHolder l s).phase = s.phase := by
  unfold noticeHolder; (try dsimp only); (repeat' split) <;> simp
@[simp] theorem noticeHolder_safetyPort (l : Chan) (s : State) : (noticeHolder l s).safetyPort = s.safetyPort := by
  unfold noticeHolder; (try dsimp only); (repeat' split) <;> simp
@[simp] theorem noticeHolder_retained (l : Chan) (s : State) : (noticeHolder l s).retained = s.retained := by
  unfold noticeHolder; (try dsimp only); (repeat' split) <;> simp
@[simp] theorem noticeHolder_resetting (l : Chan) (s : State) : (noticeHolder l s).resetting = s.resetting := by
  unfold noticeHolder; (try dsimp only); (repeat' split) <;> simp
@[simp] theorem noticeHolder_consts (l : Chan) (s : State) : (noticeHolder l s).consts = s.consts := by
  unfold noticeHolder; (try dsimp only); (repeat' split) <;> simp
@[simp] theorem noticeHolder_signals (l : Chan) (s : State) : (noticeHolder l s).signals = s.signals := by
  unfold noticeHolder; (try dsimp only); (repeat' split) <;> simp
@[simp] theorem noticeHolder_pins (l : Chan) (s : State) : (noticeHolder l s).pins = s.pins := by
  unfold noticeHolder; (try dsimp only); (repeat' split) <;> simp
@[simp] theorem noticeHolder_period (l : Chan) (s : State) : (noticeHolder l s).period = s.period := by
  unfold noticeHolder; (try dsimp only); (repeat' split) <;> simp
@[simp] theorem noticeHolder_started (l : Chan) (s : State) : (noticeHolder l s).started = s.started := by
  unfold noticeHolder; (try dsimp only); (repeat' split) <;> simp
@[simp] theorem noticeHolder_auth (l : Chan) (s : State) : (noticeHolder l s).auth = s.auth := by
  unfold noticeHolder; (try dsimp only); (repeat' split) <;> simp
@[simp] theorem noticeHolder_queues (l : Chan) (s : State) : (noticeHolder l s).queues = s.queues := by
  unfold noticeHolder; (try dsimp only); (repeat' split) <;> simp
@[simp] theorem noticeHolder_engines (l : Chan) (s : State) : (noticeHolder l s).engines = s.engines := by
  unfold noticeHolder; (try dsimp only); (repeat' split) <;> simp
@[simp] theorem noticeHolder_envs (l : Chan) (s : State) : (noticeHolder l s).envs = s.envs := by
  unfold noticeHolder; (try dsimp only); (repeat' split) <;> simp
@[simp] theorem noticeHolder_link (l : Chan) (s : State) : (noticeHolder l s).link = s.link := by
  unfold noticeHolder; (try dsimp only); (repeat' split) <;> simp
@[simp] theorem noticeHolder_allot (l : Chan) (s : State) : (noticeHolder l s).allot = s.allot := by
  unfold noticeHolder; (try dsimp only); (repeat' split) <;> simp
@[simp] theorem noticeHolder_react (l : Chan) (s : State) : (noticeHolder l s).react = s.react := by
  unfold noticeHolder; (try dsimp only); (repeat' split) <;> simp
@[simp] theorem noticeHolder_inputs (l : Chan) (s : State) : (noticeHolder l s).inputs = s.inputs := by
  unfold noticeHolder; (try dsimp only); (repeat' split) <;> simp
@[simp] theorem noticeHolder_wire (l : Chan) (s : State) : (noticeHolder l s).wire = s.wire := by
  unfold noticeHolder; (try dsimp only); (repeat' split) <;> simp
@[simp] theorem noticeHolder_pending (l : Chan) (s : State) : (noticeHolder l s).pending = s.pending := by
  unfold noticeHolder; (try dsimp only); (repeat' split) <;> simp

/-! `displace` changes auth, queues, engines, allot, ports, wire at most. -/
@[simp] theorem displace_phase (l : Chan) (p : Port) (s : State) : (displace l p s).phase = s.phase := by
  unfold displace; (try dsimp only); (repeat' split) <;> simp
@[simp] theorem displace_safetyPort (l : Chan) (p : Port) (s : State) : (displace l p s).safetyPort = s.safetyPort := by
  unfold displace; (try dsimp only); (repeat' split) <;> simp
@[simp] theorem displace_retained (l : Chan) (p : Port) (s : State) : (displace l p s).retained = s.retained := by
  unfold displace; (try dsimp only); (repeat' split) <;> simp
@[simp] theorem displace_resetting (l : Chan) (p : Port) (s : State) : (displace l p s).resetting = s.resetting := by
  unfold displace; (try dsimp only); (repeat' split) <;> simp
@[simp] theorem displace_consts (l : Chan) (p : Port) (s : State) : (displace l p s).consts = s.consts := by
  unfold displace; (try dsimp only); (repeat' split) <;> simp
@[simp] theorem displace_signals (l : Chan) (p : Port) (s : State) : (displace l p s).signals = s.signals := by
  unfold displace; (try dsimp only); (repeat' split) <;> simp
@[simp] theorem displace_pins (l : Chan) (p : Port) (s : State) : (displace l p s).pins = s.pins := by
  unfold displace; (try dsimp only); (repeat' split) <;> simp
@[simp] theorem displace_period (l : Chan) (p : Port) (s : State) : (displace l p s).period = s.period := by
  unfold displace; (try dsimp only); (repeat' split) <;> simp
@[simp] theorem displace_started (l : Chan) (p : Port) (s : State) : (displace l p s).started = s.started := by
  unfold displace; (try dsimp only); (repeat' split) <;> simp
@[simp] theorem displace_envs (l : Chan) (p : Port) (s : State) : (displace l p s).envs = s.envs := by
  unfold displace; (try dsimp only); (repeat' split) <;> simp
@[simp] theorem displace_link (l : Chan) (p : Port) (s : State) : (displace l p s).link = s.link := by
  unfold displace; (try dsimp only); (repeat' split) <;> simp
@[simp] theorem displace_react (l : Chan) (p : Port) (s : State) : (displace l p s).react = s.react := by
  unfold displace; (try dsimp only); (repeat' split) <;> simp
@[simp] theorem displace_inputs (l : Chan) (p : Port) (s : State) : (displace l p s).inputs = s.inputs := by
  unfold displace; (try dsimp only); (repeat' split) <;> simp
@[simp] theorem displace_pending (l : Chan) (p : Port) (s : State) : (displace l p s).pending = s.pending := by
  unfold displace; (try dsimp only); (repeat' split) <;> simp

/-! `preemptByHead` changes auth, queues, engines, allot, ports, wire at most. -/
@[simp] theorem preemptByHead_phase (l : Chan) (s : State) : (preemptByHead l s).phase = s.phase := by
  unfold preemptByHead; (try dsimp only); (repeat' split) <;> simp
@[simp] theorem preemptByHead_safetyPort (l : Chan) (s : State) : (preemptByHead l s).safetyPort = s.safetyPort := by
  unfold preemptByHead; (try dsimp only); (repeat' split) <;> simp
@[simp] theorem preemptByHead_retained (l : Chan) (s : State) : (preemptByHead l s).retained = s.retained := by
  unfold preemptByHead; (try dsimp only); (repeat' split) <;> simp
@[simp] theorem preemptByHead_resetting (l : Chan) (s : State) : (preemptByHead l s).resetting = s.resetting := by
  unfold preemptByHead; (try dsimp only); (repeat' split) <;> simp
@[simp] theorem preemptByHead_consts (l : Chan) (s : State) : (preemptByHead l s).consts = s.consts := by
  unfold preemptByHead; (try dsimp only); (repeat' split) <;> simp
@[simp] theorem preemptByHead_signals (l : Chan) (s : State) : (preemptByHead l s).signals = s.signals := by
  unfold preemptByHead; (try dsimp only); (repeat' split) <;> simp
@[simp] theorem preemptByHead_pins (l : Chan) (s : State) : (preemptByHead l s).pins = s.pins := by
  unfold preemptByHead; (try dsimp only); (repeat' split) <;> simp
@[simp] theorem preemptByHead_period (l : Chan) (s : State) : (preemptByHead l s).period = s.period := by
  unfold preemptByHead; (try dsimp only); (repeat' split) <;> simp
@[simp] theorem preemptByHead_started (l : Chan) (s : State) : (preemptByHead l s).started = s.started := by
  unfold preemptByHead; (try dsimp only); (repeat' split) <;> simp
@[simp] theorem preemptByHead_envs (l : Chan) (s : State) : (preemptByHead l s).envs = s.envs := by
  unfold preemptByHead; (try dsimp only); (repeat' split) <;> simp
@[simp] theorem preemptByHead_link (l : Chan) (s : State) : (preemptByHead l s).link = s.link := by
  unfold preemptByHead; (try dsimp only); (repeat' split) <;> simp
@[simp] theorem preemptByHead_react (l : Chan) (s : State) : (preemptByHead l s).react = s.react := by
  unfold preemptByHead; (try dsimp only); (repeat' split) <;> simp
@[simp] theorem preemptByHead_inputs (l : Chan) (s : State) : (preemptByHead l s).inputs = s.inputs := by
  unfold preemptByHead; (try dsimp only); (repeat' split) <;> simp
@[simp] theorem preemptByHead_pending (l : Chan) (s : State) : (preemptByHead l s).pending = s.pending := by
  unfold preemptByHead; (try dsimp only); (repeat' split) <;> simp

/-! `revokeStarved` changes auth, queues, engines, allot, ports, wire at most. -/
@[simp] theorem revokeStarved_phase (l : Chan) (e : Option W16) (s : State) : (revokeStarved l e s).phase = s.phase := by
  unfold revokeStarved; (try dsimp only); (repeat' split) <;> simp
@[simp] theorem revokeStarved_safetyPort (l : Chan) (e : Option W16) (s : State) : (revokeStarved l e s).safetyPort = s.safetyPort := by
  unfold revokeStarved; (try dsimp only); (repeat' split) <;> simp
@[simp] theorem revokeStarved_retained (l : Chan) (e : Option W16) (s : State) : (revokeStarved l e s).retained = s.retained := by
  unfold revokeStarved; (try dsimp only); (repeat' split) <;> simp
@[simp] theorem revokeStarved_resetting (l : Chan) (e : Option W16) (s : State) : (revokeStarved l e s).resetting = s.resetting := by
  unfold revokeStarved; (try dsimp only); (repeat' split) <;> simp
@[simp] theorem revokeStarved_consts (l : Chan) (e : Option W16) (s : State) : (revokeStarved l e s).consts = s.consts := by
  unfold revokeStarved; (try dsimp only); (repeat' split) <;> simp
@[simp] theorem revokeStarved_signals (l : Chan) (e : Option W16) (s : State) : (revokeStarved l e s).signals = s.signals := by
  unfold revokeStarved; (try dsimp only); (repeat' split) <;> simp
@[simp] theorem revokeStarved_pins (l : Chan) (e : Option W16) (s : State) : (revokeStarved l e s).pins = s.pins := by
  unfold revokeStarved; (try dsimp only); (repeat' split) <;> simp
@[simp] theorem revokeStarved_period (l : Chan) (e : Option W16) (s : State) : (revokeStarved l e s).period = s.period := by
  unfold revokeStarved; (try dsimp only); (repeat' split) <;> simp
@[simp] theorem revokeStarved_started (l : Chan) (e : Option W16) (s : State) : (revokeStarved l e s).started = s.started := by
  unfold revokeStarved; (try dsimp only); (repeat' split) <;> simp
@[simp] theorem revokeStarved_envs (l : Chan) (e : Option W16) (s : State) : (revokeStarved l e s).envs = s.envs := by
  unfold revokeStarved; (try dsimp only); (repeat' split) <;> simp
@[simp] theorem revokeStarved_link (l : Chan) (e : Option W16) (s : State) : (revokeStarved l e s).link = s.link := by
  unfold revokeStarved; (try dsimp only); (repeat' split) <;> simp
@[simp] theorem revokeStarved_react (l : Chan) (e : Option W16) (s : State) : (revokeStarved l e s).react = s.react := by
  unfold revokeStarved; (try dsimp only); (repeat' split) <;> simp
@[simp] theorem revokeStarved_inputs (l : Chan) (e : Option W16) (s : State) : (revokeStarved l e s).inputs = s.inputs := by
  unfold revokeStarved; (try dsimp only); (repeat' split) <;> simp
@[simp] theorem revokeStarved_pending (l : Chan) (e : Option W16) (s : State) : (revokeStarved l e s).pending = s.pending := by
  unfold revokeStarved; (try dsimp only); (repeat' split) <;> simp

/-! `revokePortFrom` changes auth, queues, engines, allot, ports, wire at most. -/
@[simp] theorem revokePortFrom_phase (p : Port) (l : Chan) (s : State) : (revokePortFrom p l s).phase = s.phase := by
  unfold revokePortFrom; (try dsimp only); (repeat' split) <;> simp
@[simp] theorem revokePortFrom_safetyPort (p : Port) (l : Chan) (s : State) : (revokePortFrom p l s).safetyPort = s.safetyPort := by
  unfold revokePortFrom; (try dsimp only); (repeat' split) <;> simp
@[simp] theorem revokePortFrom_retained (p : Port) (l : Chan) (s : State) : (revokePortFrom p l s).retained = s.retained := by
  unfold revokePortFrom; (try dsimp only); (repeat' split) <;> simp
@[simp] theorem revokePortFrom_resetting (p : Port) (l : Chan) (s : State) : (revokePortFrom p l s).resetting = s.resetting := by
  unfold revokePortFrom; (try dsimp only); (repeat' split) <;> simp
@[simp] theorem revokePortFrom_consts (p : Port) (l : Chan) (s : State) : (revokePortFrom p l s).consts = s.consts := by
  unfold revokePortFrom; (try dsimp only); (repeat' split) <;> simp
@[simp] theorem revokePortFrom_signals (p : Port) (l : Chan) (s : State) : (revokePortFrom p l s).signals = s.signals := by
  unfold revokePortFrom; (try dsimp only); (repeat' split) <;> simp
@[simp] theorem revokePortFrom_pins (p : Port) (l : Chan) (s : State) : (revokePortFrom p l s).pins = s.pins := by
  unfold revokePortFrom; (try dsimp only); (repeat' split) <;> simp
@[simp] theorem revokePortFrom_period (p : Port) (l : Chan) (s : State) : (revokePortFrom p l s).period = s.period := by
  unfold revokePortFrom; (try dsimp only); (repeat' split) <;> simp
@[simp] theorem revokePortFrom_started (p : Port) (l : Chan) (s : State) : (revokePortFrom p l s).started = s.started := by
  unfold revokePortFrom; (try dsimp only); (repeat' split) <;> simp
@[simp] theorem revokePortFrom_envs (p : Port) (l : Chan) (s : State) : (revokePortFrom p l s).envs = s.envs := by
  unfold revokePortFrom; (try dsimp only); (repeat' split) <;> simp
@[simp] theorem revokePortFrom_link (p : Port) (l : Chan) (s : State) : (revokePortFrom p l s).link = s.link := by
  unfold revokePortFrom; (try dsimp only); (repeat' split) <;> simp
@[simp] theorem revokePortFrom_react (p : Port) (l : Chan) (s : State) : (revokePortFrom p l s).react = s.react := by
  unfold revokePortFrom; (try dsimp only); (repeat' split) <;> simp
@[simp] theorem revokePortFrom_inputs (p : Port) (l : Chan) (s : State) : (revokePortFrom p l s).inputs = s.inputs := by
  unfold revokePortFrom; (try dsimp only); (repeat' split) <;> simp
@[simp] theorem revokePortFrom_pending (p : Port) (l : Chan) (s : State) : (revokePortFrom p l s).pending = s.pending := by
  unfold revokePortFrom; (try dsimp only); (repeat' split) <;> simp

/-! `revokePortFroms` changes auth, queues, engines, allot, ports, wire at most. -/
@[simp] theorem revokePortFroms_phase (p : Port) : ∀ (l : List Chan) (s : State), (revokePortFroms p l s).phase = s.phase
  | [], _ => rfl
  | c :: rest, s => by
    unfold revokePortFroms; (try split) <;> simp [revokePortFroms_phase p rest]
@[simp] theorem revokePortFroms_safetyPort (p : Port) : ∀ (l : List Chan) (s : State), (revokePortFroms p l s).safetyPort = s.safetyPort
  | [], _ => rfl
  | c :: rest, s => by
    unfold revokePortFroms; (try split) <;> simp [revokePortFroms_safetyPort p rest]
@[simp] theorem revokePortFroms_retained (p : Port) : ∀ (l : List Chan) (s : State), (revokePortFroms p l s).retained = s.retained
  | [], _ => rfl
  | c :: rest, s => by
    unfold revokePortFroms; (try split) <;> simp [revokePortFroms_retained p rest]
@[simp] theorem revokePortFroms_resetting (p : Port) : ∀ (l : List Chan) (s : State), (revokePortFroms p l s).resetting = s.resetting
  | [], _ => rfl
  | c :: rest, s => by
    unfold revokePortFroms; (try split) <;> simp [revokePortFroms_resetting p rest]
@[simp] theorem revokePortFroms_consts (p : Port) : ∀ (l : List Chan) (s : State), (revokePortFroms p l s).consts = s.consts
  | [], _ => rfl
  | c :: rest, s => by
    unfold revokePortFroms; (try split) <;> simp [revokePortFroms_consts p rest]
@[simp] theorem revokePortFroms_signals (p : Port) : ∀ (l : List Chan) (s : State), (revokePortFroms p l s).signals = s.signals
  | [], _ => rfl
  | c :: rest, s => by
    unfold revokePortFroms; (try split) <;> simp [revokePortFroms_signals p rest]
@[simp] theorem revokePortFroms_pins (p : Port) : ∀ (l : List Chan) (s : State), (revokePortFroms p l s).pins = s.pins
  | [], _ => rfl
  | c :: rest, s => by
    unfold revokePortFroms; (try split) <;> simp [revokePortFroms_pins p rest]
@[simp] theorem revokePortFroms_period (p : Port) : ∀ (l : List Chan) (s : State), (revokePortFroms p l s).period = s.period
  | [], _ => rfl
  | c :: rest, s => by
    unfold revokePortFroms; (try split) <;> simp [revokePortFroms_period p rest]
@[simp] theorem revokePortFroms_started (p : Port) : ∀ (l : List Chan) (s : State), (revokePortFroms p l s).started = s.started
  | [], _ => rfl
  | c :: rest, s => by
    unfold revokePortFroms; (try split) <;> simp [revokePortFroms_started p rest]
@[simp] theorem revokePortFroms_envs (p : Port) : ∀ (l : List Chan) (s : State), (revokePortFroms p l s).envs = s.envs
  | [], _ => rfl
  | c :: rest, s => by
    unfold revokePortFroms; (try split) <;> simp [revokePortFroms_envs p rest]
@[simp] theorem revokePortFroms_link (p : Port) : ∀ (l : List Chan) (s : State), (revokePortFroms p l s).link = s.link
  | [], _ => rfl
  | c :: rest, s => by
    unfold revokePortFroms; (try split) <;> simp [revokePortFroms_link p rest]
@[simp] theorem revokePortFroms_react (p : Port) : ∀ (l : List Chan) (s : State), (revokePortFroms p l s).react = s.react
  | [], _ => rfl
  | c :: rest, s => by
    unfold revokePortFroms; (try split) <;> simp [revokePortFroms_react p rest]
@[simp] theorem revokePortFroms_inputs (p : Port) : ∀ (l : List Chan) (s : State), (revokePortFroms p l s).inputs = s.inputs
  | [], _ => rfl
  | c :: rest, s => by
    unfold revokePortFroms; (try split) <;> simp [revokePortFroms_inputs p rest]
@[simp] theorem revokePortFroms_pending (p : Port) : ∀ (l : List Chan) (s : State), (revokePortFroms p l s).pending = s.pending
  | [], _ => rfl
  | c :: rest, s => by
    unfold revokePortFroms; (try split) <;> simp [revokePortFroms_pending p rest]

/-! `proposalNotices` changes ports at most. -/
@[simp] theorem proposalNotices_phase (e : ProposalEnd) (p : Port) (s : State) : (proposalNotices e p s).phase = s.phase := by
  unfold proposalNotices; (try dsimp only); (repeat' split) <;> simp
@[simp] theorem proposalNotices_safetyPort (e : ProposalEnd) (p : Port) (s : State) : (proposalNotices e p s).safetyPort = s.safetyPort := by
  unfold proposalNotices; (try dsimp only); (repeat' split) <;> simp
@[simp] theorem proposalNotices_retained (e : ProposalEnd) (p : Port) (s : State) : (proposalNotices e p s).retained = s.retained := by
  unfold proposalNotices; (try dsimp only); (repeat' split) <;> simp
@[simp] theorem proposalNotices_resetting (e : ProposalEnd) (p : Port) (s : State) : (proposalNotices e p s).resetting = s.resetting := by
  unfold proposalNotices; (try dsimp only); (repeat' split) <;> simp
@[simp] theorem proposalNotices_consts (e : ProposalEnd) (p : Port) (s : State) : (proposalNotices e p s).consts = s.consts := by
  unfold proposalNotices; (try dsimp only); (repeat' split) <;> simp
@[simp] theorem proposalNotices_signals (e : ProposalEnd) (p : Port) (s : State) : (proposalNotices e p s).signals = s.signals := by
  unfold proposalNotices; (try dsimp only); (repeat' split) <;> simp
@[simp] theorem proposalNotices_pins (e : ProposalEnd) (p : Port) (s : State) : (proposalNotices e p s).pins = s.pins := by
  unfold proposalNotices; (try dsimp only); (repeat' split) <;> simp
@[simp] theorem proposalNotices_period (e : ProposalEnd) (p : Port) (s : State) : (proposalNotices e p s).period = s.period := by
  unfold proposalNotices; (try dsimp only); (repeat' split) <;> simp
@[simp] theorem proposalNotices_started (e : ProposalEnd) (p : Port) (s : State) : (proposalNotices e p s).started = s.started := by
  unfold proposalNotices; (try dsimp only); (repeat' split) <;> simp
@[simp] theorem proposalNotices_auth (e : ProposalEnd) (p : Port) (s : State) : (proposalNotices e p s).auth = s.auth := by
  unfold proposalNotices; (try dsimp only); (repeat' split) <;> simp
@[simp] theorem proposalNotices_queues (e : ProposalEnd) (p : Port) (s : State) : (proposalNotices e p s).queues = s.queues := by
  unfold proposalNotices; (try dsimp only); (repeat' split) <;> simp
@[simp] theorem proposalNotices_engines (e : ProposalEnd) (p : Port) (s : State) : (proposalNotices e p s).engines = s.engines := by
  unfold proposalNotices; (try dsimp only); (repeat' split) <;> simp
@[simp] theorem proposalNotices_envs (e : ProposalEnd) (p : Port) (s : State) : (proposalNotices e p s).envs = s.envs := by
  unfold proposalNotices; (try dsimp only); (repeat' split) <;> simp
@[simp] theorem proposalNotices_link (e : ProposalEnd) (p : Port) (s : State) : (proposalNotices e p s).link = s.link := by
  unfold proposalNotices; (try dsimp only); (repeat' split) <;> simp
@[simp] theorem proposalNotices_allot (e : ProposalEnd) (p : Port) (s : State) : (proposalNotices e p s).allot = s.allot := by
  unfold proposalNotices; (try dsimp only); (repeat' split) <;> simp
@[simp] theorem proposalNotices_react (e : ProposalEnd) (p : Port) (s : State) : (proposalNotices e p s).react = s.react := by
  unfold proposalNotices; (try dsimp only); (repeat' split) <;> simp
@[simp] theorem proposalNotices_inputs (e : ProposalEnd) (p : Port) (s : State) : (proposalNotices e p s).inputs = s.inputs := by
  unfold proposalNotices; (try dsimp only); (repeat' split) <;> simp
@[simp] theorem proposalNotices_wire (e : ProposalEnd) (p : Port) (s : State) : (proposalNotices e p s).wire = s.wire := by
  unfold proposalNotices; (try dsimp only); (repeat' split) <;> simp
@[simp] theorem proposalNotices_pending (e : ProposalEnd) (p : Port) (s : State) : (proposalNotices e p s).pending = s.pending := by
  unfold proposalNotices; (try dsimp only); (repeat' split) <;> simp

/-! `endProposal` changes envs, ports at most. -/
@[simp] theorem endProposal_phase (l : Chan) (e : ProposalEnd) (s : State) : (endProposal l e s).phase = s.phase := by
  unfold endProposal; (try dsimp only); (repeat' split) <;> simp
@[simp] theorem endProposal_safetyPort (l : Chan) (e : ProposalEnd) (s : State) : (endProposal l e s).safetyPort = s.safetyPort := by
  unfold endProposal; (try dsimp only); (repeat' split) <;> simp
@[simp] theorem endProposal_retained (l : Chan) (e : ProposalEnd) (s : State) : (endProposal l e s).retained = s.retained := by
  unfold endProposal; (try dsimp only); (repeat' split) <;> simp
@[simp] theorem endProposal_resetting (l : Chan) (e : ProposalEnd) (s : State) : (endProposal l e s).resetting = s.resetting := by
  unfold endProposal; (try dsimp only); (repeat' split) <;> simp
@[simp] theorem endProposal_consts (l : Chan) (e : ProposalEnd) (s : State) : (endProposal l e s).consts = s.consts := by
  unfold endProposal; (try dsimp only); (repeat' split) <;> simp
@[simp] theorem endProposal_signals (l : Chan) (e : ProposalEnd) (s : State) : (endProposal l e s).signals = s.signals := by
  unfold endProposal; (try dsimp only); (repeat' split) <;> simp
@[simp] theorem endProposal_pins (l : Chan) (e : ProposalEnd) (s : State) : (endProposal l e s).pins = s.pins := by
  unfold endProposal; (try dsimp only); (repeat' split) <;> simp
@[simp] theorem endProposal_period (l : Chan) (e : ProposalEnd) (s : State) : (endProposal l e s).period = s.period := by
  unfold endProposal; (try dsimp only); (repeat' split) <;> simp
@[simp] theorem endProposal_started (l : Chan) (e : ProposalEnd) (s : State) : (endProposal l e s).started = s.started := by
  unfold endProposal; (try dsimp only); (repeat' split) <;> simp
@[simp] theorem endProposal_auth (l : Chan) (e : ProposalEnd) (s : State) : (endProposal l e s).auth = s.auth := by
  unfold endProposal; (try dsimp only); (repeat' split) <;> simp
@[simp] theorem endProposal_queues (l : Chan) (e : ProposalEnd) (s : State) : (endProposal l e s).queues = s.queues := by
  unfold endProposal; (try dsimp only); (repeat' split) <;> simp
@[simp] theorem endProposal_engines (l : Chan) (e : ProposalEnd) (s : State) : (endProposal l e s).engines = s.engines := by
  unfold endProposal; (try dsimp only); (repeat' split) <;> simp
@[simp] theorem endProposal_link (l : Chan) (e : ProposalEnd) (s : State) : (endProposal l e s).link = s.link := by
  unfold endProposal; (try dsimp only); (repeat' split) <;> simp
@[simp] theorem endProposal_allot (l : Chan) (e : ProposalEnd) (s : State) : (endProposal l e s).allot = s.allot := by
  unfold endProposal; (try dsimp only); (repeat' split) <;> simp
@[simp] theorem endProposal_react (l : Chan) (e : ProposalEnd) (s : State) : (endProposal l e s).react = s.react := by
  unfold endProposal; (try dsimp only); (repeat' split) <;> simp
@[simp] theorem endProposal_inputs (l : Chan) (e : ProposalEnd) (s : State) : (endProposal l e s).inputs = s.inputs := by
  unfold endProposal; (try dsimp only); (repeat' split) <;> simp
@[simp] theorem endProposal_wire (l : Chan) (e : ProposalEnd) (s : State) : (endProposal l e s).wire = s.wire := by
  unfold endProposal; (try dsimp only); (repeat' split) <;> simp
@[simp] theorem endProposal_pending (l : Chan) (e : ProposalEnd) (s : State) : (endProposal l e s).pending = s.pending := by
  unfold endProposal; (try dsimp only); (repeat' split) <;> simp

/-! `withdrawProposals` changes envs, ports at most. -/
@[simp] theorem withdrawProposals_phase (p : Port) : ∀ (l : List Chan) (s : State), (withdrawProposals p l s).phase = s.phase
  | [], _ => rfl
  | c :: rest, s => by
    unfold withdrawProposals; (try split) <;> simp [withdrawProposals_phase p rest]
@[simp] theorem withdrawProposals_safetyPort (p : Port) : ∀ (l : List Chan) (s : State), (withdrawProposals p l s).safetyPort = s.safetyPort
  | [], _ => rfl
  | c :: rest, s => by
    unfold withdrawProposals; (try split) <;> simp [withdrawProposals_safetyPort p rest]
@[simp] theorem withdrawProposals_retained (p : Port) : ∀ (l : List Chan) (s : State), (withdrawProposals p l s).retained = s.retained
  | [], _ => rfl
  | c :: rest, s => by
    unfold withdrawProposals; (try split) <;> simp [withdrawProposals_retained p rest]
@[simp] theorem withdrawProposals_resetting (p : Port) : ∀ (l : List Chan) (s : State), (withdrawProposals p l s).resetting = s.resetting
  | [], _ => rfl
  | c :: rest, s => by
    unfold withdrawProposals; (try split) <;> simp [withdrawProposals_resetting p rest]
@[simp] theorem withdrawProposals_consts (p : Port) : ∀ (l : List Chan) (s : State), (withdrawProposals p l s).consts = s.consts
  | [], _ => rfl
  | c :: rest, s => by
    unfold withdrawProposals; (try split) <;> simp [withdrawProposals_consts p rest]
@[simp] theorem withdrawProposals_signals (p : Port) : ∀ (l : List Chan) (s : State), (withdrawProposals p l s).signals = s.signals
  | [], _ => rfl
  | c :: rest, s => by
    unfold withdrawProposals; (try split) <;> simp [withdrawProposals_signals p rest]
@[simp] theorem withdrawProposals_pins (p : Port) : ∀ (l : List Chan) (s : State), (withdrawProposals p l s).pins = s.pins
  | [], _ => rfl
  | c :: rest, s => by
    unfold withdrawProposals; (try split) <;> simp [withdrawProposals_pins p rest]
@[simp] theorem withdrawProposals_period (p : Port) : ∀ (l : List Chan) (s : State), (withdrawProposals p l s).period = s.period
  | [], _ => rfl
  | c :: rest, s => by
    unfold withdrawProposals; (try split) <;> simp [withdrawProposals_period p rest]
@[simp] theorem withdrawProposals_started (p : Port) : ∀ (l : List Chan) (s : State), (withdrawProposals p l s).started = s.started
  | [], _ => rfl
  | c :: rest, s => by
    unfold withdrawProposals; (try split) <;> simp [withdrawProposals_started p rest]
@[simp] theorem withdrawProposals_auth (p : Port) : ∀ (l : List Chan) (s : State), (withdrawProposals p l s).auth = s.auth
  | [], _ => rfl
  | c :: rest, s => by
    unfold withdrawProposals; (try split) <;> simp [withdrawProposals_auth p rest]
@[simp] theorem withdrawProposals_queues (p : Port) : ∀ (l : List Chan) (s : State), (withdrawProposals p l s).queues = s.queues
  | [], _ => rfl
  | c :: rest, s => by
    unfold withdrawProposals; (try split) <;> simp [withdrawProposals_queues p rest]
@[simp] theorem withdrawProposals_engines (p : Port) : ∀ (l : List Chan) (s : State), (withdrawProposals p l s).engines = s.engines
  | [], _ => rfl
  | c :: rest, s => by
    unfold withdrawProposals; (try split) <;> simp [withdrawProposals_engines p rest]
@[simp] theorem withdrawProposals_link (p : Port) : ∀ (l : List Chan) (s : State), (withdrawProposals p l s).link = s.link
  | [], _ => rfl
  | c :: rest, s => by
    unfold withdrawProposals; (try split) <;> simp [withdrawProposals_link p rest]
@[simp] theorem withdrawProposals_allot (p : Port) : ∀ (l : List Chan) (s : State), (withdrawProposals p l s).allot = s.allot
  | [], _ => rfl
  | c :: rest, s => by
    unfold withdrawProposals; (try split) <;> simp [withdrawProposals_allot p rest]
@[simp] theorem withdrawProposals_react (p : Port) : ∀ (l : List Chan) (s : State), (withdrawProposals p l s).react = s.react
  | [], _ => rfl
  | c :: rest, s => by
    unfold withdrawProposals; (try split) <;> simp [withdrawProposals_react p rest]
@[simp] theorem withdrawProposals_inputs (p : Port) : ∀ (l : List Chan) (s : State), (withdrawProposals p l s).inputs = s.inputs
  | [], _ => rfl
  | c :: rest, s => by
    unfold withdrawProposals; (try split) <;> simp [withdrawProposals_inputs p rest]
@[simp] theorem withdrawProposals_wire (p : Port) : ∀ (l : List Chan) (s : State), (withdrawProposals p l s).wire = s.wire
  | [], _ => rfl
  | c :: rest, s => by
    unfold withdrawProposals; (try split) <;> simp [withdrawProposals_wire p rest]
@[simp] theorem withdrawProposals_pending (p : Port) : ∀ (l : List Chan) (s : State), (withdrawProposals p l s).pending = s.pending
  | [], _ => rfl
  | c :: rest, s => by
    unfold withdrawProposals; (try split) <;> simp [withdrawProposals_pending p rest]

/-! `releaseHeld` changes react at most. -/
@[simp] theorem releaseHeld_phase (s : State) : (releaseHeld s).phase = s.phase := by
  unfold releaseHeld; (try dsimp only); (repeat' split) <;> simp
@[simp] theorem releaseHeld_safetyPort (s : State) : (releaseHeld s).safetyPort = s.safetyPort := by
  unfold releaseHeld; (try dsimp only); (repeat' split) <;> simp
@[simp] theorem releaseHeld_retained (s : State) : (releaseHeld s).retained = s.retained := by
  unfold releaseHeld; (try dsimp only); (repeat' split) <;> simp
@[simp] theorem releaseHeld_resetting (s : State) : (releaseHeld s).resetting = s.resetting := by
  unfold releaseHeld; (try dsimp only); (repeat' split) <;> simp
@[simp] theorem releaseHeld_consts (s : State) : (releaseHeld s).consts = s.consts := by
  unfold releaseHeld; (try dsimp only); (repeat' split) <;> simp
@[simp] theorem releaseHeld_signals (s : State) : (releaseHeld s).signals = s.signals := by
  unfold releaseHeld; (try dsimp only); (repeat' split) <;> simp
@[simp] theorem releaseHeld_pins (s : State) : (releaseHeld s).pins = s.pins := by
  unfold releaseHeld; (try dsimp only); (repeat' split) <;> simp
@[simp] theorem releaseHeld_period (s : State) : (releaseHeld s).period = s.period := by
  unfold releaseHeld; (try dsimp only); (repeat' split) <;> simp
@[simp] theorem releaseHeld_started (s : State) : (releaseHeld s).started = s.started := by
  unfold releaseHeld; (try dsimp only); (repeat' split) <;> simp
@[simp] theorem releaseHeld_auth (s : State) : (releaseHeld s).auth = s.auth := by
  unfold releaseHeld; (try dsimp only); (repeat' split) <;> simp
@[simp] theorem releaseHeld_queues (s : State) : (releaseHeld s).queues = s.queues := by
  unfold releaseHeld; (try dsimp only); (repeat' split) <;> simp
@[simp] theorem releaseHeld_engines (s : State) : (releaseHeld s).engines = s.engines := by
  unfold releaseHeld; (try dsimp only); (repeat' split) <;> simp
@[simp] theorem releaseHeld_envs (s : State) : (releaseHeld s).envs = s.envs := by
  unfold releaseHeld; (try dsimp only); (repeat' split) <;> simp
@[simp] theorem releaseHeld_link (s : State) : (releaseHeld s).link = s.link := by
  unfold releaseHeld; (try dsimp only); (repeat' split) <;> simp
@[simp] theorem releaseHeld_allot (s : State) : (releaseHeld s).allot = s.allot := by
  unfold releaseHeld; (try dsimp only); (repeat' split) <;> simp
@[simp] theorem releaseHeld_inputs (s : State) : (releaseHeld s).inputs = s.inputs := by
  unfold releaseHeld; (try dsimp only); (repeat' split) <;> simp
@[simp] theorem releaseHeld_ports (s : State) : (releaseHeld s).ports = s.ports := by
  unfold releaseHeld; (try dsimp only); (repeat' split) <;> simp
@[simp] theorem releaseHeld_wire (s : State) : (releaseHeld s).wire = s.wire := by
  unfold releaseHeld; (try dsimp only); (repeat' split) <;> simp
@[simp] theorem releaseHeld_pending (s : State) : (releaseHeld s).pending = s.pending := by
  unfold releaseHeld; (try dsimp only); (repeat' split) <;> simp

/-! `endSafeStop` changes react, ports at most. -/
@[simp] theorem endSafeStop_phase (e : ReactionEnd) (s : State) : (endSafeStop e s).phase = s.phase := by
  unfold endSafeStop; (try dsimp only); (repeat' split) <;> simp
@[simp] theorem endSafeStop_safetyPort (e : ReactionEnd) (s : State) : (endSafeStop e s).safetyPort = s.safetyPort := by
  unfold endSafeStop; (try dsimp only); (repeat' split) <;> simp
@[simp] theorem endSafeStop_retained (e : ReactionEnd) (s : State) : (endSafeStop e s).retained = s.retained := by
  unfold endSafeStop; (try dsimp only); (repeat' split) <;> simp
@[simp] theorem endSafeStop_resetting (e : ReactionEnd) (s : State) : (endSafeStop e s).resetting = s.resetting := by
  unfold endSafeStop; (try dsimp only); (repeat' split) <;> simp
@[simp] theorem endSafeStop_consts (e : ReactionEnd) (s : State) : (endSafeStop e s).consts = s.consts := by
  unfold endSafeStop; (try dsimp only); (repeat' split) <;> simp
@[simp] theorem endSafeStop_signals (e : ReactionEnd) (s : State) : (endSafeStop e s).signals = s.signals := by
  unfold endSafeStop; (try dsimp only); (repeat' split) <;> simp
@[simp] theorem endSafeStop_pins (e : ReactionEnd) (s : State) : (endSafeStop e s).pins = s.pins := by
  unfold endSafeStop; (try dsimp only); (repeat' split) <;> simp
@[simp] theorem endSafeStop_period (e : ReactionEnd) (s : State) : (endSafeStop e s).period = s.period := by
  unfold endSafeStop; (try dsimp only); (repeat' split) <;> simp
@[simp] theorem endSafeStop_started (e : ReactionEnd) (s : State) : (endSafeStop e s).started = s.started := by
  unfold endSafeStop; (try dsimp only); (repeat' split) <;> simp
@[simp] theorem endSafeStop_auth (e : ReactionEnd) (s : State) : (endSafeStop e s).auth = s.auth := by
  unfold endSafeStop; (try dsimp only); (repeat' split) <;> simp
@[simp] theorem endSafeStop_queues (e : ReactionEnd) (s : State) : (endSafeStop e s).queues = s.queues := by
  unfold endSafeStop; (try dsimp only); (repeat' split) <;> simp
@[simp] theorem endSafeStop_engines (e : ReactionEnd) (s : State) : (endSafeStop e s).engines = s.engines := by
  unfold endSafeStop; (try dsimp only); (repeat' split) <;> simp
@[simp] theorem endSafeStop_envs (e : ReactionEnd) (s : State) : (endSafeStop e s).envs = s.envs := by
  unfold endSafeStop; (try dsimp only); (repeat' split) <;> simp
@[simp] theorem endSafeStop_link (e : ReactionEnd) (s : State) : (endSafeStop e s).link = s.link := by
  unfold endSafeStop; (try dsimp only); (repeat' split) <;> simp
@[simp] theorem endSafeStop_allot (e : ReactionEnd) (s : State) : (endSafeStop e s).allot = s.allot := by
  unfold endSafeStop; (try dsimp only); (repeat' split) <;> simp
@[simp] theorem endSafeStop_inputs (e : ReactionEnd) (s : State) : (endSafeStop e s).inputs = s.inputs := by
  unfold endSafeStop; (try dsimp only); (repeat' split) <;> simp
@[simp] theorem endSafeStop_wire (e : ReactionEnd) (s : State) : (endSafeStop e s).wire = s.wire := by
  unfold endSafeStop; (try dsimp only); (repeat' split) <;> simp
@[simp] theorem endSafeStop_pending (e : ReactionEnd) (s : State) : (endSafeStop e s).pending = s.pending := by
  unfold endSafeStop; (try dsimp only); (repeat' split) <;> simp

/-! `endLinkReaction` changes react, ports at most. -/
@[simp] theorem endLinkReaction_phase (k : FaultKind) (s : State) : (endLinkReaction k s).phase = s.phase := by
  unfold endLinkReaction; (try dsimp only); (repeat' split) <;> simp
@[simp] theorem endLinkReaction_safetyPort (k : FaultKind) (s : State) : (endLinkReaction k s).safetyPort = s.safetyPort := by
  unfold endLinkReaction; (try dsimp only); (repeat' split) <;> simp
@[simp] theorem endLinkReaction_retained (k : FaultKind) (s : State) : (endLinkReaction k s).retained = s.retained := by
  unfold endLinkReaction; (try dsimp only); (repeat' split) <;> simp
@[simp] theorem endLinkReaction_resetting (k : FaultKind) (s : State) : (endLinkReaction k s).resetting = s.resetting := by
  unfold endLinkReaction; (try dsimp only); (repeat' split) <;> simp
@[simp] theorem endLinkReaction_consts (k : FaultKind) (s : State) : (endLinkReaction k s).consts = s.consts := by
  unfold endLinkReaction; (try dsimp only); (repeat' split) <;> simp
@[simp] theorem endLinkReaction_signals (k : FaultKind) (s : State) : (endLinkReaction k s).signals = s.signals := by
  unfold endLinkReaction; (try dsimp only); (repeat' split) <;> simp
@[simp] theorem endLinkReaction_pins (k : FaultKind) (s : State) : (endLinkReaction k s).pins = s.pins := by
  unfold endLinkReaction; (try dsimp only); (repeat' split) <;> simp
@[simp] theorem endLinkReaction_period (k : FaultKind) (s : State) : (endLinkReaction k s).period = s.period := by
  unfold endLinkReaction; (try dsimp only); (repeat' split) <;> simp
@[simp] theorem endLinkReaction_started (k : FaultKind) (s : State) : (endLinkReaction k s).started = s.started := by
  unfold endLinkReaction; (try dsimp only); (repeat' split) <;> simp
@[simp] theorem endLinkReaction_auth (k : FaultKind) (s : State) : (endLinkReaction k s).auth = s.auth := by
  unfold endLinkReaction; (try dsimp only); (repeat' split) <;> simp
@[simp] theorem endLinkReaction_queues (k : FaultKind) (s : State) : (endLinkReaction k s).queues = s.queues := by
  unfold endLinkReaction; (try dsimp only); (repeat' split) <;> simp
@[simp] theorem endLinkReaction_engines (k : FaultKind) (s : State) : (endLinkReaction k s).engines = s.engines := by
  unfold endLinkReaction; (try dsimp only); (repeat' split) <;> simp
@[simp] theorem endLinkReaction_envs (k : FaultKind) (s : State) : (endLinkReaction k s).envs = s.envs := by
  unfold endLinkReaction; (try dsimp only); (repeat' split) <;> simp
@[simp] theorem endLinkReaction_link (k : FaultKind) (s : State) : (endLinkReaction k s).link = s.link := by
  unfold endLinkReaction; (try dsimp only); (repeat' split) <;> simp
@[simp] theorem endLinkReaction_allot (k : FaultKind) (s : State) : (endLinkReaction k s).allot = s.allot := by
  unfold endLinkReaction; (try dsimp only); (repeat' split) <;> simp
@[simp] theorem endLinkReaction_inputs (k : FaultKind) (s : State) : (endLinkReaction k s).inputs = s.inputs := by
  unfold endLinkReaction; (try dsimp only); (repeat' split) <;> simp
@[simp] theorem endLinkReaction_wire (k : FaultKind) (s : State) : (endLinkReaction k s).wire = s.wire := by
  unfold endLinkReaction; (try dsimp only); (repeat' split) <;> simp
@[simp] theorem endLinkReaction_pending (k : FaultKind) (s : State) : (endLinkReaction k s).pending = s.pending := by
  unfold endLinkReaction; (try dsimp only); (repeat' split) <;> simp

end Sys2Proof.Machine
end

