-- ==== Sys2Proof/Laws/Reactions.lean ====
section
/-! SUPPORT. The Reaction Controller's operations: for each, one lemma for each field it leaves alone -/

namespace Sys2Proof.Machine

/-! `beginLinkReaction` changes queues, react, retained, ports at most. -/
@[simp] theorem beginLinkReaction_phase (x : PendingEntry) (s : State) : (beginLinkReaction x s).phase = s.phase := by
  unfold beginLinkReaction; (try dsimp only); (repeat' split) <;> simp
@[simp] theorem beginLinkReaction_safetyPort (x : PendingEntry) (s : State) : (beginLinkReaction x s).safetyPort = s.safetyPort := by
  unfold beginLinkReaction; (try dsimp only); (repeat' split) <;> simp
@[simp] theorem beginLinkReaction_resetting (x : PendingEntry) (s : State) : (beginLinkReaction x s).resetting = s.resetting := by
  unfold beginLinkReaction; (try dsimp only); (repeat' split) <;> simp
@[simp] theorem beginLinkReaction_consts (x : PendingEntry) (s : State) : (beginLinkReaction x s).consts = s.consts := by
  unfold beginLinkReaction; (try dsimp only); (repeat' split) <;> simp
@[simp] theorem beginLinkReaction_signals (x : PendingEntry) (s : State) : (beginLinkReaction x s).signals = s.signals := by
  unfold beginLinkReaction; (try dsimp only); (repeat' split) <;> simp
@[simp] theorem beginLinkReaction_pins (x : PendingEntry) (s : State) : (beginLinkReaction x s).pins = s.pins := by
  unfold beginLinkReaction; (try dsimp only); (repeat' split) <;> simp
@[simp] theorem beginLinkReaction_period (x : PendingEntry) (s : State) : (beginLinkReaction x s).period = s.period := by
  unfold beginLinkReaction; (try dsimp only); (repeat' split) <;> simp
@[simp] theorem beginLinkReaction_started (x : PendingEntry) (s : State) : (beginLinkReaction x s).started = s.started := by
  unfold beginLinkReaction; (try dsimp only); (repeat' split) <;> simp
@[simp] theorem beginLinkReaction_auth (x : PendingEntry) (s : State) : (beginLinkReaction x s).auth = s.auth := by
  unfold beginLinkReaction; (try dsimp only); (repeat' split) <;> simp
@[simp] theorem beginLinkReaction_engines (x : PendingEntry) (s : State) : (beginLinkReaction x s).engines = s.engines := by
  unfold beginLinkReaction; (try dsimp only); (repeat' split) <;> simp
@[simp] theorem beginLinkReaction_envs (x : PendingEntry) (s : State) : (beginLinkReaction x s).envs = s.envs := by
  unfold beginLinkReaction; (try dsimp only); (repeat' split) <;> simp
@[simp] theorem beginLinkReaction_link (x : PendingEntry) (s : State) : (beginLinkReaction x s).link = s.link := by
  unfold beginLinkReaction; (try dsimp only); (repeat' split) <;> simp
@[simp] theorem beginLinkReaction_allot (x : PendingEntry) (s : State) : (beginLinkReaction x s).allot = s.allot := by
  unfold beginLinkReaction; (try dsimp only); (repeat' split) <;> simp
@[simp] theorem beginLinkReaction_inputs (x : PendingEntry) (s : State) : (beginLinkReaction x s).inputs = s.inputs := by
  unfold beginLinkReaction; (try dsimp only); (repeat' split) <;> simp
@[simp] theorem beginLinkReaction_wire (x : PendingEntry) (s : State) : (beginLinkReaction x s).wire = s.wire := by
  unfold beginLinkReaction; (try dsimp only); (repeat' split) <;> simp
@[simp] theorem beginLinkReaction_pending (x : PendingEntry) (s : State) : (beginLinkReaction x s).pending = s.pending := by
  unfold beginLinkReaction; (try dsimp only); (repeat' split) <;> simp

/-! `beginSafeStop` changes queues, react, retained, ports at most. -/
@[simp] theorem beginSafeStop_phase (x : PendingEntry) (s : State) : (beginSafeStop x s).phase = s.phase := by
  unfold beginSafeStop; (try dsimp only); (repeat' split) <;> simp
@[simp] theorem beginSafeStop_safetyPort (x : PendingEntry) (s : State) : (beginSafeStop x s).safetyPort = s.safetyPort := by
  unfold beginSafeStop; (try dsimp only); (repeat' split) <;> simp
@[simp] theorem beginSafeStop_resetting (x : PendingEntry) (s : State) : (beginSafeStop x s).resetting = s.resetting := by
  unfold beginSafeStop; (try dsimp only); (repeat' split) <;> simp
@[simp] theorem beginSafeStop_consts (x : PendingEntry) (s : State) : (beginSafeStop x s).consts = s.consts := by
  unfold beginSafeStop; (try dsimp only); (repeat' split) <;> simp
@[simp] theorem beginSafeStop_signals (x : PendingEntry) (s : State) : (beginSafeStop x s).signals = s.signals := by
  unfold beginSafeStop; (try dsimp only); (repeat' split) <;> simp
@[simp] theorem beginSafeStop_pins (x : PendingEntry) (s : State) : (beginSafeStop x s).pins = s.pins := by
  unfold beginSafeStop; (try dsimp only); (repeat' split) <;> simp
@[simp] theorem beginSafeStop_period (x : PendingEntry) (s : State) : (beginSafeStop x s).period = s.period := by
  unfold beginSafeStop; (try dsimp only); (repeat' split) <;> simp
@[simp] theorem beginSafeStop_started (x : PendingEntry) (s : State) : (beginSafeStop x s).started = s.started := by
  unfold beginSafeStop; (try dsimp only); (repeat' split) <;> simp
@[simp] theorem beginSafeStop_auth (x : PendingEntry) (s : State) : (beginSafeStop x s).auth = s.auth := by
  unfold beginSafeStop; (try dsimp only); (repeat' split) <;> simp
@[simp] theorem beginSafeStop_engines (x : PendingEntry) (s : State) : (beginSafeStop x s).engines = s.engines := by
  unfold beginSafeStop; (try dsimp only); (repeat' split) <;> simp
@[simp] theorem beginSafeStop_envs (x : PendingEntry) (s : State) : (beginSafeStop x s).envs = s.envs := by
  unfold beginSafeStop; (try dsimp only); (repeat' split) <;> simp
@[simp] theorem beginSafeStop_link (x : PendingEntry) (s : State) : (beginSafeStop x s).link = s.link := by
  unfold beginSafeStop; (try dsimp only); (repeat' split) <;> simp
@[simp] theorem beginSafeStop_allot (x : PendingEntry) (s : State) : (beginSafeStop x s).allot = s.allot := by
  unfold beginSafeStop; (try dsimp only); (repeat' split) <;> simp
@[simp] theorem beginSafeStop_inputs (x : PendingEntry) (s : State) : (beginSafeStop x s).inputs = s.inputs := by
  unfold beginSafeStop; (try dsimp only); (repeat' split) <;> simp
@[simp] theorem beginSafeStop_wire (x : PendingEntry) (s : State) : (beginSafeStop x s).wire = s.wire := by
  unfold beginSafeStop; (try dsimp only); (repeat' split) <;> simp
@[simp] theorem beginSafeStop_pending (x : PendingEntry) (s : State) : (beginSafeStop x s).pending = s.pending := by
  unfold beginSafeStop; (try dsimp only); (repeat' split) <;> simp

/-! `portSilentReaction` changes auth, queues, engines, allot, envs, ports, wire at most. -/
@[simp] theorem portSilentReaction_phase (p : Port) (s : State) : (portSilentReaction p s).phase = s.phase := by
  unfold portSilentReaction; (try dsimp only); (repeat' split) <;> simp
@[simp] theorem portSilentReaction_safetyPort (p : Port) (s : State) : (portSilentReaction p s).safetyPort = s.safetyPort := by
  unfold portSilentReaction; (try dsimp only); (repeat' split) <;> simp
@[simp] theorem portSilentReaction_retained (p : Port) (s : State) : (portSilentReaction p s).retained = s.retained := by
  unfold portSilentReaction; (try dsimp only); (repeat' split) <;> simp
@[simp] theorem portSilentReaction_resetting (p : Port) (s : State) : (portSilentReaction p s).resetting = s.resetting := by
  unfold portSilentReaction; (try dsimp only); (repeat' split) <;> simp
@[simp] theorem portSilentReaction_consts (p : Port) (s : State) : (portSilentReaction p s).consts = s.consts := by
  unfold portSilentReaction; (try dsimp only); (repeat' split) <;> simp
@[simp] theorem portSilentReaction_signals (p : Port) (s : State) : (portSilentReaction p s).signals = s.signals := by
  unfold portSilentReaction; (try dsimp only); (repeat' split) <;> simp
@[simp] theorem portSilentReaction_pins (p : Port) (s : State) : (portSilentReaction p s).pins = s.pins := by
  unfold portSilentReaction; (try dsimp only); (repeat' split) <;> simp
@[simp] theorem portSilentReaction_period (p : Port) (s : State) : (portSilentReaction p s).period = s.period := by
  unfold portSilentReaction; (try dsimp only); (repeat' split) <;> simp
@[simp] theorem portSilentReaction_started (p : Port) (s : State) : (portSilentReaction p s).started = s.started := by
  unfold portSilentReaction; (try dsimp only); (repeat' split) <;> simp
@[simp] theorem portSilentReaction_link (p : Port) (s : State) : (portSilentReaction p s).link = s.link := by
  unfold portSilentReaction; (try dsimp only); (repeat' split) <;> simp
@[simp] theorem portSilentReaction_react (p : Port) (s : State) : (portSilentReaction p s).react = s.react := by
  unfold portSilentReaction; (try dsimp only); (repeat' split) <;> simp
@[simp] theorem portSilentReaction_inputs (p : Port) (s : State) : (portSilentReaction p s).inputs = s.inputs := by
  unfold portSilentReaction; (try dsimp only); (repeat' split) <;> simp
@[simp] theorem portSilentReaction_pending (p : Port) (s : State) : (portSilentReaction p s).pending = s.pending := by
  unfold portSilentReaction; (try dsimp only); (repeat' split) <;> simp

/-! `starvedReaction` changes auth, queues, engines, allot, ports, wire at most. -/
@[simp] theorem starvedReaction_phase (c : Chan) (e : Option W16) (s : State) : (starvedReaction c e s).phase = s.phase := by
  unfold starvedReaction; (try dsimp only); (repeat' split) <;> simp
@[simp] theorem starvedReaction_safetyPort (c : Chan) (e : Option W16) (s : State) : (starvedReaction c e s).safetyPort = s.safetyPort := by
  unfold starvedReaction; (try dsimp only); (repeat' split) <;> simp
@[simp] theorem starvedReaction_retained (c : Chan) (e : Option W16) (s : State) : (starvedReaction c e s).retained = s.retained := by
  unfold starvedReaction; (try dsimp only); (repeat' split) <;> simp
@[simp] theorem starvedReaction_resetting (c : Chan) (e : Option W16) (s : State) : (starvedReaction c e s).resetting = s.resetting := by
  unfold starvedReaction; (try dsimp only); (repeat' split) <;> simp
@[simp] theorem starvedReaction_consts (c : Chan) (e : Option W16) (s : State) : (starvedReaction c e s).consts = s.consts := by
  unfold starvedReaction; (try dsimp only); (repeat' split) <;> simp
@[simp] theorem starvedReaction_signals (c : Chan) (e : Option W16) (s : State) : (starvedReaction c e s).signals = s.signals := by
  unfold starvedReaction; (try dsimp only); (repeat' split) <;> simp
@[simp] theorem starvedReaction_pins (c : Chan) (e : Option W16) (s : State) : (starvedReaction c e s).pins = s.pins := by
  unfold starvedReaction; (try dsimp only); (repeat' split) <;> simp
@[simp] theorem starvedReaction_period (c : Chan) (e : Option W16) (s : State) : (starvedReaction c e s).period = s.period := by
  unfold starvedReaction; (try dsimp only); (repeat' split) <;> simp
@[simp] theorem starvedReaction_started (c : Chan) (e : Option W16) (s : State) : (starvedReaction c e s).started = s.started := by
  unfold starvedReaction; (try dsimp only); (repeat' split) <;> simp
@[simp] theorem starvedReaction_envs (c : Chan) (e : Option W16) (s : State) : (starvedReaction c e s).envs = s.envs := by
  unfold starvedReaction; (try dsimp only); (repeat' split) <;> simp
@[simp] theorem starvedReaction_link (c : Chan) (e : Option W16) (s : State) : (starvedReaction c e s).link = s.link := by
  unfold starvedReaction; (try dsimp only); (repeat' split) <;> simp
@[simp] theorem starvedReaction_react (c : Chan) (e : Option W16) (s : State) : (starvedReaction c e s).react = s.react := by
  unfold starvedReaction; (try dsimp only); (repeat' split) <;> simp
@[simp] theorem starvedReaction_inputs (c : Chan) (e : Option W16) (s : State) : (starvedReaction c e s).inputs = s.inputs := by
  unfold starvedReaction; (try dsimp only); (repeat' split) <;> simp
@[simp] theorem starvedReaction_pending (c : Chan) (e : Option W16) (s : State) : (starvedReaction c e s).pending = s.pending := by
  unfold starvedReaction; (try dsimp only); (repeat' split) <;> simp

/-! `brakeFaultReaction` changes engines, queues, ports at most. -/
@[simp] theorem brakeFaultReaction_phase (c : Chan) (s : State) : (brakeFaultReaction c s).phase = s.phase := by
  unfold brakeFaultReaction; (try dsimp only); (repeat' split) <;> simp
@[simp] theorem brakeFaultReaction_safetyPort (c : Chan) (s : State) : (brakeFaultReaction c s).safetyPort = s.safetyPort := by
  unfold brakeFaultReaction; (try dsimp only); (repeat' split) <;> simp
@[simp] theorem brakeFaultReaction_retained (c : Chan) (s : State) : (brakeFaultReaction c s).retained = s.retained := by
  unfold brakeFaultReaction; (try dsimp only); (repeat' split) <;> simp
@[simp] theorem brakeFaultReaction_resetting (c : Chan) (s : State) : (brakeFaultReaction c s).resetting = s.resetting := by
  unfold brakeFaultReaction; (try dsimp only); (repeat' split) <;> simp
@[simp] theorem brakeFaultReaction_consts (c : Chan) (s : State) : (brakeFaultReaction c s).consts = s.consts := by
  unfold brakeFaultReaction; (try dsimp only); (repeat' split) <;> simp
@[simp] theorem brakeFaultReaction_signals (c : Chan) (s : State) : (brakeFaultReaction c s).signals = s.signals := by
  unfold brakeFaultReaction; (try dsimp only); (repeat' split) <;> simp
@[simp] theorem brakeFaultReaction_pins (c : Chan) (s : State) : (brakeFaultReaction c s).pins = s.pins := by
  unfold brakeFaultReaction; (try dsimp only); (repeat' split) <;> simp
@[simp] theorem brakeFaultReaction_period (c : Chan) (s : State) : (brakeFaultReaction c s).period = s.period := by
  unfold brakeFaultReaction; (try dsimp only); (repeat' split) <;> simp
@[simp] theorem brakeFaultReaction_started (c : Chan) (s : State) : (brakeFaultReaction c s).started = s.started := by
  unfold brakeFaultReaction; (try dsimp only); (repeat' split) <;> simp
@[simp] theorem brakeFaultReaction_auth (c : Chan) (s : State) : (brakeFaultReaction c s).auth = s.auth := by
  unfold brakeFaultReaction; (try dsimp only); (repeat' split) <;> simp
@[simp] theorem brakeFaultReaction_envs (c : Chan) (s : State) : (brakeFaultReaction c s).envs = s.envs := by
  unfold brakeFaultReaction; (try dsimp only); (repeat' split) <;> simp
@[simp] theorem brakeFaultReaction_link (c : Chan) (s : State) : (brakeFaultReaction c s).link = s.link := by
  unfold brakeFaultReaction; (try dsimp only); (repeat' split) <;> simp
@[simp] theorem brakeFaultReaction_allot (c : Chan) (s : State) : (brakeFaultReaction c s).allot = s.allot := by
  unfold brakeFaultReaction; (try dsimp only); (repeat' split) <;> simp
@[simp] theorem brakeFaultReaction_react (c : Chan) (s : State) : (brakeFaultReaction c s).react = s.react := by
  unfold brakeFaultReaction; (try dsimp only); (repeat' split) <;> simp
@[simp] theorem brakeFaultReaction_inputs (c : Chan) (s : State) : (brakeFaultReaction c s).inputs = s.inputs := by
  unfold brakeFaultReaction; (try dsimp only); (repeat' split) <;> simp
@[simp] theorem brakeFaultReaction_wire (c : Chan) (s : State) : (brakeFaultReaction c s).wire = s.wire := by
  unfold brakeFaultReaction; (try dsimp only); (repeat' split) <;> simp
@[simp] theorem brakeFaultReaction_pending (c : Chan) (s : State) : (brakeFaultReaction c s).pending = s.pending := by
  unfold brakeFaultReaction; (try dsimp only); (repeat' split) <;> simp

/-! `thermalReaction` changes engines, ports at most. -/
@[simp] theorem thermalReaction_phase (c : Chan) (s : State) : (thermalReaction c s).phase = s.phase := by
  unfold thermalReaction; (try dsimp only); (repeat' split) <;> simp
@[simp] theorem thermalReaction_safetyPort (c : Chan) (s : State) : (thermalReaction c s).safetyPort = s.safetyPort := by
  unfold thermalReaction; (try dsimp only); (repeat' split) <;> simp
@[simp] theorem thermalReaction_retained (c : Chan) (s : State) : (thermalReaction c s).retained = s.retained := by
  unfold thermalReaction; (try dsimp only); (repeat' split) <;> simp
@[simp] theorem thermalReaction_resetting (c : Chan) (s : State) : (thermalReaction c s).resetting = s.resetting := by
  unfold thermalReaction; (try dsimp only); (repeat' split) <;> simp
@[simp] theorem thermalReaction_consts (c : Chan) (s : State) : (thermalReaction c s).consts = s.consts := by
  unfold thermalReaction; (try dsimp only); (repeat' split) <;> simp
@[simp] theorem thermalReaction_signals (c : Chan) (s : State) : (thermalReaction c s).signals = s.signals := by
  unfold thermalReaction; (try dsimp only); (repeat' split) <;> simp
@[simp] theorem thermalReaction_pins (c : Chan) (s : State) : (thermalReaction c s).pins = s.pins := by
  unfold thermalReaction; (try dsimp only); (repeat' split) <;> simp
@[simp] theorem thermalReaction_period (c : Chan) (s : State) : (thermalReaction c s).period = s.period := by
  unfold thermalReaction; (try dsimp only); (repeat' split) <;> simp
@[simp] theorem thermalReaction_started (c : Chan) (s : State) : (thermalReaction c s).started = s.started := by
  unfold thermalReaction; (try dsimp only); (repeat' split) <;> simp
@[simp] theorem thermalReaction_auth (c : Chan) (s : State) : (thermalReaction c s).auth = s.auth := by
  unfold thermalReaction; (try dsimp only); (repeat' split) <;> simp
@[simp] theorem thermalReaction_queues (c : Chan) (s : State) : (thermalReaction c s).queues = s.queues := by
  unfold thermalReaction; (try dsimp only); (repeat' split) <;> simp
@[simp] theorem thermalReaction_envs (c : Chan) (s : State) : (thermalReaction c s).envs = s.envs := by
  unfold thermalReaction; (try dsimp only); (repeat' split) <;> simp
@[simp] theorem thermalReaction_link (c : Chan) (s : State) : (thermalReaction c s).link = s.link := by
  unfold thermalReaction; (try dsimp only); (repeat' split) <;> simp
@[simp] theorem thermalReaction_allot (c : Chan) (s : State) : (thermalReaction c s).allot = s.allot := by
  unfold thermalReaction; (try dsimp only); (repeat' split) <;> simp
@[simp] theorem thermalReaction_react (c : Chan) (s : State) : (thermalReaction c s).react = s.react := by
  unfold thermalReaction; (try dsimp only); (repeat' split) <;> simp
@[simp] theorem thermalReaction_inputs (c : Chan) (s : State) : (thermalReaction c s).inputs = s.inputs := by
  unfold thermalReaction; (try dsimp only); (repeat' split) <;> simp
@[simp] theorem thermalReaction_wire (c : Chan) (s : State) : (thermalReaction c s).wire = s.wire := by
  unfold thermalReaction; (try dsimp only); (repeat' split) <;> simp
@[simp] theorem thermalReaction_pending (c : Chan) (s : State) : (thermalReaction c s).pending = s.pending := by
  unfold thermalReaction; (try dsimp only); (repeat' split) <;> simp

/-! `performReaction` changes auth, queues, engines, envs, allot, react, retained, ports, wire at most. -/
@[simp] theorem performReaction_phase (x : PendingEntry) (s : State) : (performReaction x s).phase = s.phase := by
  unfold performReaction; (try dsimp only); (repeat' split) <;> simp
@[simp] theorem performReaction_safetyPort (x : PendingEntry) (s : State) : (performReaction x s).safetyPort = s.safetyPort := by
  unfold performReaction; (try dsimp only); (repeat' split) <;> simp
@[simp] theorem performReaction_resetting (x : PendingEntry) (s : State) : (performReaction x s).resetting = s.resetting := by
  unfold performReaction; (try dsimp only); (repeat' split) <;> simp
@[simp] theorem performReaction_consts (x : PendingEntry) (s : State) : (performReaction x s).consts = s.consts := by
  unfold performReaction; (try dsimp only); (repeat' split) <;> simp
@[simp] theorem performReaction_signals (x : PendingEntry) (s : State) : (performReaction x s).signals = s.signals := by
  unfold performReaction; (try dsimp only); (repeat' split) <;> simp
@[simp] theorem performReaction_pins (x : PendingEntry) (s : State) : (performReaction x s).pins = s.pins := by
  unfold performReaction; (try dsimp only); (repeat' split) <;> simp
@[simp] theorem performReaction_period (x : PendingEntry) (s : State) : (performReaction x s).period = s.period := by
  unfold performReaction; (try dsimp only); (repeat' split) <;> simp
@[simp] theorem performReaction_started (x : PendingEntry) (s : State) : (performReaction x s).started = s.started := by
  unfold performReaction; (try dsimp only); (repeat' split) <;> simp
@[simp] theorem performReaction_link (x : PendingEntry) (s : State) : (performReaction x s).link = s.link := by
  unfold performReaction; (try dsimp only); (repeat' split) <;> simp
@[simp] theorem performReaction_inputs (x : PendingEntry) (s : State) : (performReaction x s).inputs = s.inputs := by
  unfold performReaction; (try dsimp only); (repeat' split) <;> simp
@[simp] theorem performReaction_pending (x : PendingEntry) (s : State) : (performReaction x s).pending = s.pending := by
  unfold performReaction; (try dsimp only); (repeat' split) <;> simp

/-! `takeUpTo` changes auth, queues, engines, envs, allot, react, retained, ports, wire at most. -/
@[simp] theorem takeUpTo_phase : ∀ (n : Nat) (s : State), (takeUpTo n s).phase = s.phase
  | 0, _ => rfl
  | n + 1, s => by
    unfold takeUpTo; (repeat' split) <;> simp [takeUpTo_phase n]
@[simp] theorem takeUpTo_safetyPort : ∀ (n : Nat) (s : State), (takeUpTo n s).safetyPort = s.safetyPort
  | 0, _ => rfl
  | n + 1, s => by
    unfold takeUpTo; (repeat' split) <;> simp [takeUpTo_safetyPort n]
@[simp] theorem takeUpTo_resetting : ∀ (n : Nat) (s : State), (takeUpTo n s).resetting = s.resetting
  | 0, _ => rfl
  | n + 1, s => by
    unfold takeUpTo; (repeat' split) <;> simp [takeUpTo_resetting n]
@[simp] theorem takeUpTo_consts : ∀ (n : Nat) (s : State), (takeUpTo n s).consts = s.consts
  | 0, _ => rfl
  | n + 1, s => by
    unfold takeUpTo; (repeat' split) <;> simp [takeUpTo_consts n]
@[simp] theorem takeUpTo_signals : ∀ (n : Nat) (s : State), (takeUpTo n s).signals = s.signals
  | 0, _ => rfl
  | n + 1, s => by
    unfold takeUpTo; (repeat' split) <;> simp [takeUpTo_signals n]
@[simp] theorem takeUpTo_pins : ∀ (n : Nat) (s : State), (takeUpTo n s).pins = s.pins
  | 0, _ => rfl
  | n + 1, s => by
    unfold takeUpTo; (repeat' split) <;> simp [takeUpTo_pins n]
@[simp] theorem takeUpTo_period : ∀ (n : Nat) (s : State), (takeUpTo n s).period = s.period
  | 0, _ => rfl
  | n + 1, s => by
    unfold takeUpTo; (repeat' split) <;> simp [takeUpTo_period n]
@[simp] theorem takeUpTo_started : ∀ (n : Nat) (s : State), (takeUpTo n s).started = s.started
  | 0, _ => rfl
  | n + 1, s => by
    unfold takeUpTo; (repeat' split) <;> simp [takeUpTo_started n]
@[simp] theorem takeUpTo_link : ∀ (n : Nat) (s : State), (takeUpTo n s).link = s.link
  | 0, _ => rfl
  | n + 1, s => by
    unfold takeUpTo; (repeat' split) <;> simp [takeUpTo_link n]
@[simp] theorem takeUpTo_inputs : ∀ (n : Nat) (s : State), (takeUpTo n s).inputs = s.inputs
  | 0, _ => rfl
  | n + 1, s => by
    unfold takeUpTo; (repeat' split) <;> simp [takeUpTo_inputs n]
@[simp] theorem takeUpTo_pending : ∀ (n : Nat) (s : State), (takeUpTo n s).pending = s.pending
  | 0, _ => rfl
  | n + 1, s => by
    unfold takeUpTo; (repeat' split) <;> simp [takeUpTo_pending n]

/-! `takeReactions` changes auth, queues, engines, envs, allot, react, retained, ports, wire at most. -/
@[simp] theorem takeReactions_phase (s : State) : (takeReactions s).phase = s.phase := by
  unfold takeReactions; (try dsimp only); (repeat' split) <;> simp
@[simp] theorem takeReactions_safetyPort (s : State) : (takeReactions s).safetyPort = s.safetyPort := by
  unfold takeReactions; (try dsimp only); (repeat' split) <;> simp
@[simp] theorem takeReactions_resetting (s : State) : (takeReactions s).resetting = s.resetting := by
  unfold takeReactions; (try dsimp only); (repeat' split) <;> simp
@[simp] theorem takeReactions_consts (s : State) : (takeReactions s).consts = s.consts := by
  unfold takeReactions; (try dsimp only); (repeat' split) <;> simp
@[simp] theorem takeReactions_signals (s : State) : (takeReactions s).signals = s.signals := by
  unfold takeReactions; (try dsimp only); (repeat' split) <;> simp
@[simp] theorem takeReactions_pins (s : State) : (takeReactions s).pins = s.pins := by
  unfold takeReactions; (try dsimp only); (repeat' split) <;> simp
@[simp] theorem takeReactions_period (s : State) : (takeReactions s).period = s.period := by
  unfold takeReactions; (try dsimp only); (repeat' split) <;> simp
@[simp] theorem takeReactions_started (s : State) : (takeReactions s).started = s.started := by
  unfold takeReactions; (try dsimp only); (repeat' split) <;> simp
@[simp] theorem takeReactions_link (s : State) : (takeReactions s).link = s.link := by
  unfold takeReactions; (try dsimp only); (repeat' split) <;> simp
@[simp] theorem takeReactions_inputs (s : State) : (takeReactions s).inputs = s.inputs := by
  unfold takeReactions; (try dsimp only); (repeat' split) <;> simp
@[simp] theorem takeReactions_pending (s : State) : (takeReactions s).pending = s.pending := by
  unfold takeReactions; (try dsimp only); (repeat' split) <;> simp

/-! `reportOrdinary` changes auth, queues, engines, envs, allot, react, retained, ports, wire at most. -/
@[simp] theorem reportOrdinary_phase (k : FaultKind) (sc : Scope) (e : Option W16) (s : State) : (reportOrdinary k sc e s).phase = s.phase := by
  unfold reportOrdinary; (try dsimp only); (repeat' split) <;> simp
@[simp] theorem reportOrdinary_safetyPort (k : FaultKind) (sc : Scope) (e : Option W16) (s : State) : (reportOrdinary k sc e s).safetyPort = s.safetyPort := by
  unfold reportOrdinary; (try dsimp only); (repeat' split) <;> simp
@[simp] theorem reportOrdinary_resetting (k : FaultKind) (sc : Scope) (e : Option W16) (s : State) : (reportOrdinary k sc e s).resetting = s.resetting := by
  unfold reportOrdinary; (try dsimp only); (repeat' split) <;> simp
@[simp] theorem reportOrdinary_consts (k : FaultKind) (sc : Scope) (e : Option W16) (s : State) : (reportOrdinary k sc e s).consts = s.consts := by
  unfold reportOrdinary; (try dsimp only); (repeat' split) <;> simp
@[simp] theorem reportOrdinary_signals (k : FaultKind) (sc : Scope) (e : Option W16) (s : State) : (reportOrdinary k sc e s).signals = s.signals := by
  unfold reportOrdinary; (try dsimp only); (repeat' split) <;> simp
@[simp] theorem reportOrdinary_pins (k : FaultKind) (sc : Scope) (e : Option W16) (s : State) : (reportOrdinary k sc e s).pins = s.pins := by
  unfold reportOrdinary; (try dsimp only); (repeat' split) <;> simp
@[simp] theorem reportOrdinary_period (k : FaultKind) (sc : Scope) (e : Option W16) (s : State) : (reportOrdinary k sc e s).period = s.period := by
  unfold reportOrdinary; (try dsimp only); (repeat' split) <;> simp
@[simp] theorem reportOrdinary_started (k : FaultKind) (sc : Scope) (e : Option W16) (s : State) : (reportOrdinary k sc e s).started = s.started := by
  unfold reportOrdinary; (try dsimp only); (repeat' split) <;> simp
@[simp] theorem reportOrdinary_link (k : FaultKind) (sc : Scope) (e : Option W16) (s : State) : (reportOrdinary k sc e s).link = s.link := by
  unfold reportOrdinary; (try dsimp only); (repeat' split) <;> simp
@[simp] theorem reportOrdinary_inputs (k : FaultKind) (sc : Scope) (e : Option W16) (s : State) : (reportOrdinary k sc e s).inputs = s.inputs := by
  unfold reportOrdinary; (try dsimp only); (repeat' split) <;> simp
@[simp] theorem reportOrdinary_pending (k : FaultKind) (sc : Scope) (e : Option W16) (s : State) : (reportOrdinary k sc e s).pending = s.pending := by
  unfold reportOrdinary; (try dsimp only); (repeat' split) <;> simp

/-! `reportLink` changes auth, queues, engines, envs, allot, react, retained, ports, wire at most. -/
@[simp] theorem reportLink_phase (k : FaultKind) (s : State) : (reportLink k s).phase = s.phase := by
  unfold reportLink; (try dsimp only); (repeat' split) <;> simp
@[simp] theorem reportLink_safetyPort (k : FaultKind) (s : State) : (reportLink k s).safetyPort = s.safetyPort := by
  unfold reportLink; (try dsimp only); (repeat' split) <;> simp
@[simp] theorem reportLink_resetting (k : FaultKind) (s : State) : (reportLink k s).resetting = s.resetting := by
  unfold reportLink; (try dsimp only); (repeat' split) <;> simp
@[simp] theorem reportLink_consts (k : FaultKind) (s : State) : (reportLink k s).consts = s.consts := by
  unfold reportLink; (try dsimp only); (repeat' split) <;> simp
@[simp] theorem reportLink_signals (k : FaultKind) (s : State) : (reportLink k s).signals = s.signals := by
  unfold reportLink; (try dsimp only); (repeat' split) <;> simp
@[simp] theorem reportLink_pins (k : FaultKind) (s : State) : (reportLink k s).pins = s.pins := by
  unfold reportLink; (try dsimp only); (repeat' split) <;> simp
@[simp] theorem reportLink_period (k : FaultKind) (s : State) : (reportLink k s).period = s.period := by
  unfold reportLink; (try dsimp only); (repeat' split) <;> simp
@[simp] theorem reportLink_started (k : FaultKind) (s : State) : (reportLink k s).started = s.started := by
  unfold reportLink; (try dsimp only); (repeat' split) <;> simp
@[simp] theorem reportLink_link (k : FaultKind) (s : State) : (reportLink k s).link = s.link := by
  unfold reportLink; (try dsimp only); (repeat' split) <;> simp
@[simp] theorem reportLink_inputs (k : FaultKind) (s : State) : (reportLink k s).inputs = s.inputs := by
  unfold reportLink; (try dsimp only); (repeat' split) <;> simp
@[simp] theorem reportLink_pending (k : FaultKind) (s : State) : (reportLink k s).pending = s.pending := by
  unfold reportLink; (try dsimp only); (repeat' split) <;> simp

/-! `tripReaction` changes queues, retained, ports at most. -/
@[simp] theorem tripReaction_phase (k : FaultKind) (c : Chan) (s : State) : (tripReaction k c s).phase = s.phase := by
  unfold tripReaction; (try dsimp only); (repeat' split) <;> simp
@[simp] theorem tripReaction_safetyPort (k : FaultKind) (c : Chan) (s : State) : (tripReaction k c s).safetyPort = s.safetyPort := by
  unfold tripReaction; (try dsimp only); (repeat' split) <;> simp
@[simp] theorem tripReaction_resetting (k : FaultKind) (c : Chan) (s : State) : (tripReaction k c s).resetting = s.resetting := by
  unfold tripReaction; (try dsimp only); (repeat' split) <;> simp
@[simp] theorem tripReaction_consts (k : FaultKind) (c : Chan) (s : State) : (tripReaction k c s).consts = s.consts := by
  unfold tripReaction; (try dsimp only); (repeat' split) <;> simp
@[simp] theorem tripReaction_signals (k : FaultKind) (c : Chan) (s : State) : (tripReaction k c s).signals = s.signals := by
  unfold tripReaction; (try dsimp only); (repeat' split) <;> simp
@[simp] theorem tripReaction_pins (k : FaultKind) (c : Chan) (s : State) : (tripReaction k c s).pins = s.pins := by
  unfold tripReaction; (try dsimp only); (repeat' split) <;> simp
@[simp] theorem tripReaction_period (k : FaultKind) (c : Chan) (s : State) : (tripReaction k c s).period = s.period := by
  unfold tripReaction; (try dsimp only); (repeat' split) <;> simp
@[simp] theorem tripReaction_started (k : FaultKind) (c : Chan) (s : State) : (tripReaction k c s).started = s.started := by
  unfold tripReaction; (try dsimp only); (repeat' split) <;> simp
@[simp] theorem tripReaction_auth (k : FaultKind) (c : Chan) (s : State) : (tripReaction k c s).auth = s.auth := by
  unfold tripReaction; (try dsimp only); (repeat' split) <;> simp
@[simp] theorem tripReaction_engines (k : FaultKind) (c : Chan) (s : State) : (tripReaction k c s).engines = s.engines := by
  unfold tripReaction; (try dsimp only); (repeat' split) <;> simp
@[simp] theorem tripReaction_envs (k : FaultKind) (c : Chan) (s : State) : (tripReaction k c s).envs = s.envs := by
  unfold tripReaction; (try dsimp only); (repeat' split) <;> simp
@[simp] theorem tripReaction_link (k : FaultKind) (c : Chan) (s : State) : (tripReaction k c s).link = s.link := by
  unfold tripReaction; (try dsimp only); (repeat' split) <;> simp
@[simp] theorem tripReaction_allot (k : FaultKind) (c : Chan) (s : State) : (tripReaction k c s).allot = s.allot := by
  unfold tripReaction; (try dsimp only); (repeat' split) <;> simp
@[simp] theorem tripReaction_react (k : FaultKind) (c : Chan) (s : State) : (tripReaction k c s).react = s.react := by
  unfold tripReaction; (try dsimp only); (repeat' split) <;> simp
@[simp] theorem tripReaction_inputs (k : FaultKind) (c : Chan) (s : State) : (tripReaction k c s).inputs = s.inputs := by
  unfold tripReaction; (try dsimp only); (repeat' split) <;> simp
@[simp] theorem tripReaction_wire (k : FaultKind) (c : Chan) (s : State) : (tripReaction k c s).wire = s.wire := by
  unfold tripReaction; (try dsimp only); (repeat' split) <;> simp
@[simp] theorem tripReaction_pending (k : FaultKind) (c : Chan) (s : State) : (tripReaction k c s).pending = s.pending := by
  unfold tripReaction; (try dsimp only); (repeat' split) <;> simp

/-! `reportDeparture` changes auth, queues, engines, envs, allot, react, retained, ports, wire at most. -/
@[simp] theorem reportDeparture_phase (s : State) : (reportDeparture s).phase = s.phase := by
  unfold reportDeparture; (try dsimp only); (repeat' split) <;> simp
@[simp] theorem reportDeparture_safetyPort (s : State) : (reportDeparture s).safetyPort = s.safetyPort := by
  unfold reportDeparture; (try dsimp only); (repeat' split) <;> simp
@[simp] theorem reportDeparture_resetting (s : State) : (reportDeparture s).resetting = s.resetting := by
  unfold reportDeparture; (try dsimp only); (repeat' split) <;> simp
@[simp] theorem reportDeparture_consts (s : State) : (reportDeparture s).consts = s.consts := by
  unfold reportDeparture; (try dsimp only); (repeat' split) <;> simp
@[simp] theorem reportDeparture_signals (s : State) : (reportDeparture s).signals = s.signals := by
  unfold reportDeparture; (try dsimp only); (repeat' split) <;> simp
@[simp] theorem reportDeparture_pins (s : State) : (reportDeparture s).pins = s.pins := by
  unfold reportDeparture; (try dsimp only); (repeat' split) <;> simp
@[simp] theorem reportDeparture_period (s : State) : (reportDeparture s).period = s.period := by
  unfold reportDeparture; (try dsimp only); (repeat' split) <;> simp
@[simp] theorem reportDeparture_started (s : State) : (reportDeparture s).started = s.started := by
  unfold reportDeparture; (try dsimp only); (repeat' split) <;> simp
@[simp] theorem reportDeparture_link (s : State) : (reportDeparture s).link = s.link := by
  unfold reportDeparture; (try dsimp only); (repeat' split) <;> simp
@[simp] theorem reportDeparture_inputs (s : State) : (reportDeparture s).inputs = s.inputs := by
  unfold reportDeparture; (try dsimp only); (repeat' split) <;> simp
@[simp] theorem reportDeparture_pending (s : State) : (reportDeparture s).pending = s.pending := by
  unfold reportDeparture; (try dsimp only); (repeat' split) <;> simp

/-! `reportDischarged` changes auth, queues, engines, envs, allot, react, retained, ports, wire at most. -/
@[simp] theorem reportDischarged_phase (s : State) : (reportDischarged s).phase = s.phase := by
  unfold reportDischarged; (try dsimp only); (repeat' split) <;> simp
@[simp] theorem reportDischarged_safetyPort (s : State) : (reportDischarged s).safetyPort = s.safetyPort := by
  unfold reportDischarged; (try dsimp only); (repeat' split) <;> simp
@[simp] theorem reportDischarged_resetting (s : State) : (reportDischarged s).resetting = s.resetting := by
  unfold reportDischarged; (try dsimp only); (repeat' split) <;> simp
@[simp] theorem reportDischarged_consts (s : State) : (reportDischarged s).consts = s.consts := by
  unfold reportDischarged; (try dsimp only); (repeat' split) <;> simp
@[simp] theorem reportDischarged_signals (s : State) : (reportDischarged s).signals = s.signals := by
  unfold reportDischarged; (try dsimp only); (repeat' split) <;> simp
@[simp] theorem reportDischarged_pins (s : State) : (reportDischarged s).pins = s.pins := by
  unfold reportDischarged; (try dsimp only); (repeat' split) <;> simp
@[simp] theorem reportDischarged_period (s : State) : (reportDischarged s).period = s.period := by
  unfold reportDischarged; (try dsimp only); (repeat' split) <;> simp
@[simp] theorem reportDischarged_started (s : State) : (reportDischarged s).started = s.started := by
  unfold reportDischarged; (try dsimp only); (repeat' split) <;> simp
@[simp] theorem reportDischarged_link (s : State) : (reportDischarged s).link = s.link := by
  unfold reportDischarged; (try dsimp only); (repeat' split) <;> simp
@[simp] theorem reportDischarged_inputs (s : State) : (reportDischarged s).inputs = s.inputs := by
  unfold reportDischarged; (try dsimp only); (repeat' split) <;> simp
@[simp] theorem reportDischarged_pending (s : State) : (reportDischarged s).pending = s.pending := by
  unfold reportDischarged; (try dsimp only); (repeat' split) <;> simp

/-! `detectTrip` changes auth, queues, engines, envs, allot, react, retained, ports, wire at most. -/
@[simp] theorem detectTrip_phase (k : FaultKind) (c : Chan) (n : Nat) (s : State) : (detectTrip k c n s).phase = s.phase := by
  unfold detectTrip; (try dsimp only); (repeat' split) <;> simp
@[simp] theorem detectTrip_safetyPort (k : FaultKind) (c : Chan) (n : Nat) (s : State) : (detectTrip k c n s).safetyPort = s.safetyPort := by
  unfold detectTrip; (try dsimp only); (repeat' split) <;> simp
@[simp] theorem detectTrip_resetting (k : FaultKind) (c : Chan) (n : Nat) (s : State) : (detectTrip k c n s).resetting = s.resetting := by
  unfold detectTrip; (try dsimp only); (repeat' split) <;> simp
@[simp] theorem detectTrip_consts (k : FaultKind) (c : Chan) (n : Nat) (s : State) : (detectTrip k c n s).consts = s.consts := by
  unfold detectTrip; (try dsimp only); (repeat' split) <;> simp
@[simp] theorem detectTrip_signals (k : FaultKind) (c : Chan) (n : Nat) (s : State) : (detectTrip k c n s).signals = s.signals := by
  unfold detectTrip; (try dsimp only); (repeat' split) <;> simp
@[simp] theorem detectTrip_pins (k : FaultKind) (c : Chan) (n : Nat) (s : State) : (detectTrip k c n s).pins = s.pins := by
  unfold detectTrip; (try dsimp only); (repeat' split) <;> simp
@[simp] theorem detectTrip_period (k : FaultKind) (c : Chan) (n : Nat) (s : State) : (detectTrip k c n s).period = s.period := by
  unfold detectTrip; (try dsimp only); (repeat' split) <;> simp
@[simp] theorem detectTrip_started (k : FaultKind) (c : Chan) (n : Nat) (s : State) : (detectTrip k c n s).started = s.started := by
  unfold detectTrip; (try dsimp only); (repeat' split) <;> simp
@[simp] theorem detectTrip_link (k : FaultKind) (c : Chan) (n : Nat) (s : State) : (detectTrip k c n s).link = s.link := by
  unfold detectTrip; (try dsimp only); (repeat' split) <;> simp
@[simp] theorem detectTrip_inputs (k : FaultKind) (c : Chan) (n : Nat) (s : State) : (detectTrip k c n s).inputs = s.inputs := by
  unfold detectTrip; (try dsimp only); (repeat' split) <;> simp
@[simp] theorem detectTrip_pending (k : FaultKind) (c : Chan) (n : Nat) (s : State) : (detectTrip k c n s).pending = s.pending := by
  unfold detectTrip; (try dsimp only); (repeat' split) <;> simp

/-! `assertStopOn` changes auth, queues, engines, envs, allot, react, retained, ports, wire at most. -/
@[simp] theorem assertStopOn_phase (l : Chan) (s : State) : (assertStopOn l s).phase = s.phase := by
  unfold assertStopOn; (try dsimp only); (repeat' split) <;> simp
@[simp] theorem assertStopOn_safetyPort (l : Chan) (s : State) : (assertStopOn l s).safetyPort = s.safetyPort := by
  unfold assertStopOn; (try dsimp only); (repeat' split) <;> simp
@[simp] theorem assertStopOn_resetting (l : Chan) (s : State) : (assertStopOn l s).resetting = s.resetting := by
  unfold assertStopOn; (try dsimp only); (repeat' split) <;> simp
@[simp] theorem assertStopOn_consts (l : Chan) (s : State) : (assertStopOn l s).consts = s.consts := by
  unfold assertStopOn; (try dsimp only); (repeat' split) <;> simp
@[simp] theorem assertStopOn_signals (l : Chan) (s : State) : (assertStopOn l s).signals = s.signals := by
  unfold assertStopOn; (try dsimp only); (repeat' split) <;> simp
@[simp] theorem assertStopOn_pins (l : Chan) (s : State) : (assertStopOn l s).pins = s.pins := by
  unfold assertStopOn; (try dsimp only); (repeat' split) <;> simp
@[simp] theorem assertStopOn_period (l : Chan) (s : State) : (assertStopOn l s).period = s.period := by
  unfold assertStopOn; (try dsimp only); (repeat' split) <;> simp
@[simp] theorem assertStopOn_started (l : Chan) (s : State) : (assertStopOn l s).started = s.started := by
  unfold assertStopOn; (try dsimp only); (repeat' split) <;> simp
@[simp] theorem assertStopOn_link (l : Chan) (s : State) : (assertStopOn l s).link = s.link := by
  unfold assertStopOn; (try dsimp only); (repeat' split) <;> simp
@[simp] theorem assertStopOn_inputs (l : Chan) (s : State) : (assertStopOn l s).inputs = s.inputs := by
  unfold assertStopOn; (try dsimp only); (repeat' split) <;> simp
@[simp] theorem assertStopOn_pending (l : Chan) (s : State) : (assertStopOn l s).pending = s.pending := by
  unfold assertStopOn; (try dsimp only); (repeat' split) <;> simp

/-! `assertStops` changes auth, queues, engines, envs, allot, react, retained, ports, wire at most. -/
@[simp] theorem assertStops_phase  : ∀ (l : List Chan) (s : State), (assertStops l s).phase = s.phase
  | [], _ => rfl
  | c :: rest, s => by
    unfold assertStops; (try split) <;> simp [assertStops_phase rest]
@[simp] theorem assertStops_safetyPort  : ∀ (l : List Chan) (s : State), (assertStops l s).safetyPort = s.safetyPort
  | [], _ => rfl
  | c :: rest, s => by
    unfold assertStops; (try split) <;> simp [assertStops_safetyPort rest]
@[simp] theorem assertStops_resetting  : ∀ (l : List Chan) (s : State), (assertStops l s).resetting = s.resetting
  | [], _ => rfl
  | c :: rest, s => by
    unfold assertStops; (try split) <;> simp [assertStops_resetting rest]
@[simp] theorem assertStops_consts  : ∀ (l : List Chan) (s : State), (assertStops l s).consts = s.consts
  | [], _ => rfl
  | c :: rest, s => by
    unfold assertStops; (try split) <;> simp [assertStops_consts rest]
@[simp] theorem assertStops_signals  : ∀ (l : List Chan) (s : State), (assertStops l s).signals = s.signals
  | [], _ => rfl
  | c :: rest, s => by
    unfold assertStops; (try split) <;> simp [assertStops_signals rest]
@[simp] theorem assertStops_pins  : ∀ (l : List Chan) (s : State), (assertStops l s).pins = s.pins
  | [], _ => rfl
  | c :: rest, s => by
    unfold assertStops; (try split) <;> simp [assertStops_pins rest]
@[simp] theorem assertStops_period  : ∀ (l : List Chan) (s : State), (assertStops l s).period = s.period
  | [], _ => rfl
  | c :: rest, s => by
    unfold assertStops; (try split) <;> simp [assertStops_period rest]
@[simp] theorem assertStops_started  : ∀ (l : List Chan) (s : State), (assertStops l s).started = s.started
  | [], _ => rfl
  | c :: rest, s => by
    unfold assertStops; (try split) <;> simp [assertStops_started rest]
@[simp] theorem assertStops_link  : ∀ (l : List Chan) (s : State), (assertStops l s).link = s.link
  | [], _ => rfl
  | c :: rest, s => by
    unfold assertStops; (try split) <;> simp [assertStops_link rest]
@[simp] theorem assertStops_inputs  : ∀ (l : List Chan) (s : State), (assertStops l s).inputs = s.inputs
  | [], _ => rfl
  | c :: rest, s => by
    unfold assertStops; (try split) <;> simp [assertStops_inputs rest]
@[simp] theorem assertStops_pending  : ∀ (l : List Chan) (s : State), (assertStops l s).pending = s.pending
  | [], _ => rfl
  | c :: rest, s => by
    unfold assertStops; (try split) <;> simp [assertStops_pending rest]

/-! `handleStopReport` changes auth, queues, engines, envs, allot, react, retained, ports, wire at most. -/
@[simp] theorem handleStopReport_phase (s : State) : ((handleStopReport s).1).phase = s.phase := by
  unfold handleStopReport; (try dsimp only); (repeat' split) <;> simp
@[simp] theorem handleStopReport_safetyPort (s : State) : ((handleStopReport s).1).safetyPort = s.safetyPort := by
  unfold handleStopReport; (try dsimp only); (repeat' split) <;> simp
@[simp] theorem handleStopReport_resetting (s : State) : ((handleStopReport s).1).resetting = s.resetting := by
  unfold handleStopReport; (try dsimp only); (repeat' split) <;> simp
@[simp] theorem handleStopReport_consts (s : State) : ((handleStopReport s).1).consts = s.consts := by
  unfold handleStopReport; (try dsimp only); (repeat' split) <;> simp
@[simp] theorem handleStopReport_signals (s : State) : ((handleStopReport s).1).signals = s.signals := by
  unfold handleStopReport; (try dsimp only); (repeat' split) <;> simp
@[simp] theorem handleStopReport_pins (s : State) : ((handleStopReport s).1).pins = s.pins := by
  unfold handleStopReport; (try dsimp only); (repeat' split) <;> simp
@[simp] theorem handleStopReport_period (s : State) : ((handleStopReport s).1).period = s.period := by
  unfold handleStopReport; (try dsimp only); (repeat' split) <;> simp
@[simp] theorem handleStopReport_started (s : State) : ((handleStopReport s).1).started = s.started := by
  unfold handleStopReport; (try dsimp only); (repeat' split) <;> simp
@[simp] theorem handleStopReport_link (s : State) : ((handleStopReport s).1).link = s.link := by
  unfold handleStopReport; (try dsimp only); (repeat' split) <;> simp
@[simp] theorem handleStopReport_inputs (s : State) : ((handleStopReport s).1).inputs = s.inputs := by
  unfold handleStopReport; (try dsimp only); (repeat' split) <;> simp
@[simp] theorem handleStopReport_pending (s : State) : ((handleStopReport s).1).pending = s.pending := by
  unfold handleStopReport; (try dsimp only); (repeat' split) <;> simp

/-! `detectSafeStop` changes auth, queues, engines, envs, allot, react, retained, ports, wire at most. -/
@[simp] theorem detectSafeStop_phase (s : State) : ((detectSafeStop s).1).phase = s.phase := by
  unfold detectSafeStop; (try dsimp only); (repeat' split) <;> simp
@[simp] theorem detectSafeStop_safetyPort (s : State) : ((detectSafeStop s).1).safetyPort = s.safetyPort := by
  unfold detectSafeStop; (try dsimp only); (repeat' split) <;> simp
@[simp] theorem detectSafeStop_resetting (s : State) : ((detectSafeStop s).1).resetting = s.resetting := by
  unfold detectSafeStop; (try dsimp only); (repeat' split) <;> simp
@[simp] theorem detectSafeStop_consts (s : State) : ((detectSafeStop s).1).consts = s.consts := by
  unfold detectSafeStop; (try dsimp only); (repeat' split) <;> simp
@[simp] theorem detectSafeStop_signals (s : State) : ((detectSafeStop s).1).signals = s.signals := by
  unfold detectSafeStop; (try dsimp only); (repeat' split) <;> simp
@[simp] theorem detectSafeStop_pins (s : State) : ((detectSafeStop s).1).pins = s.pins := by
  unfold detectSafeStop; (try dsimp only); (repeat' split) <;> simp
@[simp] theorem detectSafeStop_period (s : State) : ((detectSafeStop s).1).period = s.period := by
  unfold detectSafeStop; (try dsimp only); (repeat' split) <;> simp
@[simp] theorem detectSafeStop_started (s : State) : ((detectSafeStop s).1).started = s.started := by
  unfold detectSafeStop; (try dsimp only); (repeat' split) <;> simp
@[simp] theorem detectSafeStop_link (s : State) : ((detectSafeStop s).1).link = s.link := by
  unfold detectSafeStop; (try dsimp only); (repeat' split) <;> simp
@[simp] theorem detectSafeStop_inputs (s : State) : ((detectSafeStop s).1).inputs = s.inputs := by
  unfold detectSafeStop; (try dsimp only); (repeat' split) <;> simp
@[simp] theorem detectSafeStop_pending (s : State) : ((detectSafeStop s).1).pending = s.pending := by
  unfold detectSafeStop; (try dsimp only); (repeat' split) <;> simp

end Sys2Proof.Machine
end

