-- ==== Sys2Proof/Laws/Link.lean ====
section
/-! SUPPORT. The Link Supervisor's and the Input Block's operations: for each, one lemma for each field it leaves alone -/

namespace Sys2Proof.Machine

/-! `enterLink` changes engines, allot, wire, link at most. -/
@[simp] theorem enterLink_phase (x : LinkState) (s : State) : (enterLink x s).phase = s.phase := by
  unfold enterLink; (try dsimp only); (repeat' split) <;> simp
@[simp] theorem enterLink_safetyPort (x : LinkState) (s : State) : (enterLink x s).safetyPort = s.safetyPort := by
  unfold enterLink; (try dsimp only); (repeat' split) <;> simp
@[simp] theorem enterLink_retained (x : LinkState) (s : State) : (enterLink x s).retained = s.retained := by
  unfold enterLink; (try dsimp only); (repeat' split) <;> simp
@[simp] theorem enterLink_resetting (x : LinkState) (s : State) : (enterLink x s).resetting = s.resetting := by
  unfold enterLink; (try dsimp only); (repeat' split) <;> simp
@[simp] theorem enterLink_consts (x : LinkState) (s : State) : (enterLink x s).consts = s.consts := by
  unfold enterLink; (try dsimp only); (repeat' split) <;> simp
@[simp] theorem enterLink_signals (x : LinkState) (s : State) : (enterLink x s).signals = s.signals := by
  unfold enterLink; (try dsimp only); (repeat' split) <;> simp
@[simp] theorem enterLink_pins (x : LinkState) (s : State) : (enterLink x s).pins = s.pins := by
  unfold enterLink; (try dsimp only); (repeat' split) <;> simp
@[simp] theorem enterLink_period (x : LinkState) (s : State) : (enterLink x s).period = s.period := by
  unfold enterLink; (try dsimp only); (repeat' split) <;> simp
@[simp] theorem enterLink_started (x : LinkState) (s : State) : (enterLink x s).started = s.started := by
  unfold enterLink; (try dsimp only); (repeat' split) <;> simp
@[simp] theorem enterLink_auth (x : LinkState) (s : State) : (enterLink x s).auth = s.auth := by
  unfold enterLink; (try dsimp only); (repeat' split) <;> simp
@[simp] theorem enterLink_queues (x : LinkState) (s : State) : (enterLink x s).queues = s.queues := by
  unfold enterLink; (try dsimp only); (repeat' split) <;> simp
@[simp] theorem enterLink_envs (x : LinkState) (s : State) : (enterLink x s).envs = s.envs := by
  unfold enterLink; (try dsimp only); (repeat' split) <;> simp
@[simp] theorem enterLink_react (x : LinkState) (s : State) : (enterLink x s).react = s.react := by
  unfold enterLink; (try dsimp only); (repeat' split) <;> simp
@[simp] theorem enterLink_inputs (x : LinkState) (s : State) : (enterLink x s).inputs = s.inputs := by
  unfold enterLink; (try dsimp only); (repeat' split) <;> simp
@[simp] theorem enterLink_ports (x : LinkState) (s : State) : (enterLink x s).ports = s.ports := by
  unfold enterLink; (try dsimp only); (repeat' split) <;> simp
@[simp] theorem enterLink_pending (x : LinkState) (s : State) : (enterLink x s).pending = s.pending := by
  unfold enterLink; (try dsimp only); (repeat' split) <;> simp

/-! `handLinkState` changes auth, queues, engines, envs, allot, react, retained, ports, wire at most. -/
@[simp] theorem handLinkState_phase (s : State) : (handLinkState s).phase = s.phase := by
  unfold handLinkState; (try dsimp only); (repeat' split) <;> simp
@[simp] theorem handLinkState_safetyPort (s : State) : (handLinkState s).safetyPort = s.safetyPort := by
  unfold handLinkState; (try dsimp only); (repeat' split) <;> simp
@[simp] theorem handLinkState_resetting (s : State) : (handLinkState s).resetting = s.resetting := by
  unfold handLinkState; (try dsimp only); (repeat' split) <;> simp
@[simp] theorem handLinkState_consts (s : State) : (handLinkState s).consts = s.consts := by
  unfold handLinkState; (try dsimp only); (repeat' split) <;> simp
@[simp] theorem handLinkState_signals (s : State) : (handLinkState s).signals = s.signals := by
  unfold handLinkState; (try dsimp only); (repeat' split) <;> simp
@[simp] theorem handLinkState_pins (s : State) : (handLinkState s).pins = s.pins := by
  unfold handLinkState; (try dsimp only); (repeat' split) <;> simp
@[simp] theorem handLinkState_period (s : State) : (handLinkState s).period = s.period := by
  unfold handLinkState; (try dsimp only); (repeat' split) <;> simp
@[simp] theorem handLinkState_started (s : State) : (handLinkState s).started = s.started := by
  unfold handLinkState; (try dsimp only); (repeat' split) <;> simp
@[simp] theorem handLinkState_link (s : State) : (handLinkState s).link = s.link := by
  unfold handLinkState; (try dsimp only); (repeat' split) <;> simp
@[simp] theorem handLinkState_inputs (s : State) : (handLinkState s).inputs = s.inputs := by
  unfold handLinkState; (try dsimp only); (repeat' split) <;> simp
@[simp] theorem handLinkState_pending (s : State) : (handLinkState s).pending = s.pending := by
  unfold handLinkState; (try dsimp only); (repeat' split) <;> simp

/-! `changeLink` changes auth, queues, engines, envs, allot, react, retained, ports, wire, link at most. -/
@[simp] theorem changeLink_phase (x : LinkState) (s : State) : (changeLink x s).phase = s.phase := by
  unfold changeLink; (try dsimp only); (repeat' split) <;> simp
@[simp] theorem changeLink_safetyPort (x : LinkState) (s : State) : (changeLink x s).safetyPort = s.safetyPort := by
  unfold changeLink; (try dsimp only); (repeat' split) <;> simp
@[simp] theorem changeLink_resetting (x : LinkState) (s : State) : (changeLink x s).resetting = s.resetting := by
  unfold changeLink; (try dsimp only); (repeat' split) <;> simp
@[simp] theorem changeLink_consts (x : LinkState) (s : State) : (changeLink x s).consts = s.consts := by
  unfold changeLink; (try dsimp only); (repeat' split) <;> simp
@[simp] theorem changeLink_signals (x : LinkState) (s : State) : (changeLink x s).signals = s.signals := by
  unfold changeLink; (try dsimp only); (repeat' split) <;> simp
@[simp] theorem changeLink_pins (x : LinkState) (s : State) : (changeLink x s).pins = s.pins := by
  unfold changeLink; (try dsimp only); (repeat' split) <;> simp
@[simp] theorem changeLink_period (x : LinkState) (s : State) : (changeLink x s).period = s.period := by
  unfold changeLink; (try dsimp only); (repeat' split) <;> simp
@[simp] theorem changeLink_started (x : LinkState) (s : State) : (changeLink x s).started = s.started := by
  unfold changeLink; (try dsimp only); (repeat' split) <;> simp
@[simp] theorem changeLink_inputs (x : LinkState) (s : State) : (changeLink x s).inputs = s.inputs := by
  unfold changeLink; (try dsimp only); (repeat' split) <;> simp
@[simp] theorem changeLink_pending (x : LinkState) (s : State) : (changeLink x s).pending = s.pending := by
  unfold changeLink; (try dsimp only); (repeat' split) <;> simp

/-! `judgeWake` changes auth, queues, engines, envs, allot, react, retained, ports, wire, link at most. -/
@[simp] theorem judgeWake_phase (s : State) : (judgeWake s).phase = s.phase := by
  unfold judgeWake; (try dsimp only); (repeat' split) <;> simp
@[simp] theorem judgeWake_safetyPort (s : State) : (judgeWake s).safetyPort = s.safetyPort := by
  unfold judgeWake; (try dsimp only); (repeat' split) <;> simp
@[simp] theorem judgeWake_resetting (s : State) : (judgeWake s).resetting = s.resetting := by
  unfold judgeWake; (try dsimp only); (repeat' split) <;> simp
@[simp] theorem judgeWake_consts (s : State) : (judgeWake s).consts = s.consts := by
  unfold judgeWake; (try dsimp only); (repeat' split) <;> simp
@[simp] theorem judgeWake_signals (s : State) : (judgeWake s).signals = s.signals := by
  unfold judgeWake; (try dsimp only); (repeat' split) <;> simp
@[simp] theorem judgeWake_pins (s : State) : (judgeWake s).pins = s.pins := by
  unfold judgeWake; (try dsimp only); (repeat' split) <;> simp
@[simp] theorem judgeWake_period (s : State) : (judgeWake s).period = s.period := by
  unfold judgeWake; (try dsimp only); (repeat' split) <;> simp
@[simp] theorem judgeWake_started (s : State) : (judgeWake s).started = s.started := by
  unfold judgeWake; (try dsimp only); (repeat' split) <;> simp
@[simp] theorem judgeWake_inputs (s : State) : (judgeWake s).inputs = s.inputs := by
  unfold judgeWake; (try dsimp only); (repeat' split) <;> simp
@[simp] theorem judgeWake_pending (s : State) : (judgeWake s).pending = s.pending := by
  unfold judgeWake; (try dsimp only); (repeat' split) <;> simp

/-! `wakeLink` changes auth, queues, engines, envs, allot, react, retained, ports, wire, link at most. -/
@[simp] theorem wakeLink_phase (s : State) : (wakeLink s).phase = s.phase := by
  unfold wakeLink; (try dsimp only); (repeat' split) <;> simp
@[simp] theorem wakeLink_safetyPort (s : State) : (wakeLink s).safetyPort = s.safetyPort := by
  unfold wakeLink; (try dsimp only); (repeat' split) <;> simp
@[simp] theorem wakeLink_resetting (s : State) : (wakeLink s).resetting = s.resetting := by
  unfold wakeLink; (try dsimp only); (repeat' split) <;> simp
@[simp] theorem wakeLink_consts (s : State) : (wakeLink s).consts = s.consts := by
  unfold wakeLink; (try dsimp only); (repeat' split) <;> simp
@[simp] theorem wakeLink_signals (s : State) : (wakeLink s).signals = s.signals := by
  unfold wakeLink; (try dsimp only); (repeat' split) <;> simp
@[simp] theorem wakeLink_pins (s : State) : (wakeLink s).pins = s.pins := by
  unfold wakeLink; (try dsimp only); (repeat' split) <;> simp
@[simp] theorem wakeLink_period (s : State) : (wakeLink s).period = s.period := by
  unfold wakeLink; (try dsimp only); (repeat' split) <;> simp
@[simp] theorem wakeLink_started (s : State) : (wakeLink s).started = s.started := by
  unfold wakeLink; (try dsimp only); (repeat' split) <;> simp
@[simp] theorem wakeLink_inputs (s : State) : (wakeLink s).inputs = s.inputs := by
  unfold wakeLink; (try dsimp only); (repeat' split) <;> simp
@[simp] theorem wakeLink_pending (s : State) : (wakeLink s).pending = s.pending := by
  unfold wakeLink; (try dsimp only); (repeat' split) <;> simp

/-! `tripDriving` changes auth, queues, engines, envs, allot, react, retained, ports, wire at most. -/
@[simp] theorem tripDriving_phase (k : FaultKind) : ∀ (l : List Chan) (s : State), (tripDriving k l s).phase = s.phase
  | [], _ => rfl
  | c :: rest, s => by
    unfold tripDriving; (try split) <;> simp [tripDriving_phase k rest]
@[simp] theorem tripDriving_safetyPort (k : FaultKind) : ∀ (l : List Chan) (s : State), (tripDriving k l s).safetyPort = s.safetyPort
  | [], _ => rfl
  | c :: rest, s => by
    unfold tripDriving; (try split) <;> simp [tripDriving_safetyPort k rest]
@[simp] theorem tripDriving_resetting (k : FaultKind) : ∀ (l : List Chan) (s : State), (tripDriving k l s).resetting = s.resetting
  | [], _ => rfl
  | c :: rest, s => by
    unfold tripDriving; (try split) <;> simp [tripDriving_resetting k rest]
@[simp] theorem tripDriving_consts (k : FaultKind) : ∀ (l : List Chan) (s : State), (tripDriving k l s).consts = s.consts
  | [], _ => rfl
  | c :: rest, s => by
    unfold tripDriving; (try split) <;> simp [tripDriving_consts k rest]
@[simp] theorem tripDriving_signals (k : FaultKind) : ∀ (l : List Chan) (s : State), (tripDriving k l s).signals = s.signals
  | [], _ => rfl
  | c :: rest, s => by
    unfold tripDriving; (try split) <;> simp [tripDriving_signals k rest]
@[simp] theorem tripDriving_pins (k : FaultKind) : ∀ (l : List Chan) (s : State), (tripDriving k l s).pins = s.pins
  | [], _ => rfl
  | c :: rest, s => by
    unfold tripDriving; (try split) <;> simp [tripDriving_pins k rest]
@[simp] theorem tripDriving_period (k : FaultKind) : ∀ (l : List Chan) (s : State), (tripDriving k l s).period = s.period
  | [], _ => rfl
  | c :: rest, s => by
    unfold tripDriving; (try split) <;> simp [tripDriving_period k rest]
@[simp] theorem tripDriving_started (k : FaultKind) : ∀ (l : List Chan) (s : State), (tripDriving k l s).started = s.started
  | [], _ => rfl
  | c :: rest, s => by
    unfold tripDriving; (try split) <;> simp [tripDriving_started k rest]
@[simp] theorem tripDriving_link (k : FaultKind) : ∀ (l : List Chan) (s : State), (tripDriving k l s).link = s.link
  | [], _ => rfl
  | c :: rest, s => by
    unfold tripDriving; (try split) <;> simp [tripDriving_link k rest]
@[simp] theorem tripDriving_inputs (k : FaultKind) : ∀ (l : List Chan) (s : State), (tripDriving k l s).inputs = s.inputs
  | [], _ => rfl
  | c :: rest, s => by
    unfold tripDriving; (try split) <;> simp [tripDriving_inputs k rest]
@[simp] theorem tripDriving_pending (k : FaultKind) : ∀ (l : List Chan) (s : State), (tripDriving k l s).pending = s.pending
  | [], _ => rfl
  | c :: rest, s => by
    unfold tripDriving; (try split) <;> simp [tripDriving_pending k rest]

/-! `linkFault` changes auth, queues, engines, envs, allot, react, retained, ports, wire, link at most. -/
@[simp] theorem linkFault_phase (k : FaultKind) (s : State) : (linkFault k s).phase = s.phase := by
  unfold linkFault; (try dsimp only); (repeat' split) <;> simp
@[simp] theorem linkFault_safetyPort (k : FaultKind) (s : State) : (linkFault k s).safetyPort = s.safetyPort := by
  unfold linkFault; (try dsimp only); (repeat' split) <;> simp
@[simp] theorem linkFault_resetting (k : FaultKind) (s : State) : (linkFault k s).resetting = s.resetting := by
  unfold linkFault; (try dsimp only); (repeat' split) <;> simp
@[simp] theorem linkFault_consts (k : FaultKind) (s : State) : (linkFault k s).consts = s.consts := by
  unfold linkFault; (try dsimp only); (repeat' split) <;> simp
@[simp] theorem linkFault_signals (k : FaultKind) (s : State) : (linkFault k s).signals = s.signals := by
  unfold linkFault; (try dsimp only); (repeat' split) <;> simp
@[simp] theorem linkFault_pins (k : FaultKind) (s : State) : (linkFault k s).pins = s.pins := by
  unfold linkFault; (try dsimp only); (repeat' split) <;> simp
@[simp] theorem linkFault_period (k : FaultKind) (s : State) : (linkFault k s).period = s.period := by
  unfold linkFault; (try dsimp only); (repeat' split) <;> simp
@[simp] theorem linkFault_started (k : FaultKind) (s : State) : (linkFault k s).started = s.started := by
  unfold linkFault; (try dsimp only); (repeat' split) <;> simp
@[simp] theorem linkFault_inputs (k : FaultKind) (s : State) : (linkFault k s).inputs = s.inputs := by
  unfold linkFault; (try dsimp only); (repeat' split) <;> simp
@[simp] theorem linkFault_pending (k : FaultKind) (s : State) : (linkFault k s).pending = s.pending := by
  unfold linkFault; (try dsimp only); (repeat' split) <;> simp

/-! `levelTest` changes auth, queues, engines, envs, allot, react, retained, ports, wire, link at most. -/
@[simp] theorem levelTest_phase (v : Nat) (s : State) : (levelTest v s).phase = s.phase := by
  unfold levelTest; (try dsimp only); (repeat' split) <;> simp
@[simp] theorem levelTest_safetyPort (v : Nat) (s : State) : (levelTest v s).safetyPort = s.safetyPort := by
  unfold levelTest; (try dsimp only); (repeat' split) <;> simp
@[simp] theorem levelTest_resetting (v : Nat) (s : State) : (levelTest v s).resetting = s.resetting := by
  unfold levelTest; (try dsimp only); (repeat' split) <;> simp
@[simp] theorem levelTest_consts (v : Nat) (s : State) : (levelTest v s).consts = s.consts := by
  unfold levelTest; (try dsimp only); (repeat' split) <;> simp
@[simp] theorem levelTest_signals (v : Nat) (s : State) : (levelTest v s).signals = s.signals := by
  unfold levelTest; (try dsimp only); (repeat' split) <;> simp
@[simp] theorem levelTest_pins (v : Nat) (s : State) : (levelTest v s).pins = s.pins := by
  unfold levelTest; (try dsimp only); (repeat' split) <;> simp
@[simp] theorem levelTest_period (v : Nat) (s : State) : (levelTest v s).period = s.period := by
  unfold levelTest; (try dsimp only); (repeat' split) <;> simp
@[simp] theorem levelTest_started (v : Nat) (s : State) : (levelTest v s).started = s.started := by
  unfold levelTest; (try dsimp only); (repeat' split) <;> simp
@[simp] theorem levelTest_inputs (v : Nat) (s : State) : (levelTest v s).inputs = s.inputs := by
  unfold levelTest; (try dsimp only); (repeat' split) <;> simp
@[simp] theorem levelTest_pending (v : Nat) (s : State) : (levelTest v s).pending = s.pending := by
  unfold levelTest; (try dsimp only); (repeat' split) <;> simp

/-! `supplyStep4` changes allot, ports at most. -/
@[simp] theorem supplyStep4_phase (b : Option SupplyData) (d : SupplyData) (s : State) : (supplyStep4 b d s).phase = s.phase := by
  unfold supplyStep4; (try dsimp only); (repeat' split) <;> simp
@[simp] theorem supplyStep4_safetyPort (b : Option SupplyData) (d : SupplyData) (s : State) : (supplyStep4 b d s).safetyPort = s.safetyPort := by
  unfold supplyStep4; (try dsimp only); (repeat' split) <;> simp
@[simp] theorem supplyStep4_retained (b : Option SupplyData) (d : SupplyData) (s : State) : (supplyStep4 b d s).retained = s.retained := by
  unfold supplyStep4; (try dsimp only); (repeat' split) <;> simp
@[simp] theorem supplyStep4_resetting (b : Option SupplyData) (d : SupplyData) (s : State) : (supplyStep4 b d s).resetting = s.resetting := by
  unfold supplyStep4; (try dsimp only); (repeat' split) <;> simp
@[simp] theorem supplyStep4_consts (b : Option SupplyData) (d : SupplyData) (s : State) : (supplyStep4 b d s).consts = s.consts := by
  unfold supplyStep4; (try dsimp only); (repeat' split) <;> simp
@[simp] theorem supplyStep4_signals (b : Option SupplyData) (d : SupplyData) (s : State) : (supplyStep4 b d s).signals = s.signals := by
  unfold supplyStep4; (try dsimp only); (repeat' split) <;> simp
@[simp] theorem supplyStep4_pins (b : Option SupplyData) (d : SupplyData) (s : State) : (supplyStep4 b d s).pins = s.pins := by
  unfold supplyStep4; (try dsimp only); (repeat' split) <;> simp
@[simp] theorem supplyStep4_period (b : Option SupplyData) (d : SupplyData) (s : State) : (supplyStep4 b d s).period = s.period := by
  unfold supplyStep4; (try dsimp only); (repeat' split) <;> simp
@[simp] theorem supplyStep4_started (b : Option SupplyData) (d : SupplyData) (s : State) : (supplyStep4 b d s).started = s.started := by
  unfold supplyStep4; (try dsimp only); (repeat' split) <;> simp
@[simp] theorem supplyStep4_auth (b : Option SupplyData) (d : SupplyData) (s : State) : (supplyStep4 b d s).auth = s.auth := by
  unfold supplyStep4; (try dsimp only); (repeat' split) <;> simp
@[simp] theorem supplyStep4_queues (b : Option SupplyData) (d : SupplyData) (s : State) : (supplyStep4 b d s).queues = s.queues := by
  unfold supplyStep4; (try dsimp only); (repeat' split) <;> simp
@[simp] theorem supplyStep4_engines (b : Option SupplyData) (d : SupplyData) (s : State) : (supplyStep4 b d s).engines = s.engines := by
  unfold supplyStep4; (try dsimp only); (repeat' split) <;> simp
@[simp] theorem supplyStep4_envs (b : Option SupplyData) (d : SupplyData) (s : State) : (supplyStep4 b d s).envs = s.envs := by
  unfold supplyStep4; (try dsimp only); (repeat' split) <;> simp
@[simp] theorem supplyStep4_link (b : Option SupplyData) (d : SupplyData) (s : State) : (supplyStep4 b d s).link = s.link := by
  unfold supplyStep4; (try dsimp only); (repeat' split) <;> simp
@[simp] theorem supplyStep4_react (b : Option SupplyData) (d : SupplyData) (s : State) : (supplyStep4 b d s).react = s.react := by
  unfold supplyStep4; (try dsimp only); (repeat' split) <;> simp
@[simp] theorem supplyStep4_inputs (b : Option SupplyData) (d : SupplyData) (s : State) : (supplyStep4 b d s).inputs = s.inputs := by
  unfold supplyStep4; (try dsimp only); (repeat' split) <;> simp
@[simp] theorem supplyStep4_wire (b : Option SupplyData) (d : SupplyData) (s : State) : (supplyStep4 b d s).wire = s.wire := by
  unfold supplyStep4; (try dsimp only); (repeat' split) <;> simp
@[simp] theorem supplyStep4_pending (b : Option SupplyData) (d : SupplyData) (s : State) : (supplyStep4 b d s).pending = s.pending := by
  unfold supplyStep4; (try dsimp only); (repeat' split) <;> simp

/-! `takeSupply` changes auth, queues, engines, envs, allot, react, retained, ports, wire, link at most. -/
@[simp] theorem takeSupply_phase (d : SupplyData) (s : State) : (takeSupply d s).phase = s.phase := by
  unfold takeSupply; (try dsimp only); (repeat' split) <;> simp
@[simp] theorem takeSupply_safetyPort (d : SupplyData) (s : State) : (takeSupply d s).safetyPort = s.safetyPort := by
  unfold takeSupply; (try dsimp only); (repeat' split) <;> simp
@[simp] theorem takeSupply_resetting (d : SupplyData) (s : State) : (takeSupply d s).resetting = s.resetting := by
  unfold takeSupply; (try dsimp only); (repeat' split) <;> simp
@[simp] theorem takeSupply_consts (d : SupplyData) (s : State) : (takeSupply d s).consts = s.consts := by
  unfold takeSupply; (try dsimp only); (repeat' split) <;> simp
@[simp] theorem takeSupply_signals (d : SupplyData) (s : State) : (takeSupply d s).signals = s.signals := by
  unfold takeSupply; (try dsimp only); (repeat' split) <;> simp
@[simp] theorem takeSupply_pins (d : SupplyData) (s : State) : (takeSupply d s).pins = s.pins := by
  unfold takeSupply; (try dsimp only); (repeat' split) <;> simp
@[simp] theorem takeSupply_period (d : SupplyData) (s : State) : (takeSupply d s).period = s.period := by
  unfold takeSupply; (try dsimp only); (repeat' split) <;> simp
@[simp] theorem takeSupply_started (d : SupplyData) (s : State) : (takeSupply d s).started = s.started := by
  unfold takeSupply; (try dsimp only); (repeat' split) <;> simp
@[simp] theorem takeSupply_inputs (d : SupplyData) (s : State) : (takeSupply d s).inputs = s.inputs := by
  unfold takeSupply; (try dsimp only); (repeat' split) <;> simp
@[simp] theorem takeSupply_pending (d : SupplyData) (s : State) : (takeSupply d s).pending = s.pending := by
  unfold takeSupply; (try dsimp only); (repeat' split) <;> simp

/-! `receiveSupply` changes auth, queues, engines, envs, allot, react, retained, ports, wire, link at most. -/
@[simp] theorem receiveSupply_phase (b : List Byte) (s : State) : (receiveSupply b s).phase = s.phase := by
  unfold receiveSupply; (try dsimp only); (repeat' split) <;> simp
@[simp] theorem receiveSupply_safetyPort (b : List Byte) (s : State) : (receiveSupply b s).safetyPort = s.safetyPort := by
  unfold receiveSupply; (try dsimp only); (repeat' split) <;> simp
@[simp] theorem receiveSupply_resetting (b : List Byte) (s : State) : (receiveSupply b s).resetting = s.resetting := by
  unfold receiveSupply; (try dsimp only); (repeat' split) <;> simp
@[simp] theorem receiveSupply_consts (b : List Byte) (s : State) : (receiveSupply b s).consts = s.consts := by
  unfold receiveSupply; (try dsimp only); (repeat' split) <;> simp
@[simp] theorem receiveSupply_signals (b : List Byte) (s : State) : (receiveSupply b s).signals = s.signals := by
  unfold receiveSupply; (try dsimp only); (repeat' split) <;> simp
@[simp] theorem receiveSupply_pins (b : List Byte) (s : State) : (receiveSupply b s).pins = s.pins := by
  unfold receiveSupply; (try dsimp only); (repeat' split) <;> simp
@[simp] theorem receiveSupply_period (b : List Byte) (s : State) : (receiveSupply b s).period = s.period := by
  unfold receiveSupply; (try dsimp only); (repeat' split) <;> simp
@[simp] theorem receiveSupply_started (b : List Byte) (s : State) : (receiveSupply b s).started = s.started := by
  unfold receiveSupply; (try dsimp only); (repeat' split) <;> simp
@[simp] theorem receiveSupply_inputs (b : List Byte) (s : State) : (receiveSupply b s).inputs = s.inputs := by
  unfold receiveSupply; (try dsimp only); (repeat' split) <;> simp
@[simp] theorem receiveSupply_pending (b : List Byte) (s : State) : (receiveSupply b s).pending = s.pending := by
  unfold receiveSupply; (try dsimp only); (repeat' split) <;> simp

/-! `supplyCheck` changes auth, queues, engines, envs, allot, react, retained, ports, wire, link at most. -/
@[simp] theorem supplyCheck_phase (b : Bool) (s : State) : (supplyCheck b s).phase = s.phase := by
  unfold supplyCheck; (try dsimp only); (repeat' split) <;> simp
@[simp] theorem supplyCheck_safetyPort (b : Bool) (s : State) : (supplyCheck b s).safetyPort = s.safetyPort := by
  unfold supplyCheck; (try dsimp only); (repeat' split) <;> simp
@[simp] theorem supplyCheck_resetting (b : Bool) (s : State) : (supplyCheck b s).resetting = s.resetting := by
  unfold supplyCheck; (try dsimp only); (repeat' split) <;> simp
@[simp] theorem supplyCheck_consts (b : Bool) (s : State) : (supplyCheck b s).consts = s.consts := by
  unfold supplyCheck; (try dsimp only); (repeat' split) <;> simp
@[simp] theorem supplyCheck_signals (b : Bool) (s : State) : (supplyCheck b s).signals = s.signals := by
  unfold supplyCheck; (try dsimp only); (repeat' split) <;> simp
@[simp] theorem supplyCheck_pins (b : Bool) (s : State) : (supplyCheck b s).pins = s.pins := by
  unfold supplyCheck; (try dsimp only); (repeat' split) <;> simp
@[simp] theorem supplyCheck_period (b : Bool) (s : State) : (supplyCheck b s).period = s.period := by
  unfold supplyCheck; (try dsimp only); (repeat' split) <;> simp
@[simp] theorem supplyCheck_started (b : Bool) (s : State) : (supplyCheck b s).started = s.started := by
  unfold supplyCheck; (try dsimp only); (repeat' split) <;> simp
@[simp] theorem supplyCheck_inputs (b : Bool) (s : State) : (supplyCheck b s).inputs = s.inputs := by
  unfold supplyCheck; (try dsimp only); (repeat' split) <;> simp
@[simp] theorem supplyCheck_pending (b : Bool) (s : State) : (supplyCheck b s).pending = s.pending := by
  unfold supplyCheck; (try dsimp only); (repeat' split) <;> simp

/-! `chargeExpiry` changes auth, queues, engines, envs, allot, react, retained, ports, wire, link at most. -/
@[simp] theorem chargeExpiry_phase (s : State) : (chargeExpiry s).phase = s.phase := by
  unfold chargeExpiry; (try dsimp only); (repeat' split) <;> simp
@[simp] theorem chargeExpiry_safetyPort (s : State) : (chargeExpiry s).safetyPort = s.safetyPort := by
  unfold chargeExpiry; (try dsimp only); (repeat' split) <;> simp
@[simp] theorem chargeExpiry_resetting (s : State) : (chargeExpiry s).resetting = s.resetting := by
  unfold chargeExpiry; (try dsimp only); (repeat' split) <;> simp
@[simp] theorem chargeExpiry_consts (s : State) : (chargeExpiry s).consts = s.consts := by
  unfold chargeExpiry; (try dsimp only); (repeat' split) <;> simp
@[simp] theorem chargeExpiry_signals (s : State) : (chargeExpiry s).signals = s.signals := by
  unfold chargeExpiry; (try dsimp only); (repeat' split) <;> simp
@[simp] theorem chargeExpiry_pins (s : State) : (chargeExpiry s).pins = s.pins := by
  unfold chargeExpiry; (try dsimp only); (repeat' split) <;> simp
@[simp] theorem chargeExpiry_period (s : State) : (chargeExpiry s).period = s.period := by
  unfold chargeExpiry; (try dsimp only); (repeat' split) <;> simp
@[simp] theorem chargeExpiry_started (s : State) : (chargeExpiry s).started = s.started := by
  unfold chargeExpiry; (try dsimp only); (repeat' split) <;> simp
@[simp] theorem chargeExpiry_inputs (s : State) : (chargeExpiry s).inputs = s.inputs := by
  unfold chargeExpiry; (try dsimp only); (repeat' split) <;> simp
@[simp] theorem chargeExpiry_pending (s : State) : (chargeExpiry s).pending = s.pending := by
  unfold chargeExpiry; (try dsimp only); (repeat' split) <;> simp

/-! `settleExpiry` changes auth, queues, engines, envs, allot, react, retained, ports, wire, link at most. -/
@[simp] theorem settleExpiry_phase (s : State) : (settleExpiry s).phase = s.phase := by
  unfold settleExpiry; (try dsimp only); (repeat' split) <;> simp
@[simp] theorem settleExpiry_safetyPort (s : State) : (settleExpiry s).safetyPort = s.safetyPort := by
  unfold settleExpiry; (try dsimp only); (repeat' split) <;> simp
@[simp] theorem settleExpiry_resetting (s : State) : (settleExpiry s).resetting = s.resetting := by
  unfold settleExpiry; (try dsimp only); (repeat' split) <;> simp
@[simp] theorem settleExpiry_consts (s : State) : (settleExpiry s).consts = s.consts := by
  unfold settleExpiry; (try dsimp only); (repeat' split) <;> simp
@[simp] theorem settleExpiry_signals (s : State) : (settleExpiry s).signals = s.signals := by
  unfold settleExpiry; (try dsimp only); (repeat' split) <;> simp
@[simp] theorem settleExpiry_pins (s : State) : (settleExpiry s).pins = s.pins := by
  unfold settleExpiry; (try dsimp only); (repeat' split) <;> simp
@[simp] theorem settleExpiry_period (s : State) : (settleExpiry s).period = s.period := by
  unfold settleExpiry; (try dsimp only); (repeat' split) <;> simp
@[simp] theorem settleExpiry_started (s : State) : (settleExpiry s).started = s.started := by
  unfold settleExpiry; (try dsimp only); (repeat' split) <;> simp
@[simp] theorem settleExpiry_inputs (s : State) : (settleExpiry s).inputs = s.inputs := by
  unfold settleExpiry; (try dsimp only); (repeat' split) <;> simp
@[simp] theorem settleExpiry_pending (s : State) : (settleExpiry s).pending = s.pending := by
  unfold settleExpiry; (try dsimp only); (repeat' split) <;> simp

/-! `wakeExpiry` changes auth, queues, engines, envs, allot, react, retained, ports, wire, link at most. -/
@[simp] theorem wakeExpiry_phase (s : State) : (wakeExpiry s).phase = s.phase := by
  unfold wakeExpiry; (try dsimp only); (repeat' split) <;> simp
@[simp] theorem wakeExpiry_safetyPort (s : State) : (wakeExpiry s).safetyPort = s.safetyPort := by
  unfold wakeExpiry; (try dsimp only); (repeat' split) <;> simp
@[simp] theorem wakeExpiry_resetting (s : State) : (wakeExpiry s).resetting = s.resetting := by
  unfold wakeExpiry; (try dsimp only); (repeat' split) <;> simp
@[simp] theorem wakeExpiry_consts (s : State) : (wakeExpiry s).consts = s.consts := by
  unfold wakeExpiry; (try dsimp only); (repeat' split) <;> simp
@[simp] theorem wakeExpiry_signals (s : State) : (wakeExpiry s).signals = s.signals := by
  unfold wakeExpiry; (try dsimp only); (repeat' split) <;> simp
@[simp] theorem wakeExpiry_pins (s : State) : (wakeExpiry s).pins = s.pins := by
  unfold wakeExpiry; (try dsimp only); (repeat' split) <;> simp
@[simp] theorem wakeExpiry_period (s : State) : (wakeExpiry s).period = s.period := by
  unfold wakeExpiry; (try dsimp only); (repeat' split) <;> simp
@[simp] theorem wakeExpiry_started (s : State) : (wakeExpiry s).started = s.started := by
  unfold wakeExpiry; (try dsimp only); (repeat' split) <;> simp
@[simp] theorem wakeExpiry_inputs (s : State) : (wakeExpiry s).inputs = s.inputs := by
  unfold wakeExpiry; (try dsimp only); (repeat' split) <;> simp
@[simp] theorem wakeExpiry_pending (s : State) : (wakeExpiry s).pending = s.pending := by
  unfold wakeExpiry; (try dsimp only); (repeat' split) <;> simp

/-! `reportReady` changes auth, queues, engines, envs, allot, react, retained, ports, wire, link at most. -/
@[simp] theorem reportReady_phase (c : Chan) (b : Bool) (s : State) : (reportReady c b s).phase = s.phase := by
  unfold reportReady; (try dsimp only); (repeat' split) <;> simp
@[simp] theorem reportReady_safetyPort (c : Chan) (b : Bool) (s : State) : (reportReady c b s).safetyPort = s.safetyPort := by
  unfold reportReady; (try dsimp only); (repeat' split) <;> simp
@[simp] theorem reportReady_resetting (c : Chan) (b : Bool) (s : State) : (reportReady c b s).resetting = s.resetting := by
  unfold reportReady; (try dsimp only); (repeat' split) <;> simp
@[simp] theorem reportReady_consts (c : Chan) (b : Bool) (s : State) : (reportReady c b s).consts = s.consts := by
  unfold reportReady; (try dsimp only); (repeat' split) <;> simp
@[simp] theorem reportReady_signals (c : Chan) (b : Bool) (s : State) : (reportReady c b s).signals = s.signals := by
  unfold reportReady; (try dsimp only); (repeat' split) <;> simp
@[simp] theorem reportReady_pins (c : Chan) (b : Bool) (s : State) : (reportReady c b s).pins = s.pins := by
  unfold reportReady; (try dsimp only); (repeat' split) <;> simp
@[simp] theorem reportReady_period (c : Chan) (b : Bool) (s : State) : (reportReady c b s).period = s.period := by
  unfold reportReady; (try dsimp only); (repeat' split) <;> simp
@[simp] theorem reportReady_started (c : Chan) (b : Bool) (s : State) : (reportReady c b s).started = s.started := by
  unfold reportReady; (try dsimp only); (repeat' split) <;> simp
@[simp] theorem reportReady_inputs (c : Chan) (b : Bool) (s : State) : (reportReady c b s).inputs = s.inputs := by
  unfold reportReady; (try dsimp only); (repeat' split) <;> simp
@[simp] theorem reportReady_pending (c : Chan) (b : Bool) (s : State) : (reportReady c b s).pending = s.pending := by
  unfold reportReady; (try dsimp only); (repeat' split) <;> simp

/-! `recordLevel` changes react, engines, link at most. -/
@[simp] theorem recordLevel_phase (b : Binding) (i : Input) (x : Bool) (s : State) : (recordLevel b i x s).phase = s.phase := by
  unfold recordLevel; (try dsimp only); (repeat' split) <;> simp
@[simp] theorem recordLevel_safetyPort (b : Binding) (i : Input) (x : Bool) (s : State) : (recordLevel b i x s).safetyPort = s.safetyPort := by
  unfold recordLevel; (try dsimp only); (repeat' split) <;> simp
@[simp] theorem recordLevel_retained (b : Binding) (i : Input) (x : Bool) (s : State) : (recordLevel b i x s).retained = s.retained := by
  unfold recordLevel; (try dsimp only); (repeat' split) <;> simp
@[simp] theorem recordLevel_resetting (b : Binding) (i : Input) (x : Bool) (s : State) : (recordLevel b i x s).resetting = s.resetting := by
  unfold recordLevel; (try dsimp only); (repeat' split) <;> simp
@[simp] theorem recordLevel_consts (b : Binding) (i : Input) (x : Bool) (s : State) : (recordLevel b i x s).consts = s.consts := by
  unfold recordLevel; (try dsimp only); (repeat' split) <;> simp
@[simp] theorem recordLevel_signals (b : Binding) (i : Input) (x : Bool) (s : State) : (recordLevel b i x s).signals = s.signals := by
  unfold recordLevel; (try dsimp only); (repeat' split) <;> simp
@[simp] theorem recordLevel_pins (b : Binding) (i : Input) (x : Bool) (s : State) : (recordLevel b i x s).pins = s.pins := by
  unfold recordLevel; (try dsimp only); (repeat' split) <;> simp
@[simp] theorem recordLevel_period (b : Binding) (i : Input) (x : Bool) (s : State) : (recordLevel b i x s).period = s.period := by
  unfold recordLevel; (try dsimp only); (repeat' split) <;> simp
@[simp] theorem recordLevel_started (b : Binding) (i : Input) (x : Bool) (s : State) : (recordLevel b i x s).started = s.started := by
  unfold recordLevel; (try dsimp only); (repeat' split) <;> simp
@[simp] theorem recordLevel_auth (b : Binding) (i : Input) (x : Bool) (s : State) : (recordLevel b i x s).auth = s.auth := by
  unfold recordLevel; (try dsimp only); (repeat' split) <;> simp
@[simp] theorem recordLevel_queues (b : Binding) (i : Input) (x : Bool) (s : State) : (recordLevel b i x s).queues = s.queues := by
  unfold recordLevel; (try dsimp only); (repeat' split) <;> simp
@[simp] theorem recordLevel_envs (b : Binding) (i : Input) (x : Bool) (s : State) : (recordLevel b i x s).envs = s.envs := by
  unfold recordLevel; (try dsimp only); (repeat' split) <;> simp
@[simp] theorem recordLevel_allot (b : Binding) (i : Input) (x : Bool) (s : State) : (recordLevel b i x s).allot = s.allot := by
  unfold recordLevel; (try dsimp only); (repeat' split) <;> simp
@[simp] theorem recordLevel_inputs (b : Binding) (i : Input) (x : Bool) (s : State) : (recordLevel b i x s).inputs = s.inputs := by
  unfold recordLevel; (try dsimp only); (repeat' split) <;> simp
@[simp] theorem recordLevel_ports (b : Binding) (i : Input) (x : Bool) (s : State) : (recordLevel b i x s).ports = s.ports := by
  unfold recordLevel; (try dsimp only); (repeat' split) <;> simp
@[simp] theorem recordLevel_wire (b : Binding) (i : Input) (x : Bool) (s : State) : (recordLevel b i x s).wire = s.wire := by
  unfold recordLevel; (try dsimp only); (repeat' split) <;> simp
@[simp] theorem recordLevel_pending (b : Binding) (i : Input) (x : Bool) (s : State) : (recordLevel b i x s).pending = s.pending := by
  unfold recordLevel; (try dsimp only); (repeat' split) <;> simp

/-! `actOnActive` changes auth, queues, engines, envs, allot, react, retained, ports, wire, link at most. -/
@[simp] theorem actOnActive_phase (b : Binding) (s : State) : (actOnActive b s).phase = s.phase := by
  unfold actOnActive; (try dsimp only); (repeat' split) <;> simp
@[simp] theorem actOnActive_safetyPort (b : Binding) (s : State) : (actOnActive b s).safetyPort = s.safetyPort := by
  unfold actOnActive; (try dsimp only); (repeat' split) <;> simp
@[simp] theorem actOnActive_resetting (b : Binding) (s : State) : (actOnActive b s).resetting = s.resetting := by
  unfold actOnActive; (try dsimp only); (repeat' split) <;> simp
@[simp] theorem actOnActive_consts (b : Binding) (s : State) : (actOnActive b s).consts = s.consts := by
  unfold actOnActive; (try dsimp only); (repeat' split) <;> simp
@[simp] theorem actOnActive_signals (b : Binding) (s : State) : (actOnActive b s).signals = s.signals := by
  unfold actOnActive; (try dsimp only); (repeat' split) <;> simp
@[simp] theorem actOnActive_pins (b : Binding) (s : State) : (actOnActive b s).pins = s.pins := by
  unfold actOnActive; (try dsimp only); (repeat' split) <;> simp
@[simp] theorem actOnActive_period (b : Binding) (s : State) : (actOnActive b s).period = s.period := by
  unfold actOnActive; (try dsimp only); (repeat' split) <;> simp
@[simp] theorem actOnActive_started (b : Binding) (s : State) : (actOnActive b s).started = s.started := by
  unfold actOnActive; (try dsimp only); (repeat' split) <;> simp
@[simp] theorem actOnActive_inputs (b : Binding) (s : State) : (actOnActive b s).inputs = s.inputs := by
  unfold actOnActive; (try dsimp only); (repeat' split) <;> simp
@[simp] theorem actOnActive_pending (b : Binding) (s : State) : (actOnActive b s).pending = s.pending := by
  unfold actOnActive; (try dsimp only); (repeat' split) <;> simp

/-! `deliverLevel` changes react, engines, link at most. -/
@[simp] theorem deliverLevel_phase (i : Input) (s : State) : (deliverLevel i s).phase = s.phase := by
  unfold deliverLevel; (try dsimp only); (repeat' split) <;> simp
@[simp] theorem deliverLevel_safetyPort (i : Input) (s : State) : (deliverLevel i s).safetyPort = s.safetyPort := by
  unfold deliverLevel; (try dsimp only); (repeat' split) <;> simp
@[simp] theorem deliverLevel_retained (i : Input) (s : State) : (deliverLevel i s).retained = s.retained := by
  unfold deliverLevel; (try dsimp only); (repeat' split) <;> simp
@[simp] theorem deliverLevel_resetting (i : Input) (s : State) : (deliverLevel i s).resetting = s.resetting := by
  unfold deliverLevel; (try dsimp only); (repeat' split) <;> simp
@[simp] theorem deliverLevel_consts (i : Input) (s : State) : (deliverLevel i s).consts = s.consts := by
  unfold deliverLevel; (try dsimp only); (repeat' split) <;> simp
@[simp] theorem deliverLevel_signals (i : Input) (s : State) : (deliverLevel i s).signals = s.signals := by
  unfold deliverLevel; (try dsimp only); (repeat' split) <;> simp
@[simp] theorem deliverLevel_pins (i : Input) (s : State) : (deliverLevel i s).pins = s.pins := by
  unfold deliverLevel; (try dsimp only); (repeat' split) <;> simp
@[simp] theorem deliverLevel_period (i : Input) (s : State) : (deliverLevel i s).period = s.period := by
  unfold deliverLevel; (try dsimp only); (repeat' split) <;> simp
@[simp] theorem deliverLevel_started (i : Input) (s : State) : (deliverLevel i s).started = s.started := by
  unfold deliverLevel; (try dsimp only); (repeat' split) <;> simp
@[simp] theorem deliverLevel_auth (i : Input) (s : State) : (deliverLevel i s).auth = s.auth := by
  unfold deliverLevel; (try dsimp only); (repeat' split) <;> simp
@[simp] theorem deliverLevel_queues (i : Input) (s : State) : (deliverLevel i s).queues = s.queues := by
  unfold deliverLevel; (try dsimp only); (repeat' split) <;> simp
@[simp] theorem deliverLevel_envs (i : Input) (s : State) : (deliverLevel i s).envs = s.envs := by
  unfold deliverLevel; (try dsimp only); (repeat' split) <;> simp
@[simp] theorem deliverLevel_allot (i : Input) (s : State) : (deliverLevel i s).allot = s.allot := by
  unfold deliverLevel; (try dsimp only); (repeat' split) <;> simp
@[simp] theorem deliverLevel_inputs (i : Input) (s : State) : (deliverLevel i s).inputs = s.inputs := by
  unfold deliverLevel; (try dsimp only); (repeat' split) <;> simp
@[simp] theorem deliverLevel_ports (i : Input) (s : State) : (deliverLevel i s).ports = s.ports := by
  unfold deliverLevel; (try dsimp only); (repeat' split) <;> simp
@[simp] theorem deliverLevel_wire (i : Input) (s : State) : (deliverLevel i s).wire = s.wire := by
  unfold deliverLevel; (try dsimp only); (repeat' split) <;> simp
@[simp] theorem deliverLevel_pending (i : Input) (s : State) : (deliverLevel i s).pending = s.pending := by
  unfold deliverLevel; (try dsimp only); (repeat' split) <;> simp

/-! `deliverLevels` changes react, engines, link at most. -/
@[simp] theorem deliverLevels_phase  : ∀ (l : List Input) (s : State), (deliverLevels l s).phase = s.phase
  | [], _ => rfl
  | c :: rest, s => by
    unfold deliverLevels; (try split) <;> simp [deliverLevels_phase rest]
@[simp] theorem deliverLevels_safetyPort  : ∀ (l : List Input) (s : State), (deliverLevels l s).safetyPort = s.safetyPort
  | [], _ => rfl
  | c :: rest, s => by
    unfold deliverLevels; (try split) <;> simp [deliverLevels_safetyPort rest]
@[simp] theorem deliverLevels_retained  : ∀ (l : List Input) (s : State), (deliverLevels l s).retained = s.retained
  | [], _ => rfl
  | c :: rest, s => by
    unfold deliverLevels; (try split) <;> simp [deliverLevels_retained rest]
@[simp] theorem deliverLevels_resetting  : ∀ (l : List Input) (s : State), (deliverLevels l s).resetting = s.resetting
  | [], _ => rfl
  | c :: rest, s => by
    unfold deliverLevels; (try split) <;> simp [deliverLevels_resetting rest]
@[simp] theorem deliverLevels_consts  : ∀ (l : List Input) (s : State), (deliverLevels l s).consts = s.consts
  | [], _ => rfl
  | c :: rest, s => by
    unfold deliverLevels; (try split) <;> simp [deliverLevels_consts rest]
@[simp] theorem deliverLevels_signals  : ∀ (l : List Input) (s : State), (deliverLevels l s).signals = s.signals
  | [], _ => rfl
  | c :: rest, s => by
    unfold deliverLevels; (try split) <;> simp [deliverLevels_signals rest]
@[simp] theorem deliverLevels_pins  : ∀ (l : List Input) (s : State), (deliverLevels l s).pins = s.pins
  | [], _ => rfl
  | c :: rest, s => by
    unfold deliverLevels; (try split) <;> simp [deliverLevels_pins rest]
@[simp] theorem deliverLevels_period  : ∀ (l : List Input) (s : State), (deliverLevels l s).period = s.period
  | [], _ => rfl
  | c :: rest, s => by
    unfold deliverLevels; (try split) <;> simp [deliverLevels_period rest]
@[simp] theorem deliverLevels_started  : ∀ (l : List Input) (s : State), (deliverLevels l s).started = s.started
  | [], _ => rfl
  | c :: rest, s => by
    unfold deliverLevels; (try split) <;> simp [deliverLevels_started rest]
@[simp] theorem deliverLevels_auth  : ∀ (l : List Input) (s : State), (deliverLevels l s).auth = s.auth
  | [], _ => rfl
  | c :: rest, s => by
    unfold deliverLevels; (try split) <;> simp [deliverLevels_auth rest]
@[simp] theorem deliverLevels_queues  : ∀ (l : List Input) (s : State), (deliverLevels l s).queues = s.queues
  | [], _ => rfl
  | c :: rest, s => by
    unfold deliverLevels; (try split) <;> simp [deliverLevels_queues rest]
@[simp] theorem deliverLevels_envs  : ∀ (l : List Input) (s : State), (deliverLevels l s).envs = s.envs
  | [], _ => rfl
  | c :: rest, s => by
    unfold deliverLevels; (try split) <;> simp [deliverLevels_envs rest]
@[simp] theorem deliverLevels_allot  : ∀ (l : List Input) (s : State), (deliverLevels l s).allot = s.allot
  | [], _ => rfl
  | c :: rest, s => by
    unfold deliverLevels; (try split) <;> simp [deliverLevels_allot rest]
@[simp] theorem deliverLevels_inputs  : ∀ (l : List Input) (s : State), (deliverLevels l s).inputs = s.inputs
  | [], _ => rfl
  | c :: rest, s => by
    unfold deliverLevels; (try split) <;> simp [deliverLevels_inputs rest]
@[simp] theorem deliverLevels_ports  : ∀ (l : List Input) (s : State), (deliverLevels l s).ports = s.ports
  | [], _ => rfl
  | c :: rest, s => by
    unfold deliverLevels; (try split) <;> simp [deliverLevels_ports rest]
@[simp] theorem deliverLevels_wire  : ∀ (l : List Input) (s : State), (deliverLevels l s).wire = s.wire
  | [], _ => rfl
  | c :: rest, s => by
    unfold deliverLevels; (try split) <;> simp [deliverLevels_wire rest]
@[simp] theorem deliverLevels_pending  : ∀ (l : List Input) (s : State), (deliverLevels l s).pending = s.pending
  | [], _ => rfl
  | c :: rest, s => by
    unfold deliverLevels; (try split) <;> simp [deliverLevels_pending rest]

/-! `changeLevel` changes auth, queues, engines, envs, allot, react, retained, ports, wire, link, inputs at most. -/
@[simp] theorem changeLevel_phase (i : Input) (x : Bool) (s : State) : (changeLevel i x s).phase = s.phase := by
  unfold changeLevel; (try dsimp only); (repeat' split) <;> simp
@[simp] theorem changeLevel_safetyPort (i : Input) (x : Bool) (s : State) : (changeLevel i x s).safetyPort = s.safetyPort := by
  unfold changeLevel; (try dsimp only); (repeat' split) <;> simp
@[simp] theorem changeLevel_resetting (i : Input) (x : Bool) (s : State) : (changeLevel i x s).resetting = s.resetting := by
  unfold changeLevel; (try dsimp only); (repeat' split) <;> simp
@[simp] theorem changeLevel_consts (i : Input) (x : Bool) (s : State) : (changeLevel i x s).consts = s.consts := by
  unfold changeLevel; (try dsimp only); (repeat' split) <;> simp
@[simp] theorem changeLevel_signals (i : Input) (x : Bool) (s : State) : (changeLevel i x s).signals = s.signals := by
  unfold changeLevel; (try dsimp only); (repeat' split) <;> simp
@[simp] theorem changeLevel_pins (i : Input) (x : Bool) (s : State) : (changeLevel i x s).pins = s.pins := by
  unfold changeLevel; (try dsimp only); (repeat' split) <;> simp
@[simp] theorem changeLevel_period (i : Input) (x : Bool) (s : State) : (changeLevel i x s).period = s.period := by
  unfold changeLevel; (try dsimp only); (repeat' split) <;> simp
@[simp] theorem changeLevel_started (i : Input) (x : Bool) (s : State) : (changeLevel i x s).started = s.started := by
  unfold changeLevel; (try dsimp only); (repeat' split) <;> simp
@[simp] theorem changeLevel_pending (i : Input) (x : Bool) (s : State) : (changeLevel i x s).pending = s.pending := by
  unfold changeLevel; (try dsimp only); (repeat' split) <;> simp

/-! `qualify` changes auth, queues, engines, envs, allot, react, retained, ports, wire, link, inputs at most. -/
@[simp] theorem qualify_phase (i : Input) (s : State) : (qualify i s).phase = s.phase := by
  unfold qualify; (try dsimp only); (repeat' split) <;> simp
@[simp] theorem qualify_safetyPort (i : Input) (s : State) : (qualify i s).safetyPort = s.safetyPort := by
  unfold qualify; (try dsimp only); (repeat' split) <;> simp
@[simp] theorem qualify_resetting (i : Input) (s : State) : (qualify i s).resetting = s.resetting := by
  unfold qualify; (try dsimp only); (repeat' split) <;> simp
@[simp] theorem qualify_consts (i : Input) (s : State) : (qualify i s).consts = s.consts := by
  unfold qualify; (try dsimp only); (repeat' split) <;> simp
@[simp] theorem qualify_signals (i : Input) (s : State) : (qualify i s).signals = s.signals := by
  unfold qualify; (try dsimp only); (repeat' split) <;> simp
@[simp] theorem qualify_pins (i : Input) (s : State) : (qualify i s).pins = s.pins := by
  unfold qualify; (try dsimp only); (repeat' split) <;> simp
@[simp] theorem qualify_period (i : Input) (s : State) : (qualify i s).period = s.period := by
  unfold qualify; (try dsimp only); (repeat' split) <;> simp
@[simp] theorem qualify_started (i : Input) (s : State) : (qualify i s).started = s.started := by
  unfold qualify; (try dsimp only); (repeat' split) <;> simp
@[simp] theorem qualify_pending (i : Input) (s : State) : (qualify i s).pending = s.pending := by
  unfold qualify; (try dsimp only); (repeat' split) <;> simp

/-! `changePin` changes auth, queues, engines, envs, allot, react, retained, ports, wire, link, inputs, pins at most. -/
@[simp] theorem changePin_phase (i : Input) (x : Bool) (s : State) : (changePin i x s).phase = s.phase := by
  unfold changePin; (try dsimp only); (repeat' split) <;> simp
@[simp] theorem changePin_safetyPort (i : Input) (x : Bool) (s : State) : (changePin i x s).safetyPort = s.safetyPort := by
  unfold changePin; (try dsimp only); (repeat' split) <;> simp
@[simp] theorem changePin_resetting (i : Input) (x : Bool) (s : State) : (changePin i x s).resetting = s.resetting := by
  unfold changePin; (try dsimp only); (repeat' split) <;> simp
@[simp] theorem changePin_consts (i : Input) (x : Bool) (s : State) : (changePin i x s).consts = s.consts := by
  unfold changePin; (try dsimp only); (repeat' split) <;> simp
@[simp] theorem changePin_signals (i : Input) (x : Bool) (s : State) : (changePin i x s).signals = s.signals := by
  unfold changePin; (try dsimp only); (repeat' split) <;> simp
@[simp] theorem changePin_period (i : Input) (x : Bool) (s : State) : (changePin i x s).period = s.period := by
  unfold changePin; (try dsimp only); (repeat' split) <;> simp
@[simp] theorem changePin_started (i : Input) (x : Bool) (s : State) : (changePin i x s).started = s.started := by
  unfold changePin; (try dsimp only); (repeat' split) <;> simp
@[simp] theorem changePin_pending (i : Input) (x : Bool) (s : State) : (changePin i x s).pending = s.pending := by
  unfold changePin; (try dsimp only); (repeat' split) <;> simp

/-! `debounceExpiry` changes auth, queues, engines, envs, allot, react, retained, ports, wire, link, inputs at most. -/
@[simp] theorem debounceExpiry_phase (i : Input) (s : State) : (debounceExpiry i s).phase = s.phase := by
  unfold debounceExpiry; (try dsimp only); (repeat' split) <;> simp
@[simp] theorem debounceExpiry_safetyPort (i : Input) (s : State) : (debounceExpiry i s).safetyPort = s.safetyPort := by
  unfold debounceExpiry; (try dsimp only); (repeat' split) <;> simp
@[simp] theorem debounceExpiry_resetting (i : Input) (s : State) : (debounceExpiry i s).resetting = s.resetting := by
  unfold debounceExpiry; (try dsimp only); (repeat' split) <;> simp
@[simp] theorem debounceExpiry_consts (i : Input) (s : State) : (debounceExpiry i s).consts = s.consts := by
  unfold debounceExpiry; (try dsimp only); (repeat' split) <;> simp
@[simp] theorem debounceExpiry_signals (i : Input) (s : State) : (debounceExpiry i s).signals = s.signals := by
  unfold debounceExpiry; (try dsimp only); (repeat' split) <;> simp
@[simp] theorem debounceExpiry_pins (i : Input) (s : State) : (debounceExpiry i s).pins = s.pins := by
  unfold debounceExpiry; (try dsimp only); (repeat' split) <;> simp
@[simp] theorem debounceExpiry_period (i : Input) (s : State) : (debounceExpiry i s).period = s.period := by
  unfold debounceExpiry; (try dsimp only); (repeat' split) <;> simp
@[simp] theorem debounceExpiry_started (i : Input) (s : State) : (debounceExpiry i s).started = s.started := by
  unfold debounceExpiry; (try dsimp only); (repeat' split) <;> simp
@[simp] theorem debounceExpiry_pending (i : Input) (s : State) : (debounceExpiry i s).pending = s.pending := by
  unfold debounceExpiry; (try dsimp only); (repeat' split) <;> simp

end Sys2Proof.Machine
end

