-- ==== Sys2Proof/Laws/Events.lean ====
section
/-! SUPPORT. The operations of ports, samples and period starts: for each, one lemma for each field it leaves alone -/

namespace Sys2Proof.Machine

/-! `reportSilent` changes auth, queues, engines, envs, allot, react, retained, ports, wire at most. -/
@[simp] theorem reportSilent_phase (p : Port) (s : State) : (reportSilent p s).phase = s.phase := by
  unfold reportSilent; (try dsimp only); (repeat' split) <;> simp
@[simp] theorem reportSilent_safetyPort (p : Port) (s : State) : (reportSilent p s).safetyPort = s.safetyPort := by
  unfold reportSilent; (try dsimp only); (repeat' split) <;> simp
@[simp] theorem reportSilent_resetting (p : Port) (s : State) : (reportSilent p s).resetting = s.resetting := by
  unfold reportSilent; (try dsimp only); (repeat' split) <;> simp
@[simp] theorem reportSilent_consts (p : Port) (s : State) : (reportSilent p s).consts = s.consts := by
  unfold reportSilent; (try dsimp only); (repeat' split) <;> simp
@[simp] theorem reportSilent_signals (p : Port) (s : State) : (reportSilent p s).signals = s.signals := by
  unfold reportSilent; (try dsimp only); (repeat' split) <;> simp
@[simp] theorem reportSilent_pins (p : Port) (s : State) : (reportSilent p s).pins = s.pins := by
  unfold reportSilent; (try dsimp only); (repeat' split) <;> simp
@[simp] theorem reportSilent_period (p : Port) (s : State) : (reportSilent p s).period = s.period := by
  unfold reportSilent; (try dsimp only); (repeat' split) <;> simp
@[simp] theorem reportSilent_started (p : Port) (s : State) : (reportSilent p s).started = s.started := by
  unfold reportSilent; (try dsimp only); (repeat' split) <;> simp
@[simp] theorem reportSilent_link (p : Port) (s : State) : (reportSilent p s).link = s.link := by
  unfold reportSilent; (try dsimp only); (repeat' split) <;> simp
@[simp] theorem reportSilent_inputs (p : Port) (s : State) : (reportSilent p s).inputs = s.inputs := by
  unfold reportSilent; (try dsimp only); (repeat' split) <;> simp
@[simp] theorem reportSilent_pending (p : Port) (s : State) : (reportSilent p s).pending = s.pending := by
  unfold reportSilent; (try dsimp only); (repeat' split) <;> simp

/-! `silenceExpiry` changes auth, queues, engines, envs, allot, react, retained, ports, wire at most. -/
@[simp] theorem silenceExpiry_phase (p : Port) (s : State) : (silenceExpiry p s).phase = s.phase := by
  unfold silenceExpiry; (try dsimp only); (repeat' split) <;> simp
@[simp] theorem silenceExpiry_safetyPort (p : Port) (s : State) : (silenceExpiry p s).safetyPort = s.safetyPort := by
  unfold silenceExpiry; (try dsimp only); (repeat' split) <;> simp
@[simp] theorem silenceExpiry_resetting (p : Port) (s : State) : (silenceExpiry p s).resetting = s.resetting := by
  unfold silenceExpiry; (try dsimp only); (repeat' split) <;> simp
@[simp] theorem silenceExpiry_consts (p : Port) (s : State) : (silenceExpiry p s).consts = s.consts := by
  unfold silenceExpiry; (try dsimp only); (repeat' split) <;> simp
@[simp] theorem silenceExpiry_signals (p : Port) (s : State) : (silenceExpiry p s).signals = s.signals := by
  unfold silenceExpiry; (try dsimp only); (repeat' split) <;> simp
@[simp] theorem silenceExpiry_pins (p : Port) (s : State) : (silenceExpiry p s).pins = s.pins := by
  unfold silenceExpiry; (try dsimp only); (repeat' split) <;> simp
@[simp] theorem silenceExpiry_period (p : Port) (s : State) : (silenceExpiry p s).period = s.period := by
  unfold silenceExpiry; (try dsimp only); (repeat' split) <;> simp
@[simp] theorem silenceExpiry_started (p : Port) (s : State) : (silenceExpiry p s).started = s.started := by
  unfold silenceExpiry; (try dsimp only); (repeat' split) <;> simp
@[simp] theorem silenceExpiry_link (p : Port) (s : State) : (silenceExpiry p s).link = s.link := by
  unfold silenceExpiry; (try dsimp only); (repeat' split) <;> simp
@[simp] theorem silenceExpiry_inputs (p : Port) (s : State) : (silenceExpiry p s).inputs = s.inputs := by
  unfold silenceExpiry; (try dsimp only); (repeat' split) <;> simp
@[simp] theorem silenceExpiry_pending (p : Port) (s : State) : (silenceExpiry p s).pending = s.pending := by
  unfold silenceExpiry; (try dsimp only); (repeat' split) <;> simp

/-! `receiveFrame` changes ports at most. -/
@[simp] theorem receiveFrame_phase (p : Port) (b : List Byte) (s : State) : (receiveFrame p b s).phase = s.phase := by
  unfold receiveFrame; (try dsimp only); (repeat' split) <;> simp
@[simp] theorem receiveFrame_safetyPort (p : Port) (b : List Byte) (s : State) : (receiveFrame p b s).safetyPort = s.safetyPort := by
  unfold receiveFrame; (try dsimp only); (repeat' split) <;> simp
@[simp] theorem receiveFrame_retained (p : Port) (b : List Byte) (s : State) : (receiveFrame p b s).retained = s.retained := by
  unfold receiveFrame; (try dsimp only); (repeat' split) <;> simp
@[simp] theorem receiveFrame_resetting (p : Port) (b : List Byte) (s : State) : (receiveFrame p b s).resetting = s.resetting := by
  unfold receiveFrame; (try dsimp only); (repeat' split) <;> simp
@[simp] theorem receiveFrame_consts (p : Port) (b : List Byte) (s : State) : (receiveFrame p b s).consts = s.consts := by
  unfold receiveFrame; (try dsimp only); (repeat' split) <;> simp
@[simp] theorem receiveFrame_signals (p : Port) (b : List Byte) (s : State) : (receiveFrame p b s).signals = s.signals := by
  unfold receiveFrame; (try dsimp only); (repeat' split) <;> simp
@[simp] theorem receiveFrame_pins (p : Port) (b : List Byte) (s : State) : (receiveFrame p b s).pins = s.pins := by
  unfold receiveFrame; (try dsimp only); (repeat' split) <;> simp
@[simp] theorem receiveFrame_period (p : Port) (b : List Byte) (s : State) : (receiveFrame p b s).period = s.period := by
  unfold receiveFrame; (try dsimp only); (repeat' split) <;> simp
@[simp] theorem receiveFrame_started (p : Port) (b : List Byte) (s : State) : (receiveFrame p b s).started = s.started := by
  unfold receiveFrame; (try dsimp only); (repeat' split) <;> simp
@[simp] theorem receiveFrame_auth (p : Port) (b : List Byte) (s : State) : (receiveFrame p b s).auth = s.auth := by
  unfold receiveFrame; (try dsimp only); (repeat' split) <;> simp
@[simp] theorem receiveFrame_queues (p : Port) (b : List Byte) (s : State) : (receiveFrame p b s).queues = s.queues := by
  unfold receiveFrame; (try dsimp only); (repeat' split) <;> simp
@[simp] theorem receiveFrame_engines (p : Port) (b : List Byte) (s : State) : (receiveFrame p b s).engines = s.engines := by
  unfold receiveFrame; (try dsimp only); (repeat' split) <;> simp
@[simp] theorem receiveFrame_envs (p : Port) (b : List Byte) (s : State) : (receiveFrame p b s).envs = s.envs := by
  unfold receiveFrame; (try dsimp only); (repeat' split) <;> simp
@[simp] theorem receiveFrame_link (p : Port) (b : List Byte) (s : State) : (receiveFrame p b s).link = s.link := by
  unfold receiveFrame; (try dsimp only); (repeat' split) <;> simp
@[simp] theorem receiveFrame_allot (p : Port) (b : List Byte) (s : State) : (receiveFrame p b s).allot = s.allot := by
  unfold receiveFrame; (try dsimp only); (repeat' split) <;> simp
@[simp] theorem receiveFrame_react (p : Port) (b : List Byte) (s : State) : (receiveFrame p b s).react = s.react := by
  unfold receiveFrame; (try dsimp only); (repeat' split) <;> simp
@[simp] theorem receiveFrame_inputs (p : Port) (b : List Byte) (s : State) : (receiveFrame p b s).inputs = s.inputs := by
  unfold receiveFrame; (try dsimp only); (repeat' split) <;> simp
@[simp] theorem receiveFrame_wire (p : Port) (b : List Byte) (s : State) : (receiveFrame p b s).wire = s.wire := by
  unfold receiveFrame; (try dsimp only); (repeat' split) <;> simp
@[simp] theorem receiveFrame_pending (p : Port) (b : List Byte) (s : State) : (receiveFrame p b s).pending = s.pending := by
  unfold receiveFrame; (try dsimp only); (repeat' split) <;> simp

/-! `gainSignal` changes signals, ports at most. -/
@[simp] theorem gainSignal_phase (p : Port) (s : State) : (gainSignal p s).phase = s.phase := by
  unfold gainSignal; (try dsimp only); (repeat' split) <;> simp
@[simp] theorem gainSignal_safetyPort (p : Port) (s : State) : (gainSignal p s).safetyPort = s.safetyPort := by
  unfold gainSignal; (try dsimp only); (repeat' split) <;> simp
@[simp] theorem gainSignal_retained (p : Port) (s : State) : (gainSignal p s).retained = s.retained := by
  unfold gainSignal; (try dsimp only); (repeat' split) <;> simp
@[simp] theorem gainSignal_resetting (p : Port) (s : State) : (gainSignal p s).resetting = s.resetting := by
  unfold gainSignal; (try dsimp only); (repeat' split) <;> simp
@[simp] theorem gainSignal_consts (p : Port) (s : State) : (gainSignal p s).consts = s.consts := by
  unfold gainSignal; (try dsimp only); (repeat' split) <;> simp
@[simp] theorem gainSignal_pins (p : Port) (s : State) : (gainSignal p s).pins = s.pins := by
  unfold gainSignal; (try dsimp only); (repeat' split) <;> simp
@[simp] theorem gainSignal_period (p : Port) (s : State) : (gainSignal p s).period = s.period := by
  unfold gainSignal; (try dsimp only); (repeat' split) <;> simp
@[simp] theorem gainSignal_started (p : Port) (s : State) : (gainSignal p s).started = s.started := by
  unfold gainSignal; (try dsimp only); (repeat' split) <;> simp
@[simp] theorem gainSignal_auth (p : Port) (s : State) : (gainSignal p s).auth = s.auth := by
  unfold gainSignal; (try dsimp only); (repeat' split) <;> simp
@[simp] theorem gainSignal_queues (p : Port) (s : State) : (gainSignal p s).queues = s.queues := by
  unfold gainSignal; (try dsimp only); (repeat' split) <;> simp
@[simp] theorem gainSignal_engines (p : Port) (s : State) : (gainSignal p s).engines = s.engines := by
  unfold gainSignal; (try dsimp only); (repeat' split) <;> simp
@[simp] theorem gainSignal_envs (p : Port) (s : State) : (gainSignal p s).envs = s.envs := by
  unfold gainSignal; (try dsimp only); (repeat' split) <;> simp
@[simp] theorem gainSignal_link (p : Port) (s : State) : (gainSignal p s).link = s.link := by
  unfold gainSignal; (try dsimp only); (repeat' split) <;> simp
@[simp] theorem gainSignal_allot (p : Port) (s : State) : (gainSignal p s).allot = s.allot := by
  unfold gainSignal; (try dsimp only); (repeat' split) <;> simp
@[simp] theorem gainSignal_react (p : Port) (s : State) : (gainSignal p s).react = s.react := by
  unfold gainSignal; (try dsimp only); (repeat' split) <;> simp
@[simp] theorem gainSignal_inputs (p : Port) (s : State) : (gainSignal p s).inputs = s.inputs := by
  unfold gainSignal; (try dsimp only); (repeat' split) <;> simp
@[simp] theorem gainSignal_wire (p : Port) (s : State) : (gainSignal p s).wire = s.wire := by
  unfold gainSignal; (try dsimp only); (repeat' split) <;> simp
@[simp] theorem gainSignal_pending (p : Port) (s : State) : (gainSignal p s).pending = s.pending := by
  unfold gainSignal; (try dsimp only); (repeat' split) <;> simp

/-! `resetIfLost` changes resetting at most. -/
@[simp] theorem resetIfLost_phase (p : Port) (s : State) : (resetIfLost p s).phase = s.phase := by
  unfold resetIfLost; (try dsimp only); (repeat' split) <;> simp
@[simp] theorem resetIfLost_safetyPort (p : Port) (s : State) : (resetIfLost p s).safetyPort = s.safetyPort := by
  unfold resetIfLost; (try dsimp only); (repeat' split) <;> simp
@[simp] theorem resetIfLost_retained (p : Port) (s : State) : (resetIfLost p s).retained = s.retained := by
  unfold resetIfLost; (try dsimp only); (repeat' split) <;> simp
@[simp] theorem resetIfLost_consts (p : Port) (s : State) : (resetIfLost p s).consts = s.consts := by
  unfold resetIfLost; (try dsimp only); (repeat' split) <;> simp
@[simp] theorem resetIfLost_signals (p : Port) (s : State) : (resetIfLost p s).signals = s.signals := by
  unfold resetIfLost; (try dsimp only); (repeat' split) <;> simp
@[simp] theorem resetIfLost_pins (p : Port) (s : State) : (resetIfLost p s).pins = s.pins := by
  unfold resetIfLost; (try dsimp only); (repeat' split) <;> simp
@[simp] theorem resetIfLost_period (p : Port) (s : State) : (resetIfLost p s).period = s.period := by
  unfold resetIfLost; (try dsimp only); (repeat' split) <;> simp
@[simp] theorem resetIfLost_started (p : Port) (s : State) : (resetIfLost p s).started = s.started := by
  unfold resetIfLost; (try dsimp only); (repeat' split) <;> simp
@[simp] theorem resetIfLost_auth (p : Port) (s : State) : (resetIfLost p s).auth = s.auth := by
  unfold resetIfLost; (try dsimp only); (repeat' split) <;> simp
@[simp] theorem resetIfLost_queues (p : Port) (s : State) : (resetIfLost p s).queues = s.queues := by
  unfold resetIfLost; (try dsimp only); (repeat' split) <;> simp
@[simp] theorem resetIfLost_engines (p : Port) (s : State) : (resetIfLost p s).engines = s.engines := by
  unfold resetIfLost; (try dsimp only); (repeat' split) <;> simp
@[simp] theorem resetIfLost_envs (p : Port) (s : State) : (resetIfLost p s).envs = s.envs := by
  unfold resetIfLost; (try dsimp only); (repeat' split) <;> simp
@[simp] theorem resetIfLost_link (p : Port) (s : State) : (resetIfLost p s).link = s.link := by
  unfold resetIfLost; (try dsimp only); (repeat' split) <;> simp
@[simp] theorem resetIfLost_allot (p : Port) (s : State) : (resetIfLost p s).allot = s.allot := by
  unfold resetIfLost; (try dsimp only); (repeat' split) <;> simp
@[simp] theorem resetIfLost_react (p : Port) (s : State) : (resetIfLost p s).react = s.react := by
  unfold resetIfLost; (try dsimp only); (repeat' split) <;> simp
@[simp] theorem resetIfLost_inputs (p : Port) (s : State) : (resetIfLost p s).inputs = s.inputs := by
  unfold resetIfLost; (try dsimp only); (repeat' split) <;> simp
@[simp] theorem resetIfLost_ports (p : Port) (s : State) : (resetIfLost p s).ports = s.ports := by
  unfold resetIfLost; (try dsimp only); (repeat' split) <;> simp
@[simp] theorem resetIfLost_wire (p : Port) (s : State) : (resetIfLost p s).wire = s.wire := by
  unfold resetIfLost; (try dsimp only); (repeat' split) <;> simp
@[simp] theorem resetIfLost_pending (p : Port) (s : State) : (resetIfLost p s).pending = s.pending := by
  unfold resetIfLost; (try dsimp only); (repeat' split) <;> simp

/-! `loseSignal` changes auth, queues, engines, envs, allot, react, retained, ports, wire, signals, resetting at most. -/
@[simp] theorem loseSignal_phase (p : Port) (m : Bool) (s : State) : (loseSignal p m s).phase = s.phase := by
  unfold loseSignal; (try dsimp only); (repeat' split) <;> simp
@[simp] theorem loseSignal_safetyPort (p : Port) (m : Bool) (s : State) : (loseSignal p m s).safetyPort = s.safetyPort := by
  unfold loseSignal; (try dsimp only); (repeat' split) <;> simp
@[simp] theorem loseSignal_consts (p : Port) (m : Bool) (s : State) : (loseSignal p m s).consts = s.consts := by
  unfold loseSignal; (try dsimp only); (repeat' split) <;> simp
@[simp] theorem loseSignal_pins (p : Port) (m : Bool) (s : State) : (loseSignal p m s).pins = s.pins := by
  unfold loseSignal; (try dsimp only); (repeat' split) <;> simp
@[simp] theorem loseSignal_period (p : Port) (m : Bool) (s : State) : (loseSignal p m s).period = s.period := by
  unfold loseSignal; (try dsimp only); (repeat' split) <;> simp
@[simp] theorem loseSignal_started (p : Port) (m : Bool) (s : State) : (loseSignal p m s).started = s.started := by
  unfold loseSignal; (try dsimp only); (repeat' split) <;> simp
@[simp] theorem loseSignal_link (p : Port) (m : Bool) (s : State) : (loseSignal p m s).link = s.link := by
  unfold loseSignal; (try dsimp only); (repeat' split) <;> simp
@[simp] theorem loseSignal_inputs (p : Port) (m : Bool) (s : State) : (loseSignal p m s).inputs = s.inputs := by
  unfold loseSignal; (try dsimp only); (repeat' split) <;> simp
@[simp] theorem loseSignal_pending (p : Port) (m : Bool) (s : State) : (loseSignal p m s).pending = s.pending := by
  unfold loseSignal; (try dsimp only); (repeat' split) <;> simp

/-! `completeSend` changes wire, resetting, ports at most. -/
@[simp] theorem completeSend_phase (p : Port) (s : State) : (completeSend p s).phase = s.phase := by
  unfold completeSend; (try dsimp only); (repeat' split) <;> simp
@[simp] theorem completeSend_safetyPort (p : Port) (s : State) : (completeSend p s).safetyPort = s.safetyPort := by
  unfold completeSend; (try dsimp only); (repeat' split) <;> simp
@[simp] theorem completeSend_retained (p : Port) (s : State) : (completeSend p s).retained = s.retained := by
  unfold completeSend; (try dsimp only); (repeat' split) <;> simp
@[simp] theorem completeSend_consts (p : Port) (s : State) : (completeSend p s).consts = s.consts := by
  unfold completeSend; (try dsimp only); (repeat' split) <;> simp
@[simp] theorem completeSend_signals (p : Port) (s : State) : (completeSend p s).signals = s.signals := by
  unfold completeSend; (try dsimp only); (repeat' split) <;> simp
@[simp] theorem completeSend_pins (p : Port) (s : State) : (completeSend p s).pins = s.pins := by
  unfold completeSend; (try dsimp only); (repeat' split) <;> simp
@[simp] theorem completeSend_period (p : Port) (s : State) : (completeSend p s).period = s.period := by
  unfold completeSend; (try dsimp only); (repeat' split) <;> simp
@[simp] theorem completeSend_started (p : Port) (s : State) : (completeSend p s).started = s.started := by
  unfold completeSend; (try dsimp only); (repeat' split) <;> simp
@[simp] theorem completeSend_auth (p : Port) (s : State) : (completeSend p s).auth = s.auth := by
  unfold completeSend; (try dsimp only); (repeat' split) <;> simp
@[simp] theorem completeSend_queues (p : Port) (s : State) : (completeSend p s).queues = s.queues := by
  unfold completeSend; (try dsimp only); (repeat' split) <;> simp
@[simp] theorem completeSend_engines (p : Port) (s : State) : (completeSend p s).engines = s.engines := by
  unfold completeSend; (try dsimp only); (repeat' split) <;> simp
@[simp] theorem completeSend_envs (p : Port) (s : State) : (completeSend p s).envs = s.envs := by
  unfold completeSend; (try dsimp only); (repeat' split) <;> simp
@[simp] theorem completeSend_link (p : Port) (s : State) : (completeSend p s).link = s.link := by
  unfold completeSend; (try dsimp only); (repeat' split) <;> simp
@[simp] theorem completeSend_allot (p : Port) (s : State) : (completeSend p s).allot = s.allot := by
  unfold completeSend; (try dsimp only); (repeat' split) <;> simp
@[simp] theorem completeSend_react (p : Port) (s : State) : (completeSend p s).react = s.react := by
  unfold completeSend; (try dsimp only); (repeat' split) <;> simp
@[simp] theorem completeSend_inputs (p : Port) (s : State) : (completeSend p s).inputs = s.inputs := by
  unfold completeSend; (try dsimp only); (repeat' split) <;> simp
@[simp] theorem completeSend_pending (p : Port) (s : State) : (completeSend p s).pending = s.pending := by
  unfold completeSend; (try dsimp only); (repeat' split) <;> simp

/-! `pacingExpiry` changes ports at most. -/
@[simp] theorem pacingExpiry_phase (p : Port) (s : State) : (pacingExpiry p s).phase = s.phase := by
  unfold pacingExpiry; (try dsimp only); (repeat' split) <;> simp
@[simp] theorem pacingExpiry_safetyPort (p : Port) (s : State) : (pacingExpiry p s).safetyPort = s.safetyPort := by
  unfold pacingExpiry; (try dsimp only); (repeat' split) <;> simp
@[simp] theorem pacingExpiry_retained (p : Port) (s : State) : (pacingExpiry p s).retained = s.retained := by
  unfold pacingExpiry; (try dsimp only); (repeat' split) <;> simp
@[simp] theorem pacingExpiry_resetting (p : Port) (s : State) : (pacingExpiry p s).resetting = s.resetting := by
  unfold pacingExpiry; (try dsimp only); (repeat' split) <;> simp
@[simp] theorem pacingExpiry_consts (p : Port) (s : State) : (pacingExpiry p s).consts = s.consts := by
  unfold pacingExpiry; (try dsimp only); (repeat' split) <;> simp
@[simp] theorem pacingExpiry_signals (p : Port) (s : State) : (pacingExpiry p s).signals = s.signals := by
  unfold pacingExpiry; (try dsimp only); (repeat' split) <;> simp
@[simp] theorem pacingExpiry_pins (p : Port) (s : State) : (pacingExpiry p s).pins = s.pins := by
  unfold pacingExpiry; (try dsimp only); (repeat' split) <;> simp
@[simp] theorem pacingExpiry_period (p : Port) (s : State) : (pacingExpiry p s).period = s.period := by
  unfold pacingExpiry; (try dsimp only); (repeat' split) <;> simp
@[simp] theorem pacingExpiry_started (p : Port) (s : State) : (pacingExpiry p s).started = s.started := by
  unfold pacingExpiry; (try dsimp only); (repeat' split) <;> simp
@[simp] theorem pacingExpiry_auth (p : Port) (s : State) : (pacingExpiry p s).auth = s.auth := by
  unfold pacingExpiry; (try dsimp only); (repeat' split) <;> simp
@[simp] theorem pacingExpiry_queues (p : Port) (s : State) : (pacingExpiry p s).queues = s.queues := by
  unfold pacingExpiry; (try dsimp only); (repeat' split) <;> simp
@[simp] theorem pacingExpiry_engines (p : Port) (s : State) : (pacingExpiry p s).engines = s.engines := by
  unfold pacingExpiry; (try dsimp only); (repeat' split) <;> simp
@[simp] theorem pacingExpiry_envs (p : Port) (s : State) : (pacingExpiry p s).envs = s.envs := by
  unfold pacingExpiry; (try dsimp only); (repeat' split) <;> simp
@[simp] theorem pacingExpiry_link (p : Port) (s : State) : (pacingExpiry p s).link = s.link := by
  unfold pacingExpiry; (try dsimp only); (repeat' split) <;> simp
@[simp] theorem pacingExpiry_allot (p : Port) (s : State) : (pacingExpiry p s).allot = s.allot := by
  unfold pacingExpiry; (try dsimp only); (repeat' split) <;> simp
@[simp] theorem pacingExpiry_react (p : Port) (s : State) : (pacingExpiry p s).react = s.react := by
  unfold pacingExpiry; (try dsimp only); (repeat' split) <;> simp
@[simp] theorem pacingExpiry_inputs (p : Port) (s : State) : (pacingExpiry p s).inputs = s.inputs := by
  unfold pacingExpiry; (try dsimp only); (repeat' split) <;> simp
@[simp] theorem pacingExpiry_wire (p : Port) (s : State) : (pacingExpiry p s).wire = s.wire := by
  unfold pacingExpiry; (try dsimp only); (repeat' split) <;> simp
@[simp] theorem pacingExpiry_pending (p : Port) (s : State) : (pacingExpiry p s).pending = s.pending := by
  unfold pacingExpiry; (try dsimp only); (repeat' split) <;> simp

/-! `sampleChecks` changes auth, queues, engines, envs, allot, react, retained, ports, wire at most. -/
@[simp] theorem sampleChecks_phase (c : Chan) (d : SampleData) (s : State) : (sampleChecks c d s).phase = s.phase := by
  unfold sampleChecks; (try dsimp only); (repeat' split) <;> simp
@[simp] theorem sampleChecks_safetyPort (c : Chan) (d : SampleData) (s : State) : (sampleChecks c d s).safetyPort = s.safetyPort := by
  unfold sampleChecks; (try dsimp only); (repeat' split) <;> simp
@[simp] theorem sampleChecks_resetting (c : Chan) (d : SampleData) (s : State) : (sampleChecks c d s).resetting = s.resetting := by
  unfold sampleChecks; (try dsimp only); (repeat' split) <;> simp
@[simp] theorem sampleChecks_consts (c : Chan) (d : SampleData) (s : State) : (sampleChecks c d s).consts = s.consts := by
  unfold sampleChecks; (try dsimp only); (repeat' split) <;> simp
@[simp] theorem sampleChecks_signals (c : Chan) (d : SampleData) (s : State) : (sampleChecks c d s).signals = s.signals := by
  unfold sampleChecks; (try dsimp only); (repeat' split) <;> simp
@[simp] theorem sampleChecks_pins (c : Chan) (d : SampleData) (s : State) : (sampleChecks c d s).pins = s.pins := by
  unfold sampleChecks; (try dsimp only); (repeat' split) <;> simp
@[simp] theorem sampleChecks_period (c : Chan) (d : SampleData) (s : State) : (sampleChecks c d s).period = s.period := by
  unfold sampleChecks; (try dsimp only); (repeat' split) <;> simp
@[simp] theorem sampleChecks_started (c : Chan) (d : SampleData) (s : State) : (sampleChecks c d s).started = s.started := by
  unfold sampleChecks; (try dsimp only); (repeat' split) <;> simp
@[simp] theorem sampleChecks_link (c : Chan) (d : SampleData) (s : State) : (sampleChecks c d s).link = s.link := by
  unfold sampleChecks; (try dsimp only); (repeat' split) <;> simp
@[simp] theorem sampleChecks_inputs (c : Chan) (d : SampleData) (s : State) : (sampleChecks c d s).inputs = s.inputs := by
  unfold sampleChecks; (try dsimp only); (repeat' split) <;> simp
@[simp] theorem sampleChecks_pending (c : Chan) (d : SampleData) (s : State) : (sampleChecks c d s).pending = s.pending := by
  unfold sampleChecks; (try dsimp only); (repeat' split) <;> simp

/-! `chargeHeat` changes auth, queues, engines, envs, allot, react, retained, ports, wire at most. -/
@[simp] theorem chargeHeat_phase (c : Chan) (h : Nat) (b : Bool) (s : State) : (chargeHeat c h b s).phase = s.phase := by
  unfold chargeHeat; (try dsimp only); (repeat' split) <;> simp
@[simp] theorem chargeHeat_safetyPort (c : Chan) (h : Nat) (b : Bool) (s : State) : (chargeHeat c h b s).safetyPort = s.safetyPort := by
  unfold chargeHeat; (try dsimp only); (repeat' split) <;> simp
@[simp] theorem chargeHeat_resetting (c : Chan) (h : Nat) (b : Bool) (s : State) : (chargeHeat c h b s).resetting = s.resetting := by
  unfold chargeHeat; (try dsimp only); (repeat' split) <;> simp
@[simp] theorem chargeHeat_consts (c : Chan) (h : Nat) (b : Bool) (s : State) : (chargeHeat c h b s).consts = s.consts := by
  unfold chargeHeat; (try dsimp only); (repeat' split) <;> simp
@[simp] theorem chargeHeat_signals (c : Chan) (h : Nat) (b : Bool) (s : State) : (chargeHeat c h b s).signals = s.signals := by
  unfold chargeHeat; (try dsimp only); (repeat' split) <;> simp
@[simp] theorem chargeHeat_pins (c : Chan) (h : Nat) (b : Bool) (s : State) : (chargeHeat c h b s).pins = s.pins := by
  unfold chargeHeat; (try dsimp only); (repeat' split) <;> simp
@[simp] theorem chargeHeat_period (c : Chan) (h : Nat) (b : Bool) (s : State) : (chargeHeat c h b s).period = s.period := by
  unfold chargeHeat; (try dsimp only); (repeat' split) <;> simp
@[simp] theorem chargeHeat_started (c : Chan) (h : Nat) (b : Bool) (s : State) : (chargeHeat c h b s).started = s.started := by
  unfold chargeHeat; (try dsimp only); (repeat' split) <;> simp
@[simp] theorem chargeHeat_link (c : Chan) (h : Nat) (b : Bool) (s : State) : (chargeHeat c h b s).link = s.link := by
  unfold chargeHeat; (try dsimp only); (repeat' split) <;> simp
@[simp] theorem chargeHeat_inputs (c : Chan) (h : Nat) (b : Bool) (s : State) : (chargeHeat c h b s).inputs = s.inputs := by
  unfold chargeHeat; (try dsimp only); (repeat' split) <;> simp
@[simp] theorem chargeHeat_pending (c : Chan) (h : Nat) (b : Bool) (s : State) : (chargeHeat c h b s).pending = s.pending := by
  unfold chargeHeat; (try dsimp only); (repeat' split) <;> simp

/-! `thermalUpdate` changes auth, queues, engines, envs, allot, react, retained, ports, wire at most. -/
@[simp] theorem thermalUpdate_phase (c : Chan) (s : State) : (thermalUpdate c s).phase = s.phase := by
  unfold thermalUpdate; (try dsimp only); (repeat' split) <;> simp
@[simp] theorem thermalUpdate_safetyPort (c : Chan) (s : State) : (thermalUpdate c s).safetyPort = s.safetyPort := by
  unfold thermalUpdate; (try dsimp only); (repeat' split) <;> simp
@[simp] theorem thermalUpdate_resetting (c : Chan) (s : State) : (thermalUpdate c s).resetting = s.resetting := by
  unfold thermalUpdate; (try dsimp only); (repeat' split) <;> simp
@[simp] theorem thermalUpdate_consts (c : Chan) (s : State) : (thermalUpdate c s).consts = s.consts := by
  unfold thermalUpdate; (try dsimp only); (repeat' split) <;> simp
@[simp] theorem thermalUpdate_signals (c : Chan) (s : State) : (thermalUpdate c s).signals = s.signals := by
  unfold thermalUpdate; (try dsimp only); (repeat' split) <;> simp
@[simp] theorem thermalUpdate_pins (c : Chan) (s : State) : (thermalUpdate c s).pins = s.pins := by
  unfold thermalUpdate; (try dsimp only); (repeat' split) <;> simp
@[simp] theorem thermalUpdate_period (c : Chan) (s : State) : (thermalUpdate c s).period = s.period := by
  unfold thermalUpdate; (try dsimp only); (repeat' split) <;> simp
@[simp] theorem thermalUpdate_started (c : Chan) (s : State) : (thermalUpdate c s).started = s.started := by
  unfold thermalUpdate; (try dsimp only); (repeat' split) <;> simp
@[simp] theorem thermalUpdate_link (c : Chan) (s : State) : (thermalUpdate c s).link = s.link := by
  unfold thermalUpdate; (try dsimp only); (repeat' split) <;> simp
@[simp] theorem thermalUpdate_inputs (c : Chan) (s : State) : (thermalUpdate c s).inputs = s.inputs := by
  unfold thermalUpdate; (try dsimp only); (repeat' split) <;> simp
@[simp] theorem thermalUpdate_pending (c : Chan) (s : State) : (thermalUpdate c s).pending = s.pending := by
  unfold thermalUpdate; (try dsimp only); (repeat' split) <;> simp

/-! `clearThermal` changes engines, ports at most. -/
@[simp] theorem clearThermal_phase (c : Chan) (f b : Bool) (s : State) : (clearThermal c f b s).phase = s.phase := by
  unfold clearThermal; (try dsimp only); (repeat' split) <;> simp
@[simp] theorem clearThermal_safetyPort (c : Chan) (f b : Bool) (s : State) : (clearThermal c f b s).safetyPort = s.safetyPort := by
  unfold clearThermal; (try dsimp only); (repeat' split) <;> simp
@[simp] theorem clearThermal_retained (c : Chan) (f b : Bool) (s : State) : (clearThermal c f b s).retained = s.retained := by
  unfold clearThermal; (try dsimp only); (repeat' split) <;> simp
@[simp] theorem clearThermal_resetting (c : Chan) (f b : Bool) (s : State) : (clearThermal c f b s).resetting = s.resetting := by
  unfold clearThermal; (try dsimp only); (repeat' split) <;> simp
@[simp] theorem clearThermal_consts (c : Chan) (f b : Bool) (s : State) : (clearThermal c f b s).consts = s.consts := by
  unfold clearThermal; (try dsimp only); (repeat' split) <;> simp
@[simp] theorem clearThermal_signals (c : Chan) (f b : Bool) (s : State) : (clearThermal c f b s).signals = s.signals := by
  unfold clearThermal; (try dsimp only); (repeat' split) <;> simp
@[simp] theorem clearThermal_pins (c : Chan) (f b : Bool) (s : State) : (clearThermal c f b s).pins = s.pins := by
  unfold clearThermal; (try dsimp only); (repeat' split) <;> simp
@[simp] theorem clearThermal_period (c : Chan) (f b : Bool) (s : State) : (clearThermal c f b s).period = s.period := by
  unfold clearThermal; (try dsimp only); (repeat' split) <;> simp
@[simp] theorem clearThermal_started (c : Chan) (f b : Bool) (s : State) : (clearThermal c f b s).started = s.started := by
  unfold clearThermal; (try dsimp only); (repeat' split) <;> simp
@[simp] theorem clearThermal_auth (c : Chan) (f b : Bool) (s : State) : (clearThermal c f b s).auth = s.auth := by
  unfold clearThermal; (try dsimp only); (repeat' split) <;> simp
@[simp] theorem clearThermal_queues (c : Chan) (f b : Bool) (s : State) : (clearThermal c f b s).queues = s.queues := by
  unfold clearThermal; (try dsimp only); (repeat' split) <;> simp
@[simp] theorem clearThermal_envs (c : Chan) (f b : Bool) (s : State) : (clearThermal c f b s).envs = s.envs := by
  unfold clearThermal; (try dsimp only); (repeat' split) <;> simp
@[simp] theorem clearThermal_link (c : Chan) (f b : Bool) (s : State) : (clearThermal c f b s).link = s.link := by
  unfold clearThermal; (try dsimp only); (repeat' split) <;> simp
@[simp] theorem clearThermal_allot (c : Chan) (f b : Bool) (s : State) : (clearThermal c f b s).allot = s.allot := by
  unfold clearThermal; (try dsimp only); (repeat' split) <;> simp
@[simp] theorem clearThermal_react (c : Chan) (f b : Bool) (s : State) : (clearThermal c f b s).react = s.react := by
  unfold clearThermal; (try dsimp only); (repeat' split) <;> simp
@[simp] theorem clearThermal_inputs (c : Chan) (f b : Bool) (s : State) : (clearThermal c f b s).inputs = s.inputs := by
  unfold clearThermal; (try dsimp only); (repeat' split) <;> simp
@[simp] theorem clearThermal_wire (c : Chan) (f b : Bool) (s : State) : (clearThermal c f b s).wire = s.wire := by
  unfold clearThermal; (try dsimp only); (repeat' split) <;> simp
@[simp] theorem clearThermal_pending (c : Chan) (f b : Bool) (s : State) : (clearThermal c f b s).pending = s.pending := by
  unfold clearThermal; (try dsimp only); (repeat' split) <;> simp

/-! `thermalClear` changes engines, ports at most. -/
@[simp] theorem thermalClear_phase (c : Chan) (f : Bool) (s : State) : (thermalClear c f s).phase = s.phase := by
  unfold thermalClear; (try dsimp only); (repeat' split) <;> simp
@[simp] theorem thermalClear_safetyPort (c : Chan) (f : Bool) (s : State) : (thermalClear c f s).safetyPort = s.safetyPort := by
  unfold thermalClear; (try dsimp only); (repeat' split) <;> simp
@[simp] theorem thermalClear_retained (c : Chan) (f : Bool) (s : State) : (thermalClear c f s).retained = s.retained := by
  unfold thermalClear; (try dsimp only); (repeat' split) <;> simp
@[simp] theorem thermalClear_resetting (c : Chan) (f : Bool) (s : State) : (thermalClear c f s).resetting = s.resetting := by
  unfold thermalClear; (try dsimp only); (repeat' split) <;> simp
@[simp] theorem thermalClear_consts (c : Chan) (f : Bool) (s : State) : (thermalClear c f s).consts = s.consts := by
  unfold thermalClear; (try dsimp only); (repeat' split) <;> simp
@[simp] theorem thermalClear_signals (c : Chan) (f : Bool) (s : State) : (thermalClear c f s).signals = s.signals := by
  unfold thermalClear; (try dsimp only); (repeat' split) <;> simp
@[simp] theorem thermalClear_pins (c : Chan) (f : Bool) (s : State) : (thermalClear c f s).pins = s.pins := by
  unfold thermalClear; (try dsimp only); (repeat' split) <;> simp
@[simp] theorem thermalClear_period (c : Chan) (f : Bool) (s : State) : (thermalClear c f s).period = s.period := by
  unfold thermalClear; (try dsimp only); (repeat' split) <;> simp
@[simp] theorem thermalClear_started (c : Chan) (f : Bool) (s : State) : (thermalClear c f s).started = s.started := by
  unfold thermalClear; (try dsimp only); (repeat' split) <;> simp
@[simp] theorem thermalClear_auth (c : Chan) (f : Bool) (s : State) : (thermalClear c f s).auth = s.auth := by
  unfold thermalClear; (try dsimp only); (repeat' split) <;> simp
@[simp] theorem thermalClear_queues (c : Chan) (f : Bool) (s : State) : (thermalClear c f s).queues = s.queues := by
  unfold thermalClear; (try dsimp only); (repeat' split) <;> simp
@[simp] theorem thermalClear_envs (c : Chan) (f : Bool) (s : State) : (thermalClear c f s).envs = s.envs := by
  unfold thermalClear; (try dsimp only); (repeat' split) <;> simp
@[simp] theorem thermalClear_link (c : Chan) (f : Bool) (s : State) : (thermalClear c f s).link = s.link := by
  unfold thermalClear; (try dsimp only); (repeat' split) <;> simp
@[simp] theorem thermalClear_allot (c : Chan) (f : Bool) (s : State) : (thermalClear c f s).allot = s.allot := by
  unfold thermalClear; (try dsimp only); (repeat' split) <;> simp
@[simp] theorem thermalClear_react (c : Chan) (f : Bool) (s : State) : (thermalClear c f s).react = s.react := by
  unfold thermalClear; (try dsimp only); (repeat' split) <;> simp
@[simp] theorem thermalClear_inputs (c : Chan) (f : Bool) (s : State) : (thermalClear c f s).inputs = s.inputs := by
  unfold thermalClear; (try dsimp only); (repeat' split) <;> simp
@[simp] theorem thermalClear_wire (c : Chan) (f : Bool) (s : State) : (thermalClear c f s).wire = s.wire := by
  unfold thermalClear; (try dsimp only); (repeat' split) <;> simp
@[simp] theorem thermalClear_pending (c : Chan) (f : Bool) (s : State) : (thermalClear c f s).pending = s.pending := by
  unfold thermalClear; (try dsimp only); (repeat' split) <;> simp

/-! `thermalStep` changes auth, queues, engines, envs, allot, react, retained, ports, wire at most. -/
@[simp] theorem thermalStep_phase (c : Chan) (f : Bool) (s : State) : (thermalStep c f s).phase = s.phase := by
  unfold thermalStep; (try dsimp only); (repeat' split) <;> simp
@[simp] theorem thermalStep_safetyPort (c : Chan) (f : Bool) (s : State) : (thermalStep c f s).safetyPort = s.safetyPort := by
  unfold thermalStep; (try dsimp only); (repeat' split) <;> simp
@[simp] theorem thermalStep_resetting (c : Chan) (f : Bool) (s : State) : (thermalStep c f s).resetting = s.resetting := by
  unfold thermalStep; (try dsimp only); (repeat' split) <;> simp
@[simp] theorem thermalStep_consts (c : Chan) (f : Bool) (s : State) : (thermalStep c f s).consts = s.consts := by
  unfold thermalStep; (try dsimp only); (repeat' split) <;> simp
@[simp] theorem thermalStep_signals (c : Chan) (f : Bool) (s : State) : (thermalStep c f s).signals = s.signals := by
  unfold thermalStep; (try dsimp only); (repeat' split) <;> simp
@[simp] theorem thermalStep_pins (c : Chan) (f : Bool) (s : State) : (thermalStep c f s).pins = s.pins := by
  unfold thermalStep; (try dsimp only); (repeat' split) <;> simp
@[simp] theorem thermalStep_period (c : Chan) (f : Bool) (s : State) : (thermalStep c f s).period = s.period := by
  unfold thermalStep; (try dsimp only); (repeat' split) <;> simp
@[simp] theorem thermalStep_started (c : Chan) (f : Bool) (s : State) : (thermalStep c f s).started = s.started := by
  unfold thermalStep; (try dsimp only); (repeat' split) <;> simp
@[simp] theorem thermalStep_link (c : Chan) (f : Bool) (s : State) : (thermalStep c f s).link = s.link := by
  unfold thermalStep; (try dsimp only); (repeat' split) <;> simp
@[simp] theorem thermalStep_inputs (c : Chan) (f : Bool) (s : State) : (thermalStep c f s).inputs = s.inputs := by
  unfold thermalStep; (try dsimp only); (repeat' split) <;> simp
@[simp] theorem thermalStep_pending (c : Chan) (f : Bool) (s : State) : (thermalStep c f s).pending = s.pending := by
  unfold thermalStep; (try dsimp only); (repeat' split) <;> simp

/-! `loopAndRecord` changes engines, allot, wire at most. -/
@[simp] theorem loopAndRecord_phase (c : Chan) (a : Nat) (b : Bool) (s : State) : (loopAndRecord c a b s).phase = s.phase := by
  unfold loopAndRecord; (try dsimp only); (repeat' split) <;> simp
@[simp] theorem loopAndRecord_safetyPort (c : Chan) (a : Nat) (b : Bool) (s : State) : (loopAndRecord c a b s).safetyPort = s.safetyPort := by
  unfold loopAndRecord; (try dsimp only); (repeat' split) <;> simp
@[simp] theorem loopAndRecord_retained (c : Chan) (a : Nat) (b : Bool) (s : State) : (loopAndRecord c a b s).retained = s.retained := by
  unfold loopAndRecord; (try dsimp only); (repeat' split) <;> simp
@[simp] theorem loopAndRecord_resetting (c : Chan) (a : Nat) (b : Bool) (s : State) : (loopAndRecord c a b s).resetting = s.resetting := by
  unfold loopAndRecord; (try dsimp only); (repeat' split) <;> simp
@[simp] theorem loopAndRecord_consts (c : Chan) (a : Nat) (b : Bool) (s : State) : (loopAndRecord c a b s).consts = s.consts := by
  unfold loopAndRecord; (try dsimp only); (repeat' split) <;> simp
@[simp] theorem loopAndRecord_signals (c : Chan) (a : Nat) (b : Bool) (s : State) : (loopAndRecord c a b s).signals = s.signals := by
  unfold loopAndRecord; (try dsimp only); (repeat' split) <;> simp
@[simp] theorem loopAndRecord_pins (c : Chan) (a : Nat) (b : Bool) (s : State) : (loopAndRecord c a b s).pins = s.pins := by
  unfold loopAndRecord; (try dsimp only); (repeat' split) <;> simp
@[simp] theorem loopAndRecord_period (c : Chan) (a : Nat) (b : Bool) (s : State) : (loopAndRecord c a b s).period = s.period := by
  unfold loopAndRecord; (try dsimp only); (repeat' split) <;> simp
@[simp] theorem loopAndRecord_started (c : Chan) (a : Nat) (b : Bool) (s : State) : (loopAndRecord c a b s).started = s.started := by
  unfold loopAndRecord; (try dsimp only); (repeat' split) <;> simp
@[simp] theorem loopAndRecord_auth (c : Chan) (a : Nat) (b : Bool) (s : State) : (loopAndRecord c a b s).auth = s.auth := by
  unfold loopAndRecord; (try dsimp only); (repeat' split) <;> simp
@[simp] theorem loopAndRecord_queues (c : Chan) (a : Nat) (b : Bool) (s : State) : (loopAndRecord c a b s).queues = s.queues := by
  unfold loopAndRecord; (try dsimp only); (repeat' split) <;> simp
@[simp] theorem loopAndRecord_envs (c : Chan) (a : Nat) (b : Bool) (s : State) : (loopAndRecord c a b s).envs = s.envs := by
  unfold loopAndRecord; (try dsimp only); (repeat' split) <;> simp
@[simp] theorem loopAndRecord_link (c : Chan) (a : Nat) (b : Bool) (s : State) : (loopAndRecord c a b s).link = s.link := by
  unfold loopAndRecord; (try dsimp only); (repeat' split) <;> simp
@[simp] theorem loopAndRecord_react (c : Chan) (a : Nat) (b : Bool) (s : State) : (loopAndRecord c a b s).react = s.react := by
  unfold loopAndRecord; (try dsimp only); (repeat' split) <;> simp
@[simp] theorem loopAndRecord_inputs (c : Chan) (a : Nat) (b : Bool) (s : State) : (loopAndRecord c a b s).inputs = s.inputs := by
  unfold loopAndRecord; (try dsimp only); (repeat' split) <;> simp
@[simp] theorem loopAndRecord_ports (c : Chan) (a : Nat) (b : Bool) (s : State) : (loopAndRecord c a b s).ports = s.ports := by
  unfold loopAndRecord; (try dsimp only); (repeat' split) <;> simp
@[simp] theorem loopAndRecord_pending (c : Chan) (a : Nat) (b : Bool) (s : State) : (loopAndRecord c a b s).pending = s.pending := by
  unfold loopAndRecord; (try dsimp only); (repeat' split) <;> simp

/-! `recordSample` changes engines at most. -/
@[simp] theorem recordSample_phase (c : Chan) (d : SampleData) (s : State) : (recordSample c d s).phase = s.phase := rfl
@[simp] theorem recordSample_safetyPort (c : Chan) (d : SampleData) (s : State) : (recordSample c d s).safetyPort = s.safetyPort := rfl
@[simp] theorem recordSample_retained (c : Chan) (d : SampleData) (s : State) : (recordSample c d s).retained = s.retained := rfl
@[simp] theorem recordSample_resetting (c : Chan) (d : SampleData) (s : State) : (recordSample c d s).resetting = s.resetting := rfl
@[simp] theorem recordSample_consts (c : Chan) (d : SampleData) (s : State) : (recordSample c d s).consts = s.consts := rfl
@[simp] theorem recordSample_signals (c : Chan) (d : SampleData) (s : State) : (recordSample c d s).signals = s.signals := rfl
@[simp] theorem recordSample_pins (c : Chan) (d : SampleData) (s : State) : (recordSample c d s).pins = s.pins := rfl
@[simp] theorem recordSample_period (c : Chan) (d : SampleData) (s : State) : (recordSample c d s).period = s.period := rfl
@[simp] theorem recordSample_started (c : Chan) (d : SampleData) (s : State) : (recordSample c d s).started = s.started := rfl
@[simp] theorem recordSample_auth (c : Chan) (d : SampleData) (s : State) : (recordSample c d s).auth = s.auth := rfl
@[simp] theorem recordSample_queues (c : Chan) (d : SampleData) (s : State) : (recordSample c d s).queues = s.queues := rfl
@[simp] theorem recordSample_envs (c : Chan) (d : SampleData) (s : State) : (recordSample c d s).envs = s.envs := rfl
@[simp] theorem recordSample_link (c : Chan) (d : SampleData) (s : State) : (recordSample c d s).link = s.link := rfl
@[simp] theorem recordSample_allot (c : Chan) (d : SampleData) (s : State) : (recordSample c d s).allot = s.allot := rfl
@[simp] theorem recordSample_react (c : Chan) (d : SampleData) (s : State) : (recordSample c d s).react = s.react := rfl
@[simp] theorem recordSample_inputs (c : Chan) (d : SampleData) (s : State) : (recordSample c d s).inputs = s.inputs := rfl
@[simp] theorem recordSample_ports (c : Chan) (d : SampleData) (s : State) : (recordSample c d s).ports = s.ports := rfl
@[simp] theorem recordSample_wire (c : Chan) (d : SampleData) (s : State) : (recordSample c d s).wire = s.wire := rfl
@[simp] theorem recordSample_pending (c : Chan) (d : SampleData) (s : State) : (recordSample c d s).pending = s.pending := rfl

/-! `noteReadiness` changes auth, queues, engines, envs, allot, react, retained, ports, wire, link at most. -/
@[simp] theorem noteReadiness_phase (c : Chan) (x y : Bool) (s : State) : (noteReadiness c x y s).phase = s.phase := by
  unfold noteReadiness; (try dsimp only); (repeat' split) <;> simp
@[simp] theorem noteReadiness_safetyPort (c : Chan) (x y : Bool) (s : State) : (noteReadiness c x y s).safetyPort = s.safetyPort := by
  unfold noteReadiness; (try dsimp only); (repeat' split) <;> simp
@[simp] theorem noteReadiness_resetting (c : Chan) (x y : Bool) (s : State) : (noteReadiness c x y s).resetting = s.resetting := by
  unfold noteReadiness; (try dsimp only); (repeat' split) <;> simp
@[simp] theorem noteReadiness_consts (c : Chan) (x y : Bool) (s : State) : (noteReadiness c x y s).consts = s.consts := by
  unfold noteReadiness; (try dsimp only); (repeat' split) <;> simp
@[simp] theorem noteReadiness_signals (c : Chan) (x y : Bool) (s : State) : (noteReadiness c x y s).signals = s.signals := by
  unfold noteReadiness; (try dsimp only); (repeat' split) <;> simp
@[simp] theorem noteReadiness_pins (c : Chan) (x y : Bool) (s : State) : (noteReadiness c x y s).pins = s.pins := by
  unfold noteReadiness; (try dsimp only); (repeat' split) <;> simp
@[simp] theorem noteReadiness_period (c : Chan) (x y : Bool) (s : State) : (noteReadiness c x y s).period = s.period := by
  unfold noteReadiness; (try dsimp only); (repeat' split) <;> simp
@[simp] theorem noteReadiness_started (c : Chan) (x y : Bool) (s : State) : (noteReadiness c x y s).started = s.started := by
  unfold noteReadiness; (try dsimp only); (repeat' split) <;> simp
@[simp] theorem noteReadiness_inputs (c : Chan) (x y : Bool) (s : State) : (noteReadiness c x y s).inputs = s.inputs := by
  unfold noteReadiness; (try dsimp only); (repeat' split) <;> simp
@[simp] theorem noteReadiness_pending (c : Chan) (x y : Bool) (s : State) : (noteReadiness c x y s).pending = s.pending := by
  unfold noteReadiness; (try dsimp only); (repeat' split) <;> simp

/-! `finishSample` changes auth, queues, engines, envs, allot, react, retained, ports, wire at most. -/
@[simp] theorem finishSample_phase (c : Chan) (a : Nat) (b : Bool) (s : State) : (finishSample c a b s).phase = s.phase := by
  unfold finishSample; (try dsimp only); (repeat' split) <;> simp
@[simp] theorem finishSample_safetyPort (c : Chan) (a : Nat) (b : Bool) (s : State) : (finishSample c a b s).safetyPort = s.safetyPort := by
  unfold finishSample; (try dsimp only); (repeat' split) <;> simp
@[simp] theorem finishSample_resetting (c : Chan) (a : Nat) (b : Bool) (s : State) : (finishSample c a b s).resetting = s.resetting := by
  unfold finishSample; (try dsimp only); (repeat' split) <;> simp
@[simp] theorem finishSample_consts (c : Chan) (a : Nat) (b : Bool) (s : State) : (finishSample c a b s).consts = s.consts := by
  unfold finishSample; (try dsimp only); (repeat' split) <;> simp
@[simp] theorem finishSample_signals (c : Chan) (a : Nat) (b : Bool) (s : State) : (finishSample c a b s).signals = s.signals := by
  unfold finishSample; (try dsimp only); (repeat' split) <;> simp
@[simp] theorem finishSample_pins (c : Chan) (a : Nat) (b : Bool) (s : State) : (finishSample c a b s).pins = s.pins := by
  unfold finishSample; (try dsimp only); (repeat' split) <;> simp
@[simp] theorem finishSample_period (c : Chan) (a : Nat) (b : Bool) (s : State) : (finishSample c a b s).period = s.period := by
  unfold finishSample; (try dsimp only); (repeat' split) <;> simp
@[simp] theorem finishSample_started (c : Chan) (a : Nat) (b : Bool) (s : State) : (finishSample c a b s).started = s.started := by
  unfold finishSample; (try dsimp only); (repeat' split) <;> simp
@[simp] theorem finishSample_link (c : Chan) (a : Nat) (b : Bool) (s : State) : (finishSample c a b s).link = s.link := by
  unfold finishSample; (try dsimp only); (repeat' split) <;> simp
@[simp] theorem finishSample_inputs (c : Chan) (a : Nat) (b : Bool) (s : State) : (finishSample c a b s).inputs = s.inputs := by
  unfold finishSample; (try dsimp only); (repeat' split) <;> simp
@[simp] theorem finishSample_pending (c : Chan) (a : Nat) (b : Bool) (s : State) : (finishSample c a b s).pending = s.pending := by
  unfold finishSample; (try dsimp only); (repeat' split) <;> simp

/-! `takeSample` changes auth, queues, engines, envs, allot, react, retained, ports, wire, link at most. -/
@[simp] theorem takeSample_phase (c : Chan) (d : SampleData) (s : State) : (takeSample c d s).phase = s.phase := by
  unfold takeSample; (try dsimp only); (repeat' split) <;> simp
@[simp] theorem takeSample_safetyPort (c : Chan) (d : SampleData) (s : State) : (takeSample c d s).safetyPort = s.safetyPort := by
  unfold takeSample; (try dsimp only); (repeat' split) <;> simp
@[simp] theorem takeSample_resetting (c : Chan) (d : SampleData) (s : State) : (takeSample c d s).resetting = s.resetting := by
  unfold takeSample; (try dsimp only); (repeat' split) <;> simp
@[simp] theorem takeSample_consts (c : Chan) (d : SampleData) (s : State) : (takeSample c d s).consts = s.consts := by
  unfold takeSample; (try dsimp only); (repeat' split) <;> simp
@[simp] theorem takeSample_signals (c : Chan) (d : SampleData) (s : State) : (takeSample c d s).signals = s.signals := by
  unfold takeSample; (try dsimp only); (repeat' split) <;> simp
@[simp] theorem takeSample_pins (c : Chan) (d : SampleData) (s : State) : (takeSample c d s).pins = s.pins := by
  unfold takeSample; (try dsimp only); (repeat' split) <;> simp
@[simp] theorem takeSample_period (c : Chan) (d : SampleData) (s : State) : (takeSample c d s).period = s.period := by
  unfold takeSample; (try dsimp only); (repeat' split) <;> simp
@[simp] theorem takeSample_started (c : Chan) (d : SampleData) (s : State) : (takeSample c d s).started = s.started := by
  unfold takeSample; (try dsimp only); (repeat' split) <;> simp
@[simp] theorem takeSample_inputs (c : Chan) (d : SampleData) (s : State) : (takeSample c d s).inputs = s.inputs := by
  unfold takeSample; (try dsimp only); (repeat' split) <;> simp
@[simp] theorem takeSample_pending (c : Chan) (d : SampleData) (s : State) : (takeSample c d s).pending = s.pending := by
  unfold takeSample; (try dsimp only); (repeat' split) <;> simp

/-! `receiveSample` changes auth, queues, engines, envs, allot, react, retained, ports, wire, link at most. -/
@[simp] theorem receiveSample_phase (c : Chan) (b : List Byte) (s : State) : (receiveSample c b s).phase = s.phase := by
  unfold receiveSample; (try dsimp only); (repeat' split) <;> simp
@[simp] theorem receiveSample_safetyPort (c : Chan) (b : List Byte) (s : State) : (receiveSample c b s).safetyPort = s.safetyPort := by
  unfold receiveSample; (try dsimp only); (repeat' split) <;> simp
@[simp] theorem receiveSample_resetting (c : Chan) (b : List Byte) (s : State) : (receiveSample c b s).resetting = s.resetting := by
  unfold receiveSample; (try dsimp only); (repeat' split) <;> simp
@[simp] theorem receiveSample_consts (c : Chan) (b : List Byte) (s : State) : (receiveSample c b s).consts = s.consts := by
  unfold receiveSample; (try dsimp only); (repeat' split) <;> simp
@[simp] theorem receiveSample_signals (c : Chan) (b : List Byte) (s : State) : (receiveSample c b s).signals = s.signals := by
  unfold receiveSample; (try dsimp only); (repeat' split) <;> simp
@[simp] theorem receiveSample_pins (c : Chan) (b : List Byte) (s : State) : (receiveSample c b s).pins = s.pins := by
  unfold receiveSample; (try dsimp only); (repeat' split) <;> simp
@[simp] theorem receiveSample_period (c : Chan) (b : List Byte) (s : State) : (receiveSample c b s).period = s.period := by
  unfold receiveSample; (try dsimp only); (repeat' split) <;> simp
@[simp] theorem receiveSample_started (c : Chan) (b : List Byte) (s : State) : (receiveSample c b s).started = s.started := by
  unfold receiveSample; (try dsimp only); (repeat' split) <;> simp
@[simp] theorem receiveSample_inputs (c : Chan) (b : List Byte) (s : State) : (receiveSample c b s).inputs = s.inputs := by
  unfold receiveSample; (try dsimp only); (repeat' split) <;> simp
@[simp] theorem receiveSample_pending (c : Chan) (b : List Byte) (s : State) : (receiveSample c b s).pending = s.pending := by
  unfold receiveSample; (try dsimp only); (repeat' split) <;> simp

/-! `sendMarks` changes wire at most. -/
@[simp] theorem sendMarks_phase  : ∀ (l : List Chan) (s : State), (sendMarks l s).phase = s.phase
  | [], _ => rfl
  | c :: rest, s => by
    unfold sendMarks; (try split) <;> simp [sendMarks_phase rest]
@[simp] theorem sendMarks_safetyPort  : ∀ (l : List Chan) (s : State), (sendMarks l s).safetyPort = s.safetyPort
  | [], _ => rfl
  | c :: rest, s => by
    unfold sendMarks; (try split) <;> simp [sendMarks_safetyPort rest]
@[simp] theorem sendMarks_retained  : ∀ (l : List Chan) (s : State), (sendMarks l s).retained = s.retained
  | [], _ => rfl
  | c :: rest, s => by
    unfold sendMarks; (try split) <;> simp [sendMarks_retained rest]
@[simp] theorem sendMarks_resetting  : ∀ (l : List Chan) (s : State), (sendMarks l s).resetting = s.resetting
  | [], _ => rfl
  | c :: rest, s => by
    unfold sendMarks; (try split) <;> simp [sendMarks_resetting rest]
@[simp] theorem sendMarks_consts  : ∀ (l : List Chan) (s : State), (sendMarks l s).consts = s.consts
  | [], _ => rfl
  | c :: rest, s => by
    unfold sendMarks; (try split) <;> simp [sendMarks_consts rest]
@[simp] theorem sendMarks_signals  : ∀ (l : List Chan) (s : State), (sendMarks l s).signals = s.signals
  | [], _ => rfl
  | c :: rest, s => by
    unfold sendMarks; (try split) <;> simp [sendMarks_signals rest]
@[simp] theorem sendMarks_pins  : ∀ (l : List Chan) (s : State), (sendMarks l s).pins = s.pins
  | [], _ => rfl
  | c :: rest, s => by
    unfold sendMarks; (try split) <;> simp [sendMarks_pins rest]
@[simp] theorem sendMarks_period  : ∀ (l : List Chan) (s : State), (sendMarks l s).period = s.period
  | [], _ => rfl
  | c :: rest, s => by
    unfold sendMarks; (try split) <;> simp [sendMarks_period rest]
@[simp] theorem sendMarks_started  : ∀ (l : List Chan) (s : State), (sendMarks l s).started = s.started
  | [], _ => rfl
  | c :: rest, s => by
    unfold sendMarks; (try split) <;> simp [sendMarks_started rest]
@[simp] theorem sendMarks_auth  : ∀ (l : List Chan) (s : State), (sendMarks l s).auth = s.auth
  | [], _ => rfl
  | c :: rest, s => by
    unfold sendMarks; (try split) <;> simp [sendMarks_auth rest]
@[simp] theorem sendMarks_queues  : ∀ (l : List Chan) (s : State), (sendMarks l s).queues = s.queues
  | [], _ => rfl
  | c :: rest, s => by
    unfold sendMarks; (try split) <;> simp [sendMarks_queues rest]
@[simp] theorem sendMarks_engines  : ∀ (l : List Chan) (s : State), (sendMarks l s).engines = s.engines
  | [], _ => rfl
  | c :: rest, s => by
    unfold sendMarks; (try split) <;> simp [sendMarks_engines rest]
@[simp] theorem sendMarks_envs  : ∀ (l : List Chan) (s : State), (sendMarks l s).envs = s.envs
  | [], _ => rfl
  | c :: rest, s => by
    unfold sendMarks; (try split) <;> simp [sendMarks_envs rest]
@[simp] theorem sendMarks_link  : ∀ (l : List Chan) (s : State), (sendMarks l s).link = s.link
  | [], _ => rfl
  | c :: rest, s => by
    unfold sendMarks; (try split) <;> simp [sendMarks_link rest]
@[simp] theorem sendMarks_allot  : ∀ (l : List Chan) (s : State), (sendMarks l s).allot = s.allot
  | [], _ => rfl
  | c :: rest, s => by
    unfold sendMarks; (try split) <;> simp [sendMarks_allot rest]
@[simp] theorem sendMarks_react  : ∀ (l : List Chan) (s : State), (sendMarks l s).react = s.react
  | [], _ => rfl
  | c :: rest, s => by
    unfold sendMarks; (try split) <;> simp [sendMarks_react rest]
@[simp] theorem sendMarks_inputs  : ∀ (l : List Chan) (s : State), (sendMarks l s).inputs = s.inputs
  | [], _ => rfl
  | c :: rest, s => by
    unfold sendMarks; (try split) <;> simp [sendMarks_inputs rest]
@[simp] theorem sendMarks_ports  : ∀ (l : List Chan) (s : State), (sendMarks l s).ports = s.ports
  | [], _ => rfl
  | c :: rest, s => by
    unfold sendMarks; (try split) <;> simp [sendMarks_ports rest]
@[simp] theorem sendMarks_pending  : ∀ (l : List Chan) (s : State), (sendMarks l s).pending = s.pending
  | [], _ => rfl
  | c :: rest, s => by
    unfold sendMarks; (try split) <;> simp [sendMarks_pending rest]

/-! `missStep` changes auth, queues, engines, envs, allot, react, retained, ports, wire at most. -/
@[simp] theorem missStep_phase (b : Bool) (c : Chan) (s : State) : (missStep b c s).phase = s.phase := by
  unfold missStep; (try dsimp only); (repeat' split) <;> simp
@[simp] theorem missStep_safetyPort (b : Bool) (c : Chan) (s : State) : (missStep b c s).safetyPort = s.safetyPort := by
  unfold missStep; (try dsimp only); (repeat' split) <;> simp
@[simp] theorem missStep_resetting (b : Bool) (c : Chan) (s : State) : (missStep b c s).resetting = s.resetting := by
  unfold missStep; (try dsimp only); (repeat' split) <;> simp
@[simp] theorem missStep_consts (b : Bool) (c : Chan) (s : State) : (missStep b c s).consts = s.consts := by
  unfold missStep; (try dsimp only); (repeat' split) <;> simp
@[simp] theorem missStep_signals (b : Bool) (c : Chan) (s : State) : (missStep b c s).signals = s.signals := by
  unfold missStep; (try dsimp only); (repeat' split) <;> simp
@[simp] theorem missStep_pins (b : Bool) (c : Chan) (s : State) : (missStep b c s).pins = s.pins := by
  unfold missStep; (try dsimp only); (repeat' split) <;> simp
@[simp] theorem missStep_period (b : Bool) (c : Chan) (s : State) : (missStep b c s).period = s.period := by
  unfold missStep; (try dsimp only); (repeat' split) <;> simp
@[simp] theorem missStep_started (b : Bool) (c : Chan) (s : State) : (missStep b c s).started = s.started := by
  unfold missStep; (try dsimp only); (repeat' split) <;> simp
@[simp] theorem missStep_link (b : Bool) (c : Chan) (s : State) : (missStep b c s).link = s.link := by
  unfold missStep; (try dsimp only); (repeat' split) <;> simp
@[simp] theorem missStep_inputs (b : Bool) (c : Chan) (s : State) : (missStep b c s).inputs = s.inputs := by
  unfold missStep; (try dsimp only); (repeat' split) <;> simp
@[simp] theorem missStep_pending (b : Bool) (c : Chan) (s : State) : (missStep b c s).pending = s.pending := by
  unfold missStep; (try dsimp only); (repeat' split) <;> simp

/-! `missSteps` changes auth, queues, engines, envs, allot, react, retained, ports, wire at most. -/
@[simp] theorem missSteps_phase (b : Bool) : ∀ (l : List Chan) (s : State), (missSteps b l s).phase = s.phase
  | [], _ => rfl
  | c :: rest, s => by
    unfold missSteps; (try split) <;> simp [missSteps_phase b rest]
@[simp] theorem missSteps_safetyPort (b : Bool) : ∀ (l : List Chan) (s : State), (missSteps b l s).safetyPort = s.safetyPort
  | [], _ => rfl
  | c :: rest, s => by
    unfold missSteps; (try split) <;> simp [missSteps_safetyPort b rest]
@[simp] theorem missSteps_resetting (b : Bool) : ∀ (l : List Chan) (s : State), (missSteps b l s).resetting = s.resetting
  | [], _ => rfl
  | c :: rest, s => by
    unfold missSteps; (try split) <;> simp [missSteps_resetting b rest]
@[simp] theorem missSteps_consts (b : Bool) : ∀ (l : List Chan) (s : State), (missSteps b l s).consts = s.consts
  | [], _ => rfl
  | c :: rest, s => by
    unfold missSteps; (try split) <;> simp [missSteps_consts b rest]
@[simp] theorem missSteps_signals (b : Bool) : ∀ (l : List Chan) (s : State), (missSteps b l s).signals = s.signals
  | [], _ => rfl
  | c :: rest, s => by
    unfold missSteps; (try split) <;> simp [missSteps_signals b rest]
@[simp] theorem missSteps_pins (b : Bool) : ∀ (l : List Chan) (s : State), (missSteps b l s).pins = s.pins
  | [], _ => rfl
  | c :: rest, s => by
    unfold missSteps; (try split) <;> simp [missSteps_pins b rest]
@[simp] theorem missSteps_period (b : Bool) : ∀ (l : List Chan) (s : State), (missSteps b l s).period = s.period
  | [], _ => rfl
  | c :: rest, s => by
    unfold missSteps; (try split) <;> simp [missSteps_period b rest]
@[simp] theorem missSteps_started (b : Bool) : ∀ (l : List Chan) (s : State), (missSteps b l s).started = s.started
  | [], _ => rfl
  | c :: rest, s => by
    unfold missSteps; (try split) <;> simp [missSteps_started b rest]
@[simp] theorem missSteps_link (b : Bool) : ∀ (l : List Chan) (s : State), (missSteps b l s).link = s.link
  | [], _ => rfl
  | c :: rest, s => by
    unfold missSteps; (try split) <;> simp [missSteps_link b rest]
@[simp] theorem missSteps_inputs (b : Bool) : ∀ (l : List Chan) (s : State), (missSteps b l s).inputs = s.inputs
  | [], _ => rfl
  | c :: rest, s => by
    unfold missSteps; (try split) <;> simp [missSteps_inputs b rest]
@[simp] theorem missSteps_pending (b : Bool) : ∀ (l : List Chan) (s : State), (missSteps b l s).pending = s.pending
  | [], _ => rfl
  | c :: rest, s => by
    unfold missSteps; (try split) <;> simp [missSteps_pending b rest]

/-! `reportBrakes` changes auth, queues, engines, envs, allot, react, retained, ports, wire at most. -/
@[simp] theorem reportBrakes_phase (w : Feedback) : ∀ (l : List Chan) (s : State), (reportBrakes w l s).phase = s.phase
  | [], _ => rfl
  | c :: rest, s => by
    unfold reportBrakes; (try split) <;> simp [reportBrakes_phase w rest]
@[simp] theorem reportBrakes_safetyPort (w : Feedback) : ∀ (l : List Chan) (s : State), (reportBrakes w l s).safetyPort = s.safetyPort
  | [], _ => rfl
  | c :: rest, s => by
    unfold reportBrakes; (try split) <;> simp [reportBrakes_safetyPort w rest]
@[simp] theorem reportBrakes_resetting (w : Feedback) : ∀ (l : List Chan) (s : State), (reportBrakes w l s).resetting = s.resetting
  | [], _ => rfl
  | c :: rest, s => by
    unfold reportBrakes; (try split) <;> simp [reportBrakes_resetting w rest]
@[simp] theorem reportBrakes_consts (w : Feedback) : ∀ (l : List Chan) (s : State), (reportBrakes w l s).consts = s.consts
  | [], _ => rfl
  | c :: rest, s => by
    unfold reportBrakes; (try split) <;> simp [reportBrakes_consts w rest]
@[simp] theorem reportBrakes_signals (w : Feedback) : ∀ (l : List Chan) (s : State), (reportBrakes w l s).signals = s.signals
  | [], _ => rfl
  | c :: rest, s => by
    unfold reportBrakes; (try split) <;> simp [reportBrakes_signals w rest]
@[simp] theorem reportBrakes_pins (w : Feedback) : ∀ (l : List Chan) (s : State), (reportBrakes w l s).pins = s.pins
  | [], _ => rfl
  | c :: rest, s => by
    unfold reportBrakes; (try split) <;> simp [reportBrakes_pins w rest]
@[simp] theorem reportBrakes_period (w : Feedback) : ∀ (l : List Chan) (s : State), (reportBrakes w l s).period = s.period
  | [], _ => rfl
  | c :: rest, s => by
    unfold reportBrakes; (try split) <;> simp [reportBrakes_period w rest]
@[simp] theorem reportBrakes_started (w : Feedback) : ∀ (l : List Chan) (s : State), (reportBrakes w l s).started = s.started
  | [], _ => rfl
  | c :: rest, s => by
    unfold reportBrakes; (try split) <;> simp [reportBrakes_started w rest]
@[simp] theorem reportBrakes_link (w : Feedback) : ∀ (l : List Chan) (s : State), (reportBrakes w l s).link = s.link
  | [], _ => rfl
  | c :: rest, s => by
    unfold reportBrakes; (try split) <;> simp [reportBrakes_link w rest]
@[simp] theorem reportBrakes_inputs (w : Feedback) : ∀ (l : List Chan) (s : State), (reportBrakes w l s).inputs = s.inputs
  | [], _ => rfl
  | c :: rest, s => by
    unfold reportBrakes; (try split) <;> simp [reportBrakes_inputs w rest]
@[simp] theorem reportBrakes_pending (w : Feedback) : ∀ (l : List Chan) (s : State), (reportBrakes w l s).pending = s.pending
  | [], _ => rfl
  | c :: rest, s => by
    unfold reportBrakes; (try split) <;> simp [reportBrakes_pending w rest]

/-! `rampStep` changes engines at most. -/
@[simp] theorem rampStep_phase (l : Chan) (s : State) : (rampStep l s).phase = s.phase := by
  unfold rampStep; (try dsimp only); (repeat' split) <;> simp
@[simp] theorem rampStep_safetyPort (l : Chan) (s : State) : (rampStep l s).safetyPort = s.safetyPort := by
  unfold rampStep; (try dsimp only); (repeat' split) <;> simp
@[simp] theorem rampStep_retained (l : Chan) (s : State) : (rampStep l s).retained = s.retained := by
  unfold rampStep; (try dsimp only); (repeat' split) <;> simp
@[simp] theorem rampStep_resetting (l : Chan) (s : State) : (rampStep l s).resetting = s.resetting := by
  unfold rampStep; (try dsimp only); (repeat' split) <;> simp
@[simp] theorem rampStep_consts (l : Chan) (s : State) : (rampStep l s).consts = s.consts := by
  unfold rampStep; (try dsimp only); (repeat' split) <;> simp
@[simp] theorem rampStep_signals (l : Chan) (s : State) : (rampStep l s).signals = s.signals := by
  unfold rampStep; (try dsimp only); (repeat' split) <;> simp
@[simp] theorem rampStep_pins (l : Chan) (s : State) : (rampStep l s).pins = s.pins := by
  unfold rampStep; (try dsimp only); (repeat' split) <;> simp
@[simp] theorem rampStep_period (l : Chan) (s : State) : (rampStep l s).period = s.period := by
  unfold rampStep; (try dsimp only); (repeat' split) <;> simp
@[simp] theorem rampStep_started (l : Chan) (s : State) : (rampStep l s).started = s.started := by
  unfold rampStep; (try dsimp only); (repeat' split) <;> simp
@[simp] theorem rampStep_auth (l : Chan) (s : State) : (rampStep l s).auth = s.auth := by
  unfold rampStep; (try dsimp only); (repeat' split) <;> simp
@[simp] theorem rampStep_queues (l : Chan) (s : State) : (rampStep l s).queues = s.queues := by
  unfold rampStep; (try dsimp only); (repeat' split) <;> simp
@[simp] theorem rampStep_envs (l : Chan) (s : State) : (rampStep l s).envs = s.envs := by
  unfold rampStep; (try dsimp only); (repeat' split) <;> simp
@[simp] theorem rampStep_link (l : Chan) (s : State) : (rampStep l s).link = s.link := by
  unfold rampStep; (try dsimp only); (repeat' split) <;> simp
@[simp] theorem rampStep_allot (l : Chan) (s : State) : (rampStep l s).allot = s.allot := by
  unfold rampStep; (try dsimp only); (repeat' split) <;> simp
@[simp] theorem rampStep_react (l : Chan) (s : State) : (rampStep l s).react = s.react := by
  unfold rampStep; (try dsimp only); (repeat' split) <;> simp
@[simp] theorem rampStep_inputs (l : Chan) (s : State) : (rampStep l s).inputs = s.inputs := by
  unfold rampStep; (try dsimp only); (repeat' split) <;> simp
@[simp] theorem rampStep_ports (l : Chan) (s : State) : (rampStep l s).ports = s.ports := by
  unfold rampStep; (try dsimp only); (repeat' split) <;> simp
@[simp] theorem rampStep_wire (l : Chan) (s : State) : (rampStep l s).wire = s.wire := by
  unfold rampStep; (try dsimp only); (repeat' split) <;> simp
@[simp] theorem rampStep_pending (l : Chan) (s : State) : (rampStep l s).pending = s.pending := by
  unfold rampStep; (try dsimp only); (repeat' split) <;> simp

/-! `timerStep` changes auth, queues, engines, envs, allot, react, retained, ports, wire at most. -/
@[simp] theorem timerStep_phase (l : Chan) (s : State) : (timerStep l s).phase = s.phase := by
  unfold timerStep; (try dsimp only); (repeat' split) <;> simp
@[simp] theorem timerStep_safetyPort (l : Chan) (s : State) : (timerStep l s).safetyPort = s.safetyPort := by
  unfold timerStep; (try dsimp only); (repeat' split) <;> simp
@[simp] theorem timerStep_resetting (l : Chan) (s : State) : (timerStep l s).resetting = s.resetting := by
  unfold timerStep; (try dsimp only); (repeat' split) <;> simp
@[simp] theorem timerStep_consts (l : Chan) (s : State) : (timerStep l s).consts = s.consts := by
  unfold timerStep; (try dsimp only); (repeat' split) <;> simp
@[simp] theorem timerStep_signals (l : Chan) (s : State) : (timerStep l s).signals = s.signals := by
  unfold timerStep; (try dsimp only); (repeat' split) <;> simp
@[simp] theorem timerStep_pins (l : Chan) (s : State) : (timerStep l s).pins = s.pins := by
  unfold timerStep; (try dsimp only); (repeat' split) <;> simp
@[simp] theorem timerStep_period (l : Chan) (s : State) : (timerStep l s).period = s.period := by
  unfold timerStep; (try dsimp only); (repeat' split) <;> simp
@[simp] theorem timerStep_started (l : Chan) (s : State) : (timerStep l s).started = s.started := by
  unfold timerStep; (try dsimp only); (repeat' split) <;> simp
@[simp] theorem timerStep_link (l : Chan) (s : State) : (timerStep l s).link = s.link := by
  unfold timerStep; (try dsimp only); (repeat' split) <;> simp
@[simp] theorem timerStep_inputs (l : Chan) (s : State) : (timerStep l s).inputs = s.inputs := by
  unfold timerStep; (try dsimp only); (repeat' split) <;> simp
@[simp] theorem timerStep_pending (l : Chan) (s : State) : (timerStep l s).pending = s.pending := by
  unfold timerStep; (try dsimp only); (repeat' split) <;> simp

/-! `lowWater` changes ports at most. -/
@[simp] theorem lowWater_phase (l : Chan) (n : Nat) (s : State) : (lowWater l n s).phase = s.phase := by
  unfold lowWater; (try dsimp only); (repeat' split) <;> simp
@[simp] theorem lowWater_safetyPort (l : Chan) (n : Nat) (s : State) : (lowWater l n s).safetyPort = s.safetyPort := by
  unfold lowWater; (try dsimp only); (repeat' split) <;> simp
@[simp] theorem lowWater_retained (l : Chan) (n : Nat) (s : State) : (lowWater l n s).retained = s.retained := by
  unfold lowWater; (try dsimp only); (repeat' split) <;> simp
@[simp] theorem lowWater_resetting (l : Chan) (n : Nat) (s : State) : (lowWater l n s).resetting = s.resetting := by
  unfold lowWater; (try dsimp only); (repeat' split) <;> simp
@[simp] theorem lowWater_consts (l : Chan) (n : Nat) (s : State) : (lowWater l n s).consts = s.consts := by
  unfold lowWater; (try dsimp only); (repeat' split) <;> simp
@[simp] theorem lowWater_signals (l : Chan) (n : Nat) (s : State) : (lowWater l n s).signals = s.signals := by
  unfold lowWater; (try dsimp only); (repeat' split) <;> simp
@[simp] theorem lowWater_pins (l : Chan) (n : Nat) (s : State) : (lowWater l n s).pins = s.pins := by
  unfold lowWater; (try dsimp only); (repeat' split) <;> simp
@[simp] theorem lowWater_period (l : Chan) (n : Nat) (s : State) : (lowWater l n s).period = s.period := by
  unfold lowWater; (try dsimp only); (repeat' split) <;> simp
@[simp] theorem lowWater_started (l : Chan) (n : Nat) (s : State) : (lowWater l n s).started = s.started := by
  unfold lowWater; (try dsimp only); (repeat' split) <;> simp
@[simp] theorem lowWater_auth (l : Chan) (n : Nat) (s : State) : (lowWater l n s).auth = s.auth := by
  unfold lowWater; (try dsimp only); (repeat' split) <;> simp
@[simp] theorem lowWater_queues (l : Chan) (n : Nat) (s : State) : (lowWater l n s).queues = s.queues := by
  unfold lowWater; (try dsimp only); (repeat' split) <;> simp
@[simp] theorem lowWater_engines (l : Chan) (n : Nat) (s : State) : (lowWater l n s).engines = s.engines := by
  unfold lowWater; (try dsimp only); (repeat' split) <;> simp
@[simp] theorem lowWater_envs (l : Chan) (n : Nat) (s : State) : (lowWater l n s).envs = s.envs := by
  unfold lowWater; (try dsimp only); (repeat' split) <;> simp
@[simp] theorem lowWater_link (l : Chan) (n : Nat) (s : State) : (lowWater l n s).link = s.link := by
  unfold lowWater; (try dsimp only); (repeat' split) <;> simp
@[simp] theorem lowWater_allot (l : Chan) (n : Nat) (s : State) : (lowWater l n s).allot = s.allot := by
  unfold lowWater; (try dsimp only); (repeat' split) <;> simp
@[simp] theorem lowWater_react (l : Chan) (n : Nat) (s : State) : (lowWater l n s).react = s.react := by
  unfold lowWater; (try dsimp only); (repeat' split) <;> simp
@[simp] theorem lowWater_inputs (l : Chan) (n : Nat) (s : State) : (lowWater l n s).inputs = s.inputs := by
  unfold lowWater; (try dsimp only); (repeat' split) <;> simp
@[simp] theorem lowWater_wire (l : Chan) (n : Nat) (s : State) : (lowWater l n s).wire = s.wire := by
  unfold lowWater; (try dsimp only); (repeat' split) <;> simp
@[simp] theorem lowWater_pending (l : Chan) (n : Nat) (s : State) : (lowWater l n s).pending = s.pending := by
  unfold lowWater; (try dsimp only); (repeat' split) <;> simp

/-! `closeHandover` changes auth, queues, engines, envs, allot, react, retained, ports, wire at most. -/
@[simp] theorem closeHandover_phase (l : Chan) (s : State) : (closeHandover l s).phase = s.phase := by
  unfold closeHandover; (try dsimp only); (repeat' split) <;> simp
@[simp] theorem closeHandover_safetyPort (l : Chan) (s : State) : (closeHandover l s).safetyPort = s.safetyPort := by
  unfold closeHandover; (try dsimp only); (repeat' split) <;> simp
@[simp] theorem closeHandover_resetting (l : Chan) (s : State) : (closeHandover l s).resetting = s.resetting := by
  unfold closeHandover; (try dsimp only); (repeat' split) <;> simp
@[simp] theorem closeHandover_consts (l : Chan) (s : State) : (closeHandover l s).consts = s.consts := by
  unfold closeHandover; (try dsimp only); (repeat' split) <;> simp
@[simp] theorem closeHandover_signals (l : Chan) (s : State) : (closeHandover l s).signals = s.signals := by
  unfold closeHandover; (try dsimp only); (repeat' split) <;> simp
@[simp] theorem closeHandover_pins (l : Chan) (s : State) : (closeHandover l s).pins = s.pins := by
  unfold closeHandover; (try dsimp only); (repeat' split) <;> simp
@[simp] theorem closeHandover_period (l : Chan) (s : State) : (closeHandover l s).period = s.period := by
  unfold closeHandover; (try dsimp only); (repeat' split) <;> simp
@[simp] theorem closeHandover_started (l : Chan) (s : State) : (closeHandover l s).started = s.started := by
  unfold closeHandover; (try dsimp only); (repeat' split) <;> simp
@[simp] theorem closeHandover_link (l : Chan) (s : State) : (closeHandover l s).link = s.link := by
  unfold closeHandover; (try dsimp only); (repeat' split) <;> simp
@[simp] theorem closeHandover_inputs (l : Chan) (s : State) : (closeHandover l s).inputs = s.inputs := by
  unfold closeHandover; (try dsimp only); (repeat' split) <;> simp
@[simp] theorem closeHandover_pending (l : Chan) (s : State) : (closeHandover l s).pending = s.pending := by
  unfold closeHandover; (try dsimp only); (repeat' split) <;> simp

/-! `takeEntry` changes auth, queues, engines, envs, allot, react, retained, ports, wire at most. -/
@[simp] theorem takeEntry_phase (l : Chan) (x : Entry) (s : State) : (takeEntry l x s).phase = s.phase := by
  unfold takeEntry; (try dsimp only); (repeat' split) <;> simp
@[simp] theorem takeEntry_safetyPort (l : Chan) (x : Entry) (s : State) : (takeEntry l x s).safetyPort = s.safetyPort := by
  unfold takeEntry; (try dsimp only); (repeat' split) <;> simp
@[simp] theorem takeEntry_resetting (l : Chan) (x : Entry) (s : State) : (takeEntry l x s).resetting = s.resetting := by
  unfold takeEntry; (try dsimp only); (repeat' split) <;> simp
@[simp] theorem takeEntry_consts (l : Chan) (x : Entry) (s : State) : (takeEntry l x s).consts = s.consts := by
  unfold takeEntry; (try dsimp only); (repeat' split) <;> simp
@[simp] theorem takeEntry_signals (l : Chan) (x : Entry) (s : State) : (takeEntry l x s).signals = s.signals := by
  unfold takeEntry; (try dsimp only); (repeat' split) <;> simp
@[simp] theorem takeEntry_pins (l : Chan) (x : Entry) (s : State) : (takeEntry l x s).pins = s.pins := by
  unfold takeEntry; (try dsimp only); (repeat' split) <;> simp
@[simp] theorem takeEntry_period (l : Chan) (x : Entry) (s : State) : (takeEntry l x s).period = s.period := by
  unfold takeEntry; (try dsimp only); (repeat' split) <;> simp
@[simp] theorem takeEntry_started (l : Chan) (x : Entry) (s : State) : (takeEntry l x s).started = s.started := by
  unfold takeEntry; (try dsimp only); (repeat' split) <;> simp
@[simp] theorem takeEntry_link (l : Chan) (x : Entry) (s : State) : (takeEntry l x s).link = s.link := by
  unfold takeEntry; (try dsimp only); (repeat' split) <;> simp
@[simp] theorem takeEntry_inputs (l : Chan) (x : Entry) (s : State) : (takeEntry l x s).inputs = s.inputs := by
  unfold takeEntry; (try dsimp only); (repeat' split) <;> simp
@[simp] theorem takeEntry_pending (l : Chan) (x : Entry) (s : State) : (takeEntry l x s).pending = s.pending := by
  unfold takeEntry; (try dsimp only); (repeat' split) <;> simp

/-! `countGap` changes auth, queues, engines, envs, allot, react, retained, ports, wire at most. -/
@[simp] theorem countGap_phase (l : Chan) (s : State) : (countGap l s).phase = s.phase := by
  unfold countGap; (try dsimp only); (repeat' split) <;> simp
@[simp] theorem countGap_safetyPort (l : Chan) (s : State) : (countGap l s).safetyPort = s.safetyPort := by
  unfold countGap; (try dsimp only); (repeat' split) <;> simp
@[simp] theorem countGap_resetting (l : Chan) (s : State) : (countGap l s).resetting = s.resetting := by
  unfold countGap; (try dsimp only); (repeat' split) <;> simp
@[simp] theorem countGap_consts (l : Chan) (s : State) : (countGap l s).consts = s.consts := by
  unfold countGap; (try dsimp only); (repeat' split) <;> simp
@[simp] theorem countGap_signals (l : Chan) (s : State) : (countGap l s).signals = s.signals := by
  unfold countGap; (try dsimp only); (repeat' split) <;> simp
@[simp] theorem countGap_pins (l : Chan) (s : State) : (countGap l s).pins = s.pins := by
  unfold countGap; (try dsimp only); (repeat' split) <;> simp
@[simp] theorem countGap_period (l : Chan) (s : State) : (countGap l s).period = s.period := by
  unfold countGap; (try dsimp only); (repeat' split) <;> simp
@[simp] theorem countGap_started (l : Chan) (s : State) : (countGap l s).started = s.started := by
  unfold countGap; (try dsimp only); (repeat' split) <;> simp
@[simp] theorem countGap_link (l : Chan) (s : State) : (countGap l s).link = s.link := by
  unfold countGap; (try dsimp only); (repeat' split) <;> simp
@[simp] theorem countGap_inputs (l : Chan) (s : State) : (countGap l s).inputs = s.inputs := by
  unfold countGap; (try dsimp only); (repeat' split) <;> simp
@[simp] theorem countGap_pending (l : Chan) (s : State) : (countGap l s).pending = s.pending := by
  unfold countGap; (try dsimp only); (repeat' split) <;> simp

/-! `queueStep` changes auth, queues, engines, envs, allot, react, retained, ports, wire at most. -/
@[simp] theorem queueStep_phase (l : Chan) (s : State) : (queueStep l s).phase = s.phase := by
  unfold queueStep; (try dsimp only); (repeat' split) <;> simp
@[simp] theorem queueStep_safetyPort (l : Chan) (s : State) : (queueStep l s).safetyPort = s.safetyPort := by
  unfold queueStep; (try dsimp only); (repeat' split) <;> simp
@[simp] theorem queueStep_resetting (l : Chan) (s : State) : (queueStep l s).resetting = s.resetting := by
  unfold queueStep; (try dsimp only); (repeat' split) <;> simp
@[simp] theorem queueStep_consts (l : Chan) (s : State) : (queueStep l s).consts = s.consts := by
  unfold queueStep; (try dsimp only); (repeat' split) <;> simp
@[simp] theorem queueStep_signals (l : Chan) (s : State) : (queueStep l s).signals = s.signals := by
  unfold queueStep; (try dsimp only); (repeat' split) <;> simp
@[simp] theorem queueStep_pins (l : Chan) (s : State) : (queueStep l s).pins = s.pins := by
  unfold queueStep; (try dsimp only); (repeat' split) <;> simp
@[simp] theorem queueStep_period (l : Chan) (s : State) : (queueStep l s).period = s.period := by
  unfold queueStep; (try dsimp only); (repeat' split) <;> simp
@[simp] theorem queueStep_started (l : Chan) (s : State) : (queueStep l s).started = s.started := by
  unfold queueStep; (try dsimp only); (repeat' split) <;> simp
@[simp] theorem queueStep_link (l : Chan) (s : State) : (queueStep l s).link = s.link := by
  unfold queueStep; (try dsimp only); (repeat' split) <;> simp
@[simp] theorem queueStep_inputs (l : Chan) (s : State) : (queueStep l s).inputs = s.inputs := by
  unfold queueStep; (try dsimp only); (repeat' split) <;> simp
@[simp] theorem queueStep_pending (l : Chan) (s : State) : (queueStep l s).pending = s.pending := by
  unfold queueStep; (try dsimp only); (repeat' split) <;> simp

/-! `substitute` changes engines, wire at most. -/
@[simp] theorem substitute_phase (c : Chan) (s : State) : (substitute c s).phase = s.phase := by
  unfold substitute; (try dsimp only); (repeat' split) <;> simp
@[simp] theorem substitute_safetyPort (c : Chan) (s : State) : (substitute c s).safetyPort = s.safetyPort := by
  unfold substitute; (try dsimp only); (repeat' split) <;> simp
@[simp] theorem substitute_retained (c : Chan) (s : State) : (substitute c s).retained = s.retained := by
  unfold substitute; (try dsimp only); (repeat' split) <;> simp
@[simp] theorem substitute_resetting (c : Chan) (s : State) : (substitute c s).resetting = s.resetting := by
  unfold substitute; (try dsimp only); (repeat' split) <;> simp
@[simp] theorem substitute_consts (c : Chan) (s : State) : (substitute c s).consts = s.consts := by
  unfold substitute; (try dsimp only); (repeat' split) <;> simp
@[simp] theorem substitute_signals (c : Chan) (s : State) : (substitute c s).signals = s.signals := by
  unfold substitute; (try dsimp only); (repeat' split) <;> simp
@[simp] theorem substitute_pins (c : Chan) (s : State) : (substitute c s).pins = s.pins := by
  unfold substitute; (try dsimp only); (repeat' split) <;> simp
@[simp] theorem substitute_period (c : Chan) (s : State) : (substitute c s).period = s.period := by
  unfold substitute; (try dsimp only); (repeat' split) <;> simp
@[simp] theorem substitute_started (c : Chan) (s : State) : (substitute c s).started = s.started := by
  unfold substitute; (try dsimp only); (repeat' split) <;> simp
@[simp] theorem substitute_auth (c : Chan) (s : State) : (substitute c s).auth = s.auth := by
  unfold substitute; (try dsimp only); (repeat' split) <;> simp
@[simp] theorem substitute_queues (c : Chan) (s : State) : (substitute c s).queues = s.queues := by
  unfold substitute; (try dsimp only); (repeat' split) <;> simp
@[simp] theorem substitute_envs (c : Chan) (s : State) : (substitute c s).envs = s.envs := by
  unfold substitute; (try dsimp only); (repeat' split) <;> simp
@[simp] theorem substitute_link (c : Chan) (s : State) : (substitute c s).link = s.link := by
  unfold substitute; (try dsimp only); (repeat' split) <;> simp
@[simp] theorem substitute_allot (c : Chan) (s : State) : (substitute c s).allot = s.allot := by
  unfold substitute; (try dsimp only); (repeat' split) <;> simp
@[simp] theorem substitute_react (c : Chan) (s : State) : (substitute c s).react = s.react := by
  unfold substitute; (try dsimp only); (repeat' split) <;> simp
@[simp] theorem substitute_inputs (c : Chan) (s : State) : (substitute c s).inputs = s.inputs := by
  unfold substitute; (try dsimp only); (repeat' split) <;> simp
@[simp] theorem substitute_ports (c : Chan) (s : State) : (substitute c s).ports = s.ports := by
  unfold substitute; (try dsimp only); (repeat' split) <;> simp
@[simp] theorem substitute_pending (c : Chan) (s : State) : (substitute c s).pending = s.pending := by
  unfold substitute; (try dsimp only); (repeat' split) <;> simp

/-! `substitutes` changes engines, wire at most. -/
@[simp] theorem substitutes_phase  : ∀ (l : List Chan) (s : State), (substitutes l s).phase = s.phase
  | [], _ => rfl
  | c :: rest, s => by
    unfold substitutes; (try split) <;> simp [substitutes_phase rest]
@[simp] theorem substitutes_safetyPort  : ∀ (l : List Chan) (s : State), (substitutes l s).safetyPort = s.safetyPort
  | [], _ => rfl
  | c :: rest, s => by
    unfold substitutes; (try split) <;> simp [substitutes_safetyPort rest]
@[simp] theorem substitutes_retained  : ∀ (l : List Chan) (s : State), (substitutes l s).retained = s.retained
  | [], _ => rfl
  | c :: rest, s => by
    unfold substitutes; (try split) <;> simp [substitutes_retained rest]
@[simp] theorem substitutes_resetting  : ∀ (l : List Chan) (s : State), (substitutes l s).resetting = s.resetting
  | [], _ => rfl
  | c :: rest, s => by
    unfold substitutes; (try split) <;> simp [substitutes_resetting rest]
@[simp] theorem substitutes_consts  : ∀ (l : List Chan) (s : State), (substitutes l s).consts = s.consts
  | [], _ => rfl
  | c :: rest, s => by
    unfold substitutes; (try split) <;> simp [substitutes_consts rest]
@[simp] theorem substitutes_signals  : ∀ (l : List Chan) (s : State), (substitutes l s).signals = s.signals
  | [], _ => rfl
  | c :: rest, s => by
    unfold substitutes; (try split) <;> simp [substitutes_signals rest]
@[simp] theorem substitutes_pins  : ∀ (l : List Chan) (s : State), (substitutes l s).pins = s.pins
  | [], _ => rfl
  | c :: rest, s => by
    unfold substitutes; (try split) <;> simp [substitutes_pins rest]
@[simp] theorem substitutes_period  : ∀ (l : List Chan) (s : State), (substitutes l s).period = s.period
  | [], _ => rfl
  | c :: rest, s => by
    unfold substitutes; (try split) <;> simp [substitutes_period rest]
@[simp] theorem substitutes_started  : ∀ (l : List Chan) (s : State), (substitutes l s).started = s.started
  | [], _ => rfl
  | c :: rest, s => by
    unfold substitutes; (try split) <;> simp [substitutes_started rest]
@[simp] theorem substitutes_auth  : ∀ (l : List Chan) (s : State), (substitutes l s).auth = s.auth
  | [], _ => rfl
  | c :: rest, s => by
    unfold substitutes; (try split) <;> simp [substitutes_auth rest]
@[simp] theorem substitutes_queues  : ∀ (l : List Chan) (s : State), (substitutes l s).queues = s.queues
  | [], _ => rfl
  | c :: rest, s => by
    unfold substitutes; (try split) <;> simp [substitutes_queues rest]
@[simp] theorem substitutes_envs  : ∀ (l : List Chan) (s : State), (substitutes l s).envs = s.envs
  | [], _ => rfl
  | c :: rest, s => by
    unfold substitutes; (try split) <;> simp [substitutes_envs rest]
@[simp] theorem substitutes_link  : ∀ (l : List Chan) (s : State), (substitutes l s).link = s.link
  | [], _ => rfl
  | c :: rest, s => by
    unfold substitutes; (try split) <;> simp [substitutes_link rest]
@[simp] theorem substitutes_allot  : ∀ (l : List Chan) (s : State), (substitutes l s).allot = s.allot
  | [], _ => rfl
  | c :: rest, s => by
    unfold substitutes; (try split) <;> simp [substitutes_allot rest]
@[simp] theorem substitutes_react  : ∀ (l : List Chan) (s : State), (substitutes l s).react = s.react
  | [], _ => rfl
  | c :: rest, s => by
    unfold substitutes; (try split) <;> simp [substitutes_react rest]
@[simp] theorem substitutes_inputs  : ∀ (l : List Chan) (s : State), (substitutes l s).inputs = s.inputs
  | [], _ => rfl
  | c :: rest, s => by
    unfold substitutes; (try split) <;> simp [substitutes_inputs rest]
@[simp] theorem substitutes_ports  : ∀ (l : List Chan) (s : State), (substitutes l s).ports = s.ports
  | [], _ => rfl
  | c :: rest, s => by
    unfold substitutes; (try split) <;> simp [substitutes_ports rest]
@[simp] theorem substitutes_pending  : ∀ (l : List Chan) (s : State), (substitutes l s).pending = s.pending
  | [], _ => rfl
  | c :: rest, s => by
    unfold substitutes; (try split) <;> simp [substitutes_pending rest]

/-! `laterSteps` changes auth, queues, engines, envs, allot, react, retained, ports, wire at most. -/
@[simp] theorem laterSteps_phase (l : Chan) (s : State) : (laterSteps l s).phase = s.phase := by
  unfold laterSteps; (try dsimp only); (repeat' split) <;> simp
@[simp] theorem laterSteps_safetyPort (l : Chan) (s : State) : (laterSteps l s).safetyPort = s.safetyPort := by
  unfold laterSteps; (try dsimp only); (repeat' split) <;> simp
@[simp] theorem laterSteps_resetting (l : Chan) (s : State) : (laterSteps l s).resetting = s.resetting := by
  unfold laterSteps; (try dsimp only); (repeat' split) <;> simp
@[simp] theorem laterSteps_consts (l : Chan) (s : State) : (laterSteps l s).consts = s.consts := by
  unfold laterSteps; (try dsimp only); (repeat' split) <;> simp
@[simp] theorem laterSteps_signals (l : Chan) (s : State) : (laterSteps l s).signals = s.signals := by
  unfold laterSteps; (try dsimp only); (repeat' split) <;> simp
@[simp] theorem laterSteps_pins (l : Chan) (s : State) : (laterSteps l s).pins = s.pins := by
  unfold laterSteps; (try dsimp only); (repeat' split) <;> simp
@[simp] theorem laterSteps_period (l : Chan) (s : State) : (laterSteps l s).period = s.period := by
  unfold laterSteps; (try dsimp only); (repeat' split) <;> simp
@[simp] theorem laterSteps_started (l : Chan) (s : State) : (laterSteps l s).started = s.started := by
  unfold laterSteps; (try dsimp only); (repeat' split) <;> simp
@[simp] theorem laterSteps_link (l : Chan) (s : State) : (laterSteps l s).link = s.link := by
  unfold laterSteps; (try dsimp only); (repeat' split) <;> simp
@[simp] theorem laterSteps_inputs (l : Chan) (s : State) : (laterSteps l s).inputs = s.inputs := by
  unfold laterSteps; (try dsimp only); (repeat' split) <;> simp
@[simp] theorem laterSteps_pending (l : Chan) (s : State) : (laterSteps l s).pending = s.pending := by
  unfold laterSteps; (try dsimp only); (repeat' split) <;> simp

/-! `engineStart` changes auth, queues, engines, envs, allot, react, retained, ports, wire at most. -/
@[simp] theorem engineStart_phase (b : Bool) (l : Chan) (s : State) : (engineStart b l s).phase = s.phase := by
  unfold engineStart; (try dsimp only); (repeat' split) <;> simp
@[simp] theorem engineStart_safetyPort (b : Bool) (l : Chan) (s : State) : (engineStart b l s).safetyPort = s.safetyPort := by
  unfold engineStart; (try dsimp only); (repeat' split) <;> simp
@[simp] theorem engineStart_resetting (b : Bool) (l : Chan) (s : State) : (engineStart b l s).resetting = s.resetting := by
  unfold engineStart; (try dsimp only); (repeat' split) <;> simp
@[simp] theorem engineStart_consts (b : Bool) (l : Chan) (s : State) : (engineStart b l s).consts = s.consts := by
  unfold engineStart; (try dsimp only); (repeat' split) <;> simp
@[simp] theorem engineStart_signals (b : Bool) (l : Chan) (s : State) : (engineStart b l s).signals = s.signals := by
  unfold engineStart; (try dsimp only); (repeat' split) <;> simp
@[simp] theorem engineStart_pins (b : Bool) (l : Chan) (s : State) : (engineStart b l s).pins = s.pins := by
  unfold engineStart; (try dsimp only); (repeat' split) <;> simp
@[simp] theorem engineStart_period (b : Bool) (l : Chan) (s : State) : (engineStart b l s).period = s.period := by
  unfold engineStart; (try dsimp only); (repeat' split) <;> simp
@[simp] theorem engineStart_started (b : Bool) (l : Chan) (s : State) : (engineStart b l s).started = s.started := by
  unfold engineStart; (try dsimp only); (repeat' split) <;> simp
@[simp] theorem engineStart_link (b : Bool) (l : Chan) (s : State) : (engineStart b l s).link = s.link := by
  unfold engineStart; (try dsimp only); (repeat' split) <;> simp
@[simp] theorem engineStart_inputs (b : Bool) (l : Chan) (s : State) : (engineStart b l s).inputs = s.inputs := by
  unfold engineStart; (try dsimp only); (repeat' split) <;> simp
@[simp] theorem engineStart_pending (b : Bool) (l : Chan) (s : State) : (engineStart b l s).pending = s.pending := by
  unfold engineStart; (try dsimp only); (repeat' split) <;> simp

/-! `lockExpiryOf` changes auth, queues, engines, envs, allot, react, retained, ports, wire at most. -/
@[simp] theorem lockExpiryOf_phase (l : Chan) (s : State) : (lockExpiryOf l s).phase = s.phase := by
  unfold lockExpiryOf; (try dsimp only); (repeat' split) <;> simp
@[simp] theorem lockExpiryOf_safetyPort (l : Chan) (s : State) : (lockExpiryOf l s).safetyPort = s.safetyPort := by
  unfold lockExpiryOf; (try dsimp only); (repeat' split) <;> simp
@[simp] theorem lockExpiryOf_resetting (l : Chan) (s : State) : (lockExpiryOf l s).resetting = s.resetting := by
  unfold lockExpiryOf; (try dsimp only); (repeat' split) <;> simp
@[simp] theorem lockExpiryOf_consts (l : Chan) (s : State) : (lockExpiryOf l s).consts = s.consts := by
  unfold lockExpiryOf; (try dsimp only); (repeat' split) <;> simp
@[simp] theorem lockExpiryOf_signals (l : Chan) (s : State) : (lockExpiryOf l s).signals = s.signals := by
  unfold lockExpiryOf; (try dsimp only); (repeat' split) <;> simp
@[simp] theorem lockExpiryOf_pins (l : Chan) (s : State) : (lockExpiryOf l s).pins = s.pins := by
  unfold lockExpiryOf; (try dsimp only); (repeat' split) <;> simp
@[simp] theorem lockExpiryOf_period (l : Chan) (s : State) : (lockExpiryOf l s).period = s.period := by
  unfold lockExpiryOf; (try dsimp only); (repeat' split) <;> simp
@[simp] theorem lockExpiryOf_started (l : Chan) (s : State) : (lockExpiryOf l s).started = s.started := by
  unfold lockExpiryOf; (try dsimp only); (repeat' split) <;> simp
@[simp] theorem lockExpiryOf_link (l : Chan) (s : State) : (lockExpiryOf l s).link = s.link := by
  unfold lockExpiryOf; (try dsimp only); (repeat' split) <;> simp
@[simp] theorem lockExpiryOf_inputs (l : Chan) (s : State) : (lockExpiryOf l s).inputs = s.inputs := by
  unfold lockExpiryOf; (try dsimp only); (repeat' split) <;> simp
@[simp] theorem lockExpiryOf_pending (l : Chan) (s : State) : (lockExpiryOf l s).pending = s.pending := by
  unfold lockExpiryOf; (try dsimp only); (repeat' split) <;> simp

/-! `takeHeld` changes auth, queues, engines, envs, allot, react, retained, ports, wire at most. -/
@[simp] theorem takeHeld_phase (l : Chan) (s : State) : (takeHeld l s).phase = s.phase := by
  unfold takeHeld; (try dsimp only); (repeat' split) <;> simp
@[simp] theorem takeHeld_safetyPort (l : Chan) (s : State) : (takeHeld l s).safetyPort = s.safetyPort := by
  unfold takeHeld; (try dsimp only); (repeat' split) <;> simp
@[simp] theorem takeHeld_resetting (l : Chan) (s : State) : (takeHeld l s).resetting = s.resetting := by
  unfold takeHeld; (try dsimp only); (repeat' split) <;> simp
@[simp] theorem takeHeld_consts (l : Chan) (s : State) : (takeHeld l s).consts = s.consts := by
  unfold takeHeld; (try dsimp only); (repeat' split) <;> simp
@[simp] theorem takeHeld_signals (l : Chan) (s : State) : (takeHeld l s).signals = s.signals := by
  unfold takeHeld; (try dsimp only); (repeat' split) <;> simp
@[simp] theorem takeHeld_pins (l : Chan) (s : State) : (takeHeld l s).pins = s.pins := by
  unfold takeHeld; (try dsimp only); (repeat' split) <;> simp
@[simp] theorem takeHeld_period (l : Chan) (s : State) : (takeHeld l s).period = s.period := by
  unfold takeHeld; (try dsimp only); (repeat' split) <;> simp
@[simp] theorem takeHeld_started (l : Chan) (s : State) : (takeHeld l s).started = s.started := by
  unfold takeHeld; (try dsimp only); (repeat' split) <;> simp
@[simp] theorem takeHeld_link (l : Chan) (s : State) : (takeHeld l s).link = s.link := by
  unfold takeHeld; (try dsimp only); (repeat' split) <;> simp
@[simp] theorem takeHeld_inputs (l : Chan) (s : State) : (takeHeld l s).inputs = s.inputs := by
  unfold takeHeld; (try dsimp only); (repeat' split) <;> simp
@[simp] theorem takeHeld_pending (l : Chan) (s : State) : (takeHeld l s).pending = s.pending := by
  unfold takeHeld; (try dsimp only); (repeat' split) <;> simp

/-! `handoverExpiryOf` changes auth, queues, engines, envs, allot, react, retained, ports, wire at most. -/
@[simp] theorem handoverExpiryOf_phase (l : Chan) (s : State) : (handoverExpiryOf l s).phase = s.phase := by
  unfold handoverExpiryOf; (try dsimp only); (repeat' split) <;> simp
@[simp] theorem handoverExpiryOf_safetyPort (l : Chan) (s : State) : (handoverExpiryOf l s).safetyPort = s.safetyPort := by
  unfold handoverExpiryOf; (try dsimp only); (repeat' split) <;> simp
@[simp] theorem handoverExpiryOf_resetting (l : Chan) (s : State) : (handoverExpiryOf l s).resetting = s.resetting := by
  unfold handoverExpiryOf; (try dsimp only); (repeat' split) <;> simp
@[simp] theorem handoverExpiryOf_consts (l : Chan) (s : State) : (handoverExpiryOf l s).consts = s.consts := by
  unfold handoverExpiryOf; (try dsimp only); (repeat' split) <;> simp
@[simp] theorem handoverExpiryOf_signals (l : Chan) (s : State) : (handoverExpiryOf l s).signals = s.signals := by
  unfold handoverExpiryOf; (try dsimp only); (repeat' split) <;> simp
@[simp] theorem handoverExpiryOf_pins (l : Chan) (s : State) : (handoverExpiryOf l s).pins = s.pins := by
  unfold handoverExpiryOf; (try dsimp only); (repeat' split) <;> simp
@[simp] theorem handoverExpiryOf_period (l : Chan) (s : State) : (handoverExpiryOf l s).period = s.period := by
  unfold handoverExpiryOf; (try dsimp only); (repeat' split) <;> simp
@[simp] theorem handoverExpiryOf_started (l : Chan) (s : State) : (handoverExpiryOf l s).started = s.started := by
  unfold handoverExpiryOf; (try dsimp only); (repeat' split) <;> simp
@[simp] theorem handoverExpiryOf_link (l : Chan) (s : State) : (handoverExpiryOf l s).link = s.link := by
  unfold handoverExpiryOf; (try dsimp only); (repeat' split) <;> simp
@[simp] theorem handoverExpiryOf_inputs (l : Chan) (s : State) : (handoverExpiryOf l s).inputs = s.inputs := by
  unfold handoverExpiryOf; (try dsimp only); (repeat' split) <;> simp
@[simp] theorem handoverExpiryOf_pending (l : Chan) (s : State) : (handoverExpiryOf l s).pending = s.pending := by
  unfold handoverExpiryOf; (try dsimp only); (repeat' split) <;> simp

/-! `handoverAtStart` changes auth, queues, engines, envs, allot, react, retained, ports, wire at most. -/
@[simp] theorem handoverAtStart_phase (l : Chan) (s : State) : (handoverAtStart l s).phase = s.phase := by
  unfold handoverAtStart; (try dsimp only); (repeat' split) <;> simp
@[simp] theorem handoverAtStart_safetyPort (l : Chan) (s : State) : (handoverAtStart l s).safetyPort = s.safetyPort := by
  unfold handoverAtStart; (try dsimp only); (repeat' split) <;> simp
@[simp] theorem handoverAtStart_resetting (l : Chan) (s : State) : (handoverAtStart l s).resetting = s.resetting := by
  unfold handoverAtStart; (try dsimp only); (repeat' split) <;> simp
@[simp] theorem handoverAtStart_consts (l : Chan) (s : State) : (handoverAtStart l s).consts = s.consts := by
  unfold handoverAtStart; (try dsimp only); (repeat' split) <;> simp
@[simp] theorem handoverAtStart_signals (l : Chan) (s : State) : (handoverAtStart l s).signals = s.signals := by
  unfold handoverAtStart; (try dsimp only); (repeat' split) <;> simp
@[simp] theorem handoverAtStart_pins (l : Chan) (s : State) : (handoverAtStart l s).pins = s.pins := by
  unfold handoverAtStart; (try dsimp only); (repeat' split) <;> simp
@[simp] theorem handoverAtStart_period (l : Chan) (s : State) : (handoverAtStart l s).period = s.period := by
  unfold handoverAtStart; (try dsimp only); (repeat' split) <;> simp
@[simp] theorem handoverAtStart_started (l : Chan) (s : State) : (handoverAtStart l s).started = s.started := by
  unfold handoverAtStart; (try dsimp only); (repeat' split) <;> simp
@[simp] theorem handoverAtStart_link (l : Chan) (s : State) : (handoverAtStart l s).link = s.link := by
  unfold handoverAtStart; (try dsimp only); (repeat' split) <;> simp
@[simp] theorem handoverAtStart_inputs (l : Chan) (s : State) : (handoverAtStart l s).inputs = s.inputs := by
  unfold handoverAtStart; (try dsimp only); (repeat' split) <;> simp
@[simp] theorem handoverAtStart_pending (l : Chan) (s : State) : (handoverAtStart l s).pending = s.pending := by
  unfold handoverAtStart; (try dsimp only); (repeat' split) <;> simp

/-! `proposalExpiryOf` changes envs, ports at most. -/
@[simp] theorem proposalExpiryOf_phase (l : Chan) (s : State) : (proposalExpiryOf l s).phase = s.phase := by
  unfold proposalExpiryOf; (try dsimp only); (repeat' split) <;> simp
@[simp] theorem proposalExpiryOf_safetyPort (l : Chan) (s : State) : (proposalExpiryOf l s).safetyPort = s.safetyPort := by
  unfold proposalExpiryOf; (try dsimp only); (repeat' split) <;> simp
@[simp] theorem proposalExpiryOf_retained (l : Chan) (s : State) : (proposalExpiryOf l s).retained = s.retained := by
  unfold proposalExpiryOf; (try dsimp only); (repeat' split) <;> simp
@[simp] theorem proposalExpiryOf_resetting (l : Chan) (s : State) : (proposalExpiryOf l s).resetting = s.resetting := by
  unfold proposalExpiryOf; (try dsimp only); (repeat' split) <;> simp
@[simp] theorem proposalExpiryOf_consts (l : Chan) (s : State) : (proposalExpiryOf l s).consts = s.consts := by
  unfold proposalExpiryOf; (try dsimp only); (repeat' split) <;> simp
@[simp] theorem proposalExpiryOf_signals (l : Chan) (s : State) : (proposalExpiryOf l s).signals = s.signals := by
  unfold proposalExpiryOf; (try dsimp only); (repeat' split) <;> simp
@[simp] theorem proposalExpiryOf_pins (l : Chan) (s : State) : (proposalExpiryOf l s).pins = s.pins := by
  unfold proposalExpiryOf; (try dsimp only); (repeat' split) <;> simp
@[simp] theorem proposalExpiryOf_period (l : Chan) (s : State) : (proposalExpiryOf l s).period = s.period := by
  unfold proposalExpiryOf; (try dsimp only); (repeat' split) <;> simp
@[simp] theorem proposalExpiryOf_started (l : Chan) (s : State) : (proposalExpiryOf l s).started = s.started := by
  unfold proposalExpiryOf; (try dsimp only); (repeat' split) <;> simp
@[simp] theorem proposalExpiryOf_auth (l : Chan) (s : State) : (proposalExpiryOf l s).auth = s.auth := by
  unfold proposalExpiryOf; (try dsimp only); (repeat' split) <;> simp
@[simp] theorem proposalExpiryOf_queues (l : Chan) (s : State) : (proposalExpiryOf l s).queues = s.queues := by
  unfold proposalExpiryOf; (try dsimp only); (repeat' split) <;> simp
@[simp] theorem proposalExpiryOf_engines (l : Chan) (s : State) : (proposalExpiryOf l s).engines = s.engines := by
  unfold proposalExpiryOf; (try dsimp only); (repeat' split) <;> simp
@[simp] theorem proposalExpiryOf_link (l : Chan) (s : State) : (proposalExpiryOf l s).link = s.link := by
  unfold proposalExpiryOf; (try dsimp only); (repeat' split) <;> simp
@[simp] theorem proposalExpiryOf_allot (l : Chan) (s : State) : (proposalExpiryOf l s).allot = s.allot := by
  unfold proposalExpiryOf; (try dsimp only); (repeat' split) <;> simp
@[simp] theorem proposalExpiryOf_react (l : Chan) (s : State) : (proposalExpiryOf l s).react = s.react := by
  unfold proposalExpiryOf; (try dsimp only); (repeat' split) <;> simp
@[simp] theorem proposalExpiryOf_inputs (l : Chan) (s : State) : (proposalExpiryOf l s).inputs = s.inputs := by
  unfold proposalExpiryOf; (try dsimp only); (repeat' split) <;> simp
@[simp] theorem proposalExpiryOf_wire (l : Chan) (s : State) : (proposalExpiryOf l s).wire = s.wire := by
  unfold proposalExpiryOf; (try dsimp only); (repeat' split) <;> simp
@[simp] theorem proposalExpiryOf_pending (l : Chan) (s : State) : (proposalExpiryOf l s).pending = s.pending := by
  unfold proposalExpiryOf; (try dsimp only); (repeat' split) <;> simp

/-! `linkTimerExpiry` changes auth, queues, engines, envs, allot, react, retained, ports, wire, link at most. -/
@[simp] theorem linkTimerExpiry_phase (s : State) : (linkTimerExpiry s).phase = s.phase := by
  unfold linkTimerExpiry; (try dsimp only); (repeat' split) <;> simp
@[simp] theorem linkTimerExpiry_safetyPort (s : State) : (linkTimerExpiry s).safetyPort = s.safetyPort := by
  unfold linkTimerExpiry; (try dsimp only); (repeat' split) <;> simp
@[simp] theorem linkTimerExpiry_resetting (s : State) : (linkTimerExpiry s).resetting = s.resetting := by
  unfold linkTimerExpiry; (try dsimp only); (repeat' split) <;> simp
@[simp] theorem linkTimerExpiry_consts (s : State) : (linkTimerExpiry s).consts = s.consts := by
  unfold linkTimerExpiry; (try dsimp only); (repeat' split) <;> simp
@[simp] theorem linkTimerExpiry_signals (s : State) : (linkTimerExpiry s).signals = s.signals := by
  unfold linkTimerExpiry; (try dsimp only); (repeat' split) <;> simp
@[simp] theorem linkTimerExpiry_pins (s : State) : (linkTimerExpiry s).pins = s.pins := by
  unfold linkTimerExpiry; (try dsimp only); (repeat' split) <;> simp
@[simp] theorem linkTimerExpiry_period (s : State) : (linkTimerExpiry s).period = s.period := by
  unfold linkTimerExpiry; (try dsimp only); (repeat' split) <;> simp
@[simp] theorem linkTimerExpiry_started (s : State) : (linkTimerExpiry s).started = s.started := by
  unfold linkTimerExpiry; (try dsimp only); (repeat' split) <;> simp
@[simp] theorem linkTimerExpiry_inputs (s : State) : (linkTimerExpiry s).inputs = s.inputs := by
  unfold linkTimerExpiry; (try dsimp only); (repeat' split) <;> simp
@[simp] theorem linkTimerExpiry_pending (s : State) : (linkTimerExpiry s).pending = s.pending := by
  unfold linkTimerExpiry; (try dsimp only); (repeat' split) <;> simp

/-! `runWork` changes auth, queues, engines, envs, allot, react, retained, ports, wire, link, inputs at most. -/
@[simp] theorem runWork_phase (b : Bool) (w : Work) (s : State) : (runWork b w s).phase = s.phase := by
  unfold runWork; (try dsimp only); (repeat' split) <;> simp
@[simp] theorem runWork_safetyPort (b : Bool) (w : Work) (s : State) : (runWork b w s).safetyPort = s.safetyPort := by
  unfold runWork; (try dsimp only); (repeat' split) <;> simp
@[simp] theorem runWork_resetting (b : Bool) (w : Work) (s : State) : (runWork b w s).resetting = s.resetting := by
  unfold runWork; (try dsimp only); (repeat' split) <;> simp
@[simp] theorem runWork_consts (b : Bool) (w : Work) (s : State) : (runWork b w s).consts = s.consts := by
  unfold runWork; (try dsimp only); (repeat' split) <;> simp
@[simp] theorem runWork_signals (b : Bool) (w : Work) (s : State) : (runWork b w s).signals = s.signals := by
  unfold runWork; (try dsimp only); (repeat' split) <;> simp
@[simp] theorem runWork_pins (b : Bool) (w : Work) (s : State) : (runWork b w s).pins = s.pins := by
  unfold runWork; (try dsimp only); (repeat' split) <;> simp
@[simp] theorem runWork_period (b : Bool) (w : Work) (s : State) : (runWork b w s).period = s.period := by
  unfold runWork; (try dsimp only); (repeat' split) <;> simp
@[simp] theorem runWork_started (b : Bool) (w : Work) (s : State) : (runWork b w s).started = s.started := by
  unfold runWork; (try dsimp only); (repeat' split) <;> simp
@[simp] theorem runWork_pending (b : Bool) (w : Work) (s : State) : (runWork b w s).pending = s.pending := by
  unfold runWork; (try dsimp only); (repeat' split) <;> simp

/-! `takeHelds` changes auth, queues, engines, envs, allot, react, retained, ports, wire at most. -/
@[simp] theorem takeHelds_phase  : ∀ (l : List Chan) (s : State), (takeHelds l s).phase = s.phase
  | [], _ => rfl
  | c :: rest, s => by
    unfold takeHelds; (try split) <;> simp [takeHelds_phase rest]
@[simp] theorem takeHelds_safetyPort  : ∀ (l : List Chan) (s : State), (takeHelds l s).safetyPort = s.safetyPort
  | [], _ => rfl
  | c :: rest, s => by
    unfold takeHelds; (try split) <;> simp [takeHelds_safetyPort rest]
@[simp] theorem takeHelds_resetting  : ∀ (l : List Chan) (s : State), (takeHelds l s).resetting = s.resetting
  | [], _ => rfl
  | c :: rest, s => by
    unfold takeHelds; (try split) <;> simp [takeHelds_resetting rest]
@[simp] theorem takeHelds_consts  : ∀ (l : List Chan) (s : State), (takeHelds l s).consts = s.consts
  | [], _ => rfl
  | c :: rest, s => by
    unfold takeHelds; (try split) <;> simp [takeHelds_consts rest]
@[simp] theorem takeHelds_signals  : ∀ (l : List Chan) (s : State), (takeHelds l s).signals = s.signals
  | [], _ => rfl
  | c :: rest, s => by
    unfold takeHelds; (try split) <;> simp [takeHelds_signals rest]
@[simp] theorem takeHelds_pins  : ∀ (l : List Chan) (s : State), (takeHelds l s).pins = s.pins
  | [], _ => rfl
  | c :: rest, s => by
    unfold takeHelds; (try split) <;> simp [takeHelds_pins rest]
@[simp] theorem takeHelds_period  : ∀ (l : List Chan) (s : State), (takeHelds l s).period = s.period
  | [], _ => rfl
  | c :: rest, s => by
    unfold takeHelds; (try split) <;> simp [takeHelds_period rest]
@[simp] theorem takeHelds_started  : ∀ (l : List Chan) (s : State), (takeHelds l s).started = s.started
  | [], _ => rfl
  | c :: rest, s => by
    unfold takeHelds; (try split) <;> simp [takeHelds_started rest]
@[simp] theorem takeHelds_link  : ∀ (l : List Chan) (s : State), (takeHelds l s).link = s.link
  | [], _ => rfl
  | c :: rest, s => by
    unfold takeHelds; (try split) <;> simp [takeHelds_link rest]
@[simp] theorem takeHelds_inputs  : ∀ (l : List Chan) (s : State), (takeHelds l s).inputs = s.inputs
  | [], _ => rfl
  | c :: rest, s => by
    unfold takeHelds; (try split) <;> simp [takeHelds_inputs rest]
@[simp] theorem takeHelds_pending  : ∀ (l : List Chan) (s : State), (takeHelds l s).pending = s.pending
  | [], _ => rfl
  | c :: rest, s => by
    unfold takeHelds; (try split) <;> simp [takeHelds_pending rest]

/-! `runWorks` changes auth, queues, engines, envs, allot, react, retained, ports, wire, link, inputs at most. -/
@[simp] theorem runWorks_phase (b : Bool) : ∀ (l : List Work) (s : State), (runWorks b l s).phase = s.phase
  | [], _ => rfl
  | c :: rest, s => by
    unfold runWorks; (try split) <;> simp [runWorks_phase b rest]
@[simp] theorem runWorks_safetyPort (b : Bool) : ∀ (l : List Work) (s : State), (runWorks b l s).safetyPort = s.safetyPort
  | [], _ => rfl
  | c :: rest, s => by
    unfold runWorks; (try split) <;> simp [runWorks_safetyPort b rest]
@[simp] theorem runWorks_resetting (b : Bool) : ∀ (l : List Work) (s : State), (runWorks b l s).resetting = s.resetting
  | [], _ => rfl
  | c :: rest, s => by
    unfold runWorks; (try split) <;> simp [runWorks_resetting b rest]
@[simp] theorem runWorks_consts (b : Bool) : ∀ (l : List Work) (s : State), (runWorks b l s).consts = s.consts
  | [], _ => rfl
  | c :: rest, s => by
    unfold runWorks; (try split) <;> simp [runWorks_consts b rest]
@[simp] theorem runWorks_signals (b : Bool) : ∀ (l : List Work) (s : State), (runWorks b l s).signals = s.signals
  | [], _ => rfl
  | c :: rest, s => by
    unfold runWorks; (try split) <;> simp [runWorks_signals b rest]
@[simp] theorem runWorks_pins (b : Bool) : ∀ (l : List Work) (s : State), (runWorks b l s).pins = s.pins
  | [], _ => rfl
  | c :: rest, s => by
    unfold runWorks; (try split) <;> simp [runWorks_pins b rest]
@[simp] theorem runWorks_period (b : Bool) : ∀ (l : List Work) (s : State), (runWorks b l s).period = s.period
  | [], _ => rfl
  | c :: rest, s => by
    unfold runWorks; (try split) <;> simp [runWorks_period b rest]
@[simp] theorem runWorks_started (b : Bool) : ∀ (l : List Work) (s : State), (runWorks b l s).started = s.started
  | [], _ => rfl
  | c :: rest, s => by
    unfold runWorks; (try split) <;> simp [runWorks_started b rest]
@[simp] theorem runWorks_pending (b : Bool) : ∀ (l : List Work) (s : State), (runWorks b l s).pending = s.pending
  | [], _ => rfl
  | c :: rest, s => by
    unfold runWorks; (try split) <;> simp [runWorks_pending b rest]

/-! `leaveWork` changes auth, queues, engines, envs, allot, react, retained, ports, wire, link, inputs at most. -/
@[simp] theorem leaveWork_phase (b : Bool) (w : Work) (s : State) : (leaveWork b w s).phase = s.phase := by
  unfold leaveWork; (try dsimp only); (repeat' split) <;> simp
@[simp] theorem leaveWork_safetyPort (b : Bool) (w : Work) (s : State) : (leaveWork b w s).safetyPort = s.safetyPort := by
  unfold leaveWork; (try dsimp only); (repeat' split) <;> simp
@[simp] theorem leaveWork_resetting (b : Bool) (w : Work) (s : State) : (leaveWork b w s).resetting = s.resetting := by
  unfold leaveWork; (try dsimp only); (repeat' split) <;> simp
@[simp] theorem leaveWork_consts (b : Bool) (w : Work) (s : State) : (leaveWork b w s).consts = s.consts := by
  unfold leaveWork; (try dsimp only); (repeat' split) <;> simp
@[simp] theorem leaveWork_signals (b : Bool) (w : Work) (s : State) : (leaveWork b w s).signals = s.signals := by
  unfold leaveWork; (try dsimp only); (repeat' split) <;> simp
@[simp] theorem leaveWork_pins (b : Bool) (w : Work) (s : State) : (leaveWork b w s).pins = s.pins := by
  unfold leaveWork; (try dsimp only); (repeat' split) <;> simp
@[simp] theorem leaveWork_period (b : Bool) (w : Work) (s : State) : (leaveWork b w s).period = s.period := by
  unfold leaveWork; (try dsimp only); (repeat' split) <;> simp
@[simp] theorem leaveWork_started (b : Bool) (w : Work) (s : State) : (leaveWork b w s).started = s.started := by
  unfold leaveWork; (try dsimp only); (repeat' split) <;> simp
@[simp] theorem leaveWork_pending (b : Bool) (w : Work) (s : State) : (leaveWork b w s).pending = s.pending := by
  unfold leaveWork; (try dsimp only); (repeat' split) <;> simp

/-! `leaveWorks` changes auth, queues, engines, envs, allot, react, retained, ports, wire, link, inputs at most. -/
@[simp] theorem leaveWorks_phase (b : Bool) : ∀ (l : List Work) (s : State), (leaveWorks b l s).phase = s.phase
  | [], _ => rfl
  | c :: rest, s => by
    unfold leaveWorks; (try split) <;> simp [leaveWorks_phase b rest]
@[simp] theorem leaveWorks_safetyPort (b : Bool) : ∀ (l : List Work) (s : State), (leaveWorks b l s).safetyPort = s.safetyPort
  | [], _ => rfl
  | c :: rest, s => by
    unfold leaveWorks; (try split) <;> simp [leaveWorks_safetyPort b rest]
@[simp] theorem leaveWorks_resetting (b : Bool) : ∀ (l : List Work) (s : State), (leaveWorks b l s).resetting = s.resetting
  | [], _ => rfl
  | c :: rest, s => by
    unfold leaveWorks; (try split) <;> simp [leaveWorks_resetting b rest]
@[simp] theorem leaveWorks_consts (b : Bool) : ∀ (l : List Work) (s : State), (leaveWorks b l s).consts = s.consts
  | [], _ => rfl
  | c :: rest, s => by
    unfold leaveWorks; (try split) <;> simp [leaveWorks_consts b rest]
@[simp] theorem leaveWorks_signals (b : Bool) : ∀ (l : List Work) (s : State), (leaveWorks b l s).signals = s.signals
  | [], _ => rfl
  | c :: rest, s => by
    unfold leaveWorks; (try split) <;> simp [leaveWorks_signals b rest]
@[simp] theorem leaveWorks_pins (b : Bool) : ∀ (l : List Work) (s : State), (leaveWorks b l s).pins = s.pins
  | [], _ => rfl
  | c :: rest, s => by
    unfold leaveWorks; (try split) <;> simp [leaveWorks_pins b rest]
@[simp] theorem leaveWorks_period (b : Bool) : ∀ (l : List Work) (s : State), (leaveWorks b l s).period = s.period
  | [], _ => rfl
  | c :: rest, s => by
    unfold leaveWorks; (try split) <;> simp [leaveWorks_period b rest]
@[simp] theorem leaveWorks_started (b : Bool) : ∀ (l : List Work) (s : State), (leaveWorks b l s).started = s.started
  | [], _ => rfl
  | c :: rest, s => by
    unfold leaveWorks; (try split) <;> simp [leaveWorks_started b rest]
@[simp] theorem leaveWorks_pending (b : Bool) : ∀ (l : List Work) (s : State), (leaveWorks b l s).pending = s.pending
  | [], _ => rfl
  | c :: rest, s => by
    unfold leaveWorks; (try split) <;> simp [leaveWorks_pending b rest]

/-! `overdueEngine` changes auth, queues, engines, envs, allot, react, retained, ports, wire at most. -/
@[simp] theorem overdueEngine_phase (l : Chan) (s : State) : (overdueEngine l s).phase = s.phase := by
  unfold overdueEngine; (try dsimp only); (repeat' split) <;> simp
@[simp] theorem overdueEngine_safetyPort (l : Chan) (s : State) : (overdueEngine l s).safetyPort = s.safetyPort := by
  unfold overdueEngine; (try dsimp only); (repeat' split) <;> simp
@[simp] theorem overdueEngine_resetting (l : Chan) (s : State) : (overdueEngine l s).resetting = s.resetting := by
  unfold overdueEngine; (try dsimp only); (repeat' split) <;> simp
@[simp] theorem overdueEngine_consts (l : Chan) (s : State) : (overdueEngine l s).consts = s.consts := by
  unfold overdueEngine; (try dsimp only); (repeat' split) <;> simp
@[simp] theorem overdueEngine_signals (l : Chan) (s : State) : (overdueEngine l s).signals = s.signals := by
  unfold overdueEngine; (try dsimp only); (repeat' split) <;> simp
@[simp] theorem overdueEngine_pins (l : Chan) (s : State) : (overdueEngine l s).pins = s.pins := by
  unfold overdueEngine; (try dsimp only); (repeat' split) <;> simp
@[simp] theorem overdueEngine_period (l : Chan) (s : State) : (overdueEngine l s).period = s.period := by
  unfold overdueEngine; (try dsimp only); (repeat' split) <;> simp
@[simp] theorem overdueEngine_started (l : Chan) (s : State) : (overdueEngine l s).started = s.started := by
  unfold overdueEngine; (try dsimp only); (repeat' split) <;> simp
@[simp] theorem overdueEngine_link (l : Chan) (s : State) : (overdueEngine l s).link = s.link := by
  unfold overdueEngine; (try dsimp only); (repeat' split) <;> simp
@[simp] theorem overdueEngine_inputs (l : Chan) (s : State) : (overdueEngine l s).inputs = s.inputs := by
  unfold overdueEngine; (try dsimp only); (repeat' split) <;> simp
@[simp] theorem overdueEngine_pending (l : Chan) (s : State) : (overdueEngine l s).pending = s.pending := by
  unfold overdueEngine; (try dsimp only); (repeat' split) <;> simp

/-! `overdueWork` changes auth, queues, engines, envs, allot, react, retained, ports, wire, link, inputs at most. -/
@[simp] theorem overdueWork_phase (w : Work) (s : State) : (overdueWork w s).phase = s.phase := by
  unfold overdueWork; (try dsimp only); (repeat' split) <;> simp
@[simp] theorem overdueWork_safetyPort (w : Work) (s : State) : (overdueWork w s).safetyPort = s.safetyPort := by
  unfold overdueWork; (try dsimp only); (repeat' split) <;> simp
@[simp] theorem overdueWork_resetting (w : Work) (s : State) : (overdueWork w s).resetting = s.resetting := by
  unfold overdueWork; (try dsimp only); (repeat' split) <;> simp
@[simp] theorem overdueWork_consts (w : Work) (s : State) : (overdueWork w s).consts = s.consts := by
  unfold overdueWork; (try dsimp only); (repeat' split) <;> simp
@[simp] theorem overdueWork_signals (w : Work) (s : State) : (overdueWork w s).signals = s.signals := by
  unfold overdueWork; (try dsimp only); (repeat' split) <;> simp
@[simp] theorem overdueWork_pins (w : Work) (s : State) : (overdueWork w s).pins = s.pins := by
  unfold overdueWork; (try dsimp only); (repeat' split) <;> simp
@[simp] theorem overdueWork_period (w : Work) (s : State) : (overdueWork w s).period = s.period := by
  unfold overdueWork; (try dsimp only); (repeat' split) <;> simp
@[simp] theorem overdueWork_started (w : Work) (s : State) : (overdueWork w s).started = s.started := by
  unfold overdueWork; (try dsimp only); (repeat' split) <;> simp
@[simp] theorem overdueWork_pending (w : Work) (s : State) : (overdueWork w s).pending = s.pending := by
  unfold overdueWork; (try dsimp only); (repeat' split) <;> simp

/-! `overdueWorks` changes auth, queues, engines, envs, allot, react, retained, ports, wire, link, inputs at most. -/
@[simp] theorem overdueWorks_phase  : ∀ (l : List Work) (s : State), (overdueWorks l s).phase = s.phase
  | [], _ => rfl
  | c :: rest, s => by
    unfold overdueWorks; (try split) <;> simp [overdueWorks_phase rest]
@[simp] theorem overdueWorks_safetyPort  : ∀ (l : List Work) (s : State), (overdueWorks l s).safetyPort = s.safetyPort
  | [], _ => rfl
  | c :: rest, s => by
    unfold overdueWorks; (try split) <;> simp [overdueWorks_safetyPort rest]
@[simp] theorem overdueWorks_resetting  : ∀ (l : List Work) (s : State), (overdueWorks l s).resetting = s.resetting
  | [], _ => rfl
  | c :: rest, s => by
    unfold overdueWorks; (try split) <;> simp [overdueWorks_resetting rest]
@[simp] theorem overdueWorks_consts  : ∀ (l : List Work) (s : State), (overdueWorks l s).consts = s.consts
  | [], _ => rfl
  | c :: rest, s => by
    unfold overdueWorks; (try split) <;> simp [overdueWorks_consts rest]
@[simp] theorem overdueWorks_signals  : ∀ (l : List Work) (s : State), (overdueWorks l s).signals = s.signals
  | [], _ => rfl
  | c :: rest, s => by
    unfold overdueWorks; (try split) <;> simp [overdueWorks_signals rest]
@[simp] theorem overdueWorks_pins  : ∀ (l : List Work) (s : State), (overdueWorks l s).pins = s.pins
  | [], _ => rfl
  | c :: rest, s => by
    unfold overdueWorks; (try split) <;> simp [overdueWorks_pins rest]
@[simp] theorem overdueWorks_period  : ∀ (l : List Work) (s : State), (overdueWorks l s).period = s.period
  | [], _ => rfl
  | c :: rest, s => by
    unfold overdueWorks; (try split) <;> simp [overdueWorks_period rest]
@[simp] theorem overdueWorks_started  : ∀ (l : List Work) (s : State), (overdueWorks l s).started = s.started
  | [], _ => rfl
  | c :: rest, s => by
    unfold overdueWorks; (try split) <;> simp [overdueWorks_started rest]
@[simp] theorem overdueWorks_pending  : ∀ (l : List Work) (s : State), (overdueWorks l s).pending = s.pending
  | [], _ => rfl
  | c :: rest, s => by
    unfold overdueWorks; (try split) <;> simp [overdueWorks_pending rest]

end Sys2Proof.Machine
end

