-- ==== Sys2Proof/Laws/Ports.lean ====
section
/-! SUPPORT. The service of requests and the end of a command: what serving one request does, and what settling keeps of
a port. -/

namespace Sys2Proof.Machine

/-! ### One port at the end of a command -/

theorem PortBlock.formNotice_cases (k : Constants) (P : W32) (b : PortBlock) :
    b.formNotice k P = b ∨
      (b.summary ≠ 0#12 ∧ b.notice = none ∧ ∃ timer, b.formNotice k P =
        { b with notice := some { bytes := noticeFrame b.summary P, isReset := false }, summary := 0, pacing := timer }) := by
  unfold PortBlock.formNotice
  split
  · next h => exact .inr ⟨h.1, h.2.2, _, rfl⟩
  · exact .inl rfl

/-- The transmitter's choice: nothing, the answer, or the notice frame (R171). -/
theorem PortBlock.begin_cases (b : PortBlock) :
    b.begin = b ∨ (∃ f, b.answer = some f ∧ b.begin = { b with sending := some f, answer := none }) ∨
      (∃ f, b.answer = none ∧ b.notice = some f ∧ b.begin = { b with sending := some f, notice := none }) := by
  unfold PortBlock.begin
  split
  · split
    · next f h => exact .inr (.inl ⟨f, h, rfl⟩)
    · next f h1 h2 => exact .inr (.inr ⟨f, h1, h2, rfl⟩)
    · exact .inl rfl
  · exact .inl rfl

theorem PortBlock.formNotice_sameLink (k : Constants) (P : W32) (b : PortBlock) : (b.formNotice k P).sameLink b := by
  rcases b.formNotice_cases k P with h | ⟨-, -, t, h⟩ <;> rw [h] <;> exact ⟨rfl, rfl, rfl, rfl, rfl, rfl, rfl⟩

theorem PortBlock.begin_sameLink (b : PortBlock) : b.begin.sameLink b := by
  rcases b.begin_cases with h | ⟨f, -, h⟩ | ⟨f, -, -, h⟩ <;> rw [h] <;> exact ⟨rfl, rfl, rfl, rfl, rfl, rfl, rfl⟩

/-- Settling changes the slots, the transmitter, the summary and the pacing timer of a port, nothing else. -/
theorem PortBlock.settle_sameLink (k : Constants) (P : W32) (b : PortBlock) : (b.settle k P).sameLink b := by
  have h1 := b.formNotice_sameLink k P
  have h2 := (b.formNotice k P).begin_sameLink
  have h3 := ((b.formNotice k P).begin).formNotice_sameLink k P
  unfold PortBlock.settle
  simp only [PortBlock.sameLink] at *
  simp [h1, h2, h3]

@[simp] theorem PortBlock.settle_link (k : Constants) (P : W32) (b : PortBlock) : (b.settle k P).link = b.link :=
  (b.settle_sameLink k P).1
@[simp] theorem PortBlock.settle_silence (k : Constants) (P : W32) (b : PortBlock) :
    (b.settle k P).silence = b.silence := (b.settle_sameLink k P).2.1
@[simp] theorem PortBlock.settle_inbound (k : Constants) (P : W32) (b : PortBlock) :
    (b.settle k P).inbound = b.inbound := (b.settle_sameLink k P).2.2.1
@[simp] theorem PortBlock.settle_overrun (k : Constants) (P : W32) (b : PortBlock) :
    (b.settle k P).overrun = b.overrun := (b.settle_sameLink k P).2.2.2.1
@[simp] theorem PortBlock.settle_damaged (k : Constants) (P : W32) (b : PortBlock) :
    (b.settle k P).damaged = b.damaged := (b.settle_sameLink k P).2.2.2.2.1
@[simp] theorem PortBlock.settle_subscribed (k : Constants) (P : W32) (b : PortBlock) :
    (b.settle k P).subscribed = b.subscribed := (b.settle_sameLink k P).2.2.2.2.2.1
@[simp] theorem PortBlock.settle_pacingMs (k : Constants) (P : W32) (b : PortBlock) :
    (b.settle k P).pacingMs = b.pacingMs := (b.settle_sameLink k P).2.2.2.2.2.2

/-- An answer in its slot is there or in transmission after settling. -/
theorem PortBlock.settle_answer (k : Constants) (P : W32) (b : PortBlock) (f : TxFrame) (h : b.answer = some f) :
    (b.settle k P).answer = some f ∨ (b.settle k P).sending = some f := by
  have step : ∀ c : PortBlock, (c.formNotice k P).answer = c.answer ∧ (c.formNotice k P).sending = c.sending := by
    intro c
    rcases c.formNotice_cases k P with h | ⟨-, -, t, h⟩ <;> simp [h]
  have h1 : (b.formNotice k P).answer = some f := by rw [(step b).1, h]
  unfold PortBlock.settle
  rw [(step _).1, (step _).2]
  rcases (b.formNotice k P).begin_cases with h2 | ⟨g, hg, h2⟩ | ⟨g, hg, -, h2⟩
  · exact .inl (by rw [h2, h1])
  · have : g = f := by rw [h1] at hg; exact (Option.some.inj hg).symm
    exact .inr (by rw [h2, this])
  · rw [h1] at hg; cases hg

/-- A kind in a summary is announced after settling. -/
theorem PortBlock.settle_announces (k : Constants) (P : W32) (b : PortBlock) (x : NoticeKind) (h : b.announces x) :
    (b.settle k P).announces x := by
  have form : ∀ c : PortBlock, c.announces x → (c.formNotice k P).announces x := by
    intro c hc
    rcases c.formNotice_cases k P with h1 | ⟨-, h0, t, h1⟩
    · rwa [h1]
    · rw [h1]
      rcases hc with hc | ⟨kinds, per, hk, hn | hs⟩
      · exact .inr ⟨c.summary, P, hc, .inl rfl⟩
      · rw [h0] at hn; cases hn
      · exact .inr ⟨kinds, per, hk, .inr hs⟩
  have beg : ∀ c : PortBlock, (c.summary.getLsbD x.index = true ∨ ∃ kinds per, kinds.getLsbD x.index = true ∧
      (c.notice = some ⟨noticeFrame kinds per, false⟩ ∨ c.sending = some ⟨noticeFrame kinds per, false⟩)) →
      c.begin.announces x := by
    intro c hc
    by_cases hidle : c.sending = none
    · rcases c.begin_cases with h1 | ⟨f, -, h1⟩ | ⟨f, -, hf, h1⟩
      · rwa [h1]
      · rw [h1]
        rcases hc with hc | ⟨kinds, per, hk, hn | hs⟩
        · exact .inl hc
        · exact .inr ⟨kinds, per, hk, .inl hn⟩
        · rw [hidle] at hs; cases hs
      · rw [h1]
        rcases hc with hc | ⟨kinds, per, hk, hn | hs⟩
        · exact .inl hc
        · exact .inr ⟨kinds, per, hk, .inr (by rw [← hn, hf])⟩
        · rw [hidle] at hs; cases hs
    · have : c.begin = c := by
        unfold PortBlock.begin
        rw [if_neg (fun h => hidle h.1)]
      rwa [this]
  exact form _ (beg _ (form _ h))

/-- A port is settled after settling. -/
theorem PortBlock.settle_settled (k : Constants) (P : W32) (b : PortBlock) : (b.settle k P).settled := by
  have due : ∀ c : PortBlock, ¬ ((c.formNotice k P).summary ≠ 0#12 ∧ (c.formNotice k P).pacing = none ∧
      (c.formNotice k P).notice = none) := by
    intro c
    unfold PortBlock.formNotice
    split
    · simp
    · assumption
  refine ⟨due _, ?_⟩
  intro hs hl
  unfold PortBlock.settle at hs hl ⊢
  have hsend : ((b.formNotice k P).begin).sending = none := by
    rcases ((b.formNotice k P).begin).formNotice_cases k P with h | ⟨-, -, t, h⟩ <;> simpa [h] using hs
  have hlink : (b.formNotice k P).link ≠ .down := by
    have h1 := ((b.formNotice k P).begin).formNotice_sameLink k P
    have h2 := (b.formNotice k P).begin_sameLink
    rw [h1.1, h2.1] at hl
    exact hl
  have hb : (b.formNotice k P).begin = b.formNotice k P ∧ (b.formNotice k P).answer = none ∧
      (b.formNotice k P).notice = none := by
    have hs0 : (b.formNotice k P).sending = none := by
      rcases (b.formNotice k P).begin_cases with h | ⟨f, -, h⟩ | ⟨f, -, -, h⟩
      · rw [← h]; exact hsend
      · rw [h] at hsend; cases hsend
      · rw [h] at hsend; cases hsend
    rcases (b.formNotice k P).begin_cases with h | ⟨f, -, h⟩ | ⟨f, -, -, h⟩
    · refine ⟨h, ?_⟩
      unfold PortBlock.begin at h hsend
      rw [if_pos ⟨hs0, hlink⟩] at h hsend
      split at hsend
      · cases hsend
      · cases hsend
      · exact ⟨by assumption, by assumption⟩
    · rw [h] at hsend; cases hsend
    · rw [h] at hsend; cases hsend
  rw [hb.1]
  have hd := due b
  have hsame : (b.formNotice k P).formNotice k P = b.formNotice k P := by
    generalize b.formNotice k P = c at hd ⊢
    unfold PortBlock.formNotice
    rw [if_neg hd]
  rw [hsame]
  exact hb.2

/-! ### The state at the end of a command -/

@[simp] theorem settle_ports_get (s : State) (q : Port) :
    vget (settle s).ports q = (vget s.ports q).settle s.consts s.period := by
  unfold settle; simp

/-! ### The service of one request -/

/-- A port that offers no frame of the request's code serves nothing. -/
theorem serve_none {α : Type} (p : Port) (code : Nat) (parse : List Byte → Option α)
    (owner : α → State → State × Reply) (s : State) (h : ∀ f, s.nextRequest p = some f → f.code ≠ code) :
    serve p code parse owner s = s := by
  unfold serve
  split
  · rfl
  · next f hf => rw [if_pos (h f hf)]

/-- A request whose fields fit no form of it is answered LENGTH (R169, step 2). -/
theorem serve_length {α : Type} {p : Port} {code : Nat} {parse : List Byte → Option α} {n : W16} {fields : List Byte}
    (owner : α → State → State × Reply) {s : State} (h : s.offers p n code fields) (hp : parse fields = none) :
    serve p code parse owner s = putAnswer p n false (.bare .length) (popRequest p s) := by
  unfold serve
  rw [h]
  simp [hp]

/-- A request that passes the length check is served by its owner, and answered once (R169, step 3; R170). -/
theorem serve_owner {α : Type} {p : Port} {code : Nat} {parse : List Byte → Option α} {n : W16} {fields : List Byte}
    {a : α} (owner : α → State → State × Reply) {s : State} (h : s.offers p n code fields) (hp : parse fields = some a) :
    serve p code parse owner s =
      putAnswer p n false (owner a (popRequest p s)).2 (owner a (popRequest p s)).1 := by
  unfold serve
  rw [h]
  simp [hp]

/-- A tagged request that is routed goes on with its channel. -/
theorem onRoute_routed {p : Port} {tag : Byte} {l : Chan} (own : Chan → State → State × Reply) {s : State}
    (h : s.routes p tag l) : onRoute p tag.toNat own s = own l s := by
  obtain ⟨h1, h2, h3⟩ := h
  unfold onRoute State.inConfig
  simp [h1, h2, h3]

@[simp] theorem popRequest_ports_self (s : State) (p : Port) :
    vget (popRequest p s).ports p = { vget s.ports p with inbound := (vget s.ports p).inbound.tail } := by
  unfold popRequest; simp

theorem popRequest_ports_ne (s : State) {p q : Port} (h : q ≠ p) : vget (popRequest p s).ports q = vget s.ports q := by
  unfold popRequest; simp [vget_vset_ne _ _ (Ne.symm h)]

theorem putAnswer_ports_ne (s : State) {p q : Port} (n : W16) (b : Bool) (r : Reply) (h : q ≠ p) :
    vget (putAnswer p n b r s).ports q = vget s.ports q := by
  unfold putAnswer; simp [vget_vset_ne _ _ (Ne.symm h)]

/-- With nothing pending, or a reaction in service, the Reaction Controller takes nothing (07, R137). -/
theorem takeReactions_quiet {s : State}
    (h : s.react.inService.isSome = true ∨ s.react.pendingSet = []) : takeReactions s = s := by
  rcases h with h | h
  · unfold takeReactions takeUpTo
    cases hs : s.react.inService with
    | none => rw [hs] at h; cases h
    | some i => rfl
  · unfold takeReactions
    rw [h]
    simp only [List.length_nil]
    unfold takeUpTo
    cases hs : s.react.inService with
    | none => simp [h, takeFirst]
    | some i => rfl

end Sys2Proof.Machine
end

