-- ==== Sys2Proof/Laws/Moves.lean ====
section
/-! SUPPORT. The gate enable of one channel in closed form, the channels of a group, and one induction principle for each
operation that works through a list: what every single round keeps, the whole operation keeps. -/

namespace Sys2Proof.Machine

@[simp] theorem vset_vset {α : Type} {n : Nat} (v : Vector α n) (i : Fin n) (a b : α) :
    vset (vset v i a) i b = vset v i b := by
  apply vec_ext
  intro j
  simp only [vget_vset]
  split <;> rfl

/-! ### Groups (01, R4) -/

/-- Every channel of the group of a channel that is no follower is led by it. -/
theorem lead_of_mem_group {k : Constants} {l c : Chan} (h : k.isFollower l = false) (hc : c ∈ k.group l) :
    k.lead c = l := by
  unfold Constants.group at hc
  split at hc
  · next hl =>
    simp only [List.mem_cons, List.not_mem_nil, or_false] at hc
    rcases hc with rfl | rfl
    · simp [Constants.lead, h]
    · revert h hl
      unfold Constants.lead Constants.isFollower Constants.isLeader
      match l with
      | 0 =>
        intro _ hl
        have hl' : vget k.tandem 0 = true := hl
        change (if vget k.tandem 0 = true then _ else _) = _
        rw [if_pos hl']
        rfl
      | 1 => intro _ hl; exact absurd hl Bool.false_ne_true
      | 2 =>
        intro _ hl
        have hl' : vget k.tandem 1 = true := hl
        change (if vget k.tandem 1 = true then _ else _) = _
        rw [if_pos hl']
        rfl
      | 3 => intro _ hl; exact absurd hl Bool.false_ne_true
      | 4 =>
        intro _ hl
        have hl' : vget k.tandem 2 = true := hl
        change (if vget k.tandem 2 = true then _ else _) = _
        rw [if_pos hl']
        rfl
      | 5 => intro _ hl; exact absurd hl Bool.false_ne_true
      | 6 => intro _ hl; exact absurd hl Bool.false_ne_true
      | 7 => intro _ hl; exact absurd hl Bool.false_ne_true
  · simp only [List.mem_cons, List.not_mem_nil, or_false] at hc
    subst hc
    simp [Constants.lead, h]

theorem mem_group_self (k : Constants) (l : Chan) : l ∈ k.group l := by
  unfold Constants.group
  split <;> simp

theorem isFollower_lead (k : Constants) (c : Chan) : k.isFollower (k.lead c) = false := by
  unfold Constants.lead
  by_cases h : k.isFollower c = true
  · rw [if_pos h]
    match c, h with
    | 1, _ | 3, _ | 5, _ => rfl
    | 0, h | 2, h | 4, h | 6, h | 7, h => exact absurd h Bool.false_ne_true
  · rw [if_neg h]
    exact Bool.eq_false_iff.mpr h

/-! ### The gate enable of one channel (01, R5) -/

/-- A channel's gate enable follows its group's state: the engine, the request with the grants, and the cut record. -/
theorem gateSync_eq {c l : Chan} {s : State} {new : ChState} (hl : s.consts.lead c = l) (hs : (s.eng l).state = new) :
    gateSync c s = { s with
      engines := vset s.engines c ((s.eng c).gated (s.gateIn new c))
      allot := if (s.eng c).gateEnable = s.gateIn new c then s.allot else
        { s.allot with
          request := vset s.allot.request c 0
          grant := grantsOf s.consts s.allot.budget (vset s.allot.request c 0) }
      wire := if (s.eng c).gateEnable && !s.gateIn new c then
          .bridge c (gateRecord s.stamp16 Duties.zero false s.standby) :: s.wire
        else s.wire } := by
  have hv : s.gateValue c = s.gateIn new c := by
    unfold State.gateValue State.chState State.lead
    rw [hl, hs]
  unfold gateSync
  simp only [hv, State.eng]
  rcases Bool.eq_false_or_eq_true (vget s.engines c).gateEnable with he | he <;>
    rcases Bool.eq_false_or_eq_true (s.gateIn new c) with hon | hon
  · have : { vget s.engines c with gateEnable := true } = vget s.engines c := by rw [← he]
    simp [Engine.gated, he, hon, this]
  · simp [Engine.gated, he, hon, setRequest, recompute, sendGate, State.stamp16, State.standby, State.eng]
  · simp [Engine.gated, he, hon, setRequest, recompute]
  · have : { vget s.engines c with gateEnable := false } = vget s.engines c := by rw [← he]
    simp [Engine.gated, he, hon, this]

/-! ### Operations that work through a list -/

theorem gateSyncs_induct (P : State → Prop) (step : ∀ c s, P s → P (gateSync c s)) :
    ∀ (l : List Chan) (s : State), P s → P (gateSyncs l s)
  | [], _, h => h
  | c :: rest, s, h => gateSyncs_induct P step rest _ (step c s h)

/-- What taking any one takeable entry keeps, a taking keeps (07, R137). -/
theorem takeUpTo_induct (P : State → Prop)
    (step : ∀ s x others, P s → s.react.inService = none →
      takeFirst s.takeable s.react.pendingSet = some (x, others) → P (performReaction x (withPending others s))) :
    ∀ (n : Nat) (s : State), P s → P (takeUpTo n s)
  | 0, _, h => h
  | n + 1, s, h => by
    unfold takeUpTo
    split
    · exact h
    · next hin =>
      split
      · exact h
      · next x others ht => exact takeUpTo_induct P step n _ (step s x others h hin ht)

theorem takeReactions_induct (P : State → Prop)
    (step : ∀ s x others, P s → s.react.inService = none →
      takeFirst s.takeable s.react.pendingSet = some (x, others) → P (performReaction x (withPending others s)))
    {s : State} (h : P s) : P (takeReactions s) := takeUpTo_induct P step _ s h

theorem revokePortFroms_induct (P : State → Prop) (p : Port)
    (step : ∀ l s, P s → s.served l = true → P (revokePortFrom p l s)) :
    ∀ (l : List Chan) (s : State), P s → P (revokePortFroms p l s)
  | [], _, h => h
  | l :: rest, s, h => by
    unfold revokePortFroms
    apply revokePortFroms_induct P p step rest
    split
    · next hs => exact step l s h hs
    · exact h

theorem withdrawProposals_induct (P : State → Prop) (p : Port) (step : ∀ l s, P s → P (endProposal l .withdrawn s)) :
    ∀ (l : List Chan) (s : State), P s → P (withdrawProposals p l s)
  | [], _, h => h
  | l :: rest, s, h => by
    unfold withdrawProposals
    apply withdrawProposals_induct P p step rest
    split
    · exact step l s h
    · exact h

theorem assertStops_induct (P : State → Prop) (step : ∀ l s, P s → s.served l = true → P (assertStopOn l s)) :
    ∀ (l : List Chan) (s : State), P s → P (assertStops l s)
  | [], _, h => h
  | l :: rest, s, h => by
    unfold assertStops
    apply assertStops_induct P step rest
    split
    · next hs => exact step l s h hs
    · exact h

theorem tripDriving_induct (P : State → Prop) (k : FaultKind)
    (step : ∀ l s, P s → s.served l = true → (s.eng l).state.driving = true →
      P (toTripped l k s.vlink s)) :
    ∀ (l : List Chan) (s : State), P s → P (tripDriving k l s)
  | [], _, h => h
  | l :: rest, s, h => by
    unfold tripDriving
    apply tripDriving_induct P k step rest
    split
    · next hs =>
      rw [Bool.and_eq_true] at hs
      exact step l s h hs.1 hs.2
    · exact h

theorem deliverLevels_induct (P : State → Prop) (step : ∀ i s, P s → P (deliverLevel i s)) :
    ∀ (l : List Input) (s : State), P s → P (deliverLevels l s)
  | [], _, h => h
  | i :: rest, s, h => deliverLevels_induct P step rest _ (step i s h)

theorem reportBrakes_induct (P : State → Prop) (wrong : Feedback)
    (step : ∀ c s, P s → P (reportOrdinary .brakeFault (.channel c) none s)) :
    ∀ (l : List Chan) (s : State), P s → P (reportBrakes wrong l s)
  | [], _, h => h
  | c :: rest, s, h => by
    unfold reportBrakes
    apply reportBrakes_induct P wrong step rest
    split
    · exact step c s h
    · exact h

theorem missSteps_induct (P : State → Prop) (first : Bool) (step : ∀ c s, P s → P (missStep first c s)) :
    ∀ (l : List Chan) (s : State), P s → P (missSteps first l s)
  | [], _, h => h
  | c :: rest, s, h => missSteps_induct P first step rest _ (step c s h)

theorem substitutes_induct (P : State → Prop) (step : ∀ c s, P s → P (substitute c s)) :
    ∀ (l : List Chan) (s : State), P s → P (substitutes l s)
  | [], _, h => h
  | c :: rest, s, h => substitutes_induct P step rest _ (step c s h)

theorem runWorks_induct (P : State → Prop) (first : Bool) (step : ∀ w s, P s → P (runWork first w s))
    (hset : ∀ s, P s → P (settle s)) :
    ∀ (l : List Work) (s : State), P s → P (runWorks first l s)
  | [], _, h => h
  | w :: rest, s, h => runWorks_induct P first step hset rest _ (hset _ (step w s h))

theorem leaveWorks_induct (P : State → Prop) (first : Bool) (step : ∀ w s, P s → P (leaveWork first w s))
    (hset : ∀ s, P s → P (settle s)) :
    ∀ (l : List Work) (s : State), P s → P (leaveWorks first l s)
  | [], _, h => h
  | w :: rest, s, h => leaveWorks_induct P first step hset rest _ (hset _ (step w s h))

theorem overdueWorks_induct (P : State → Prop) (step : ∀ w s, P s → P (overdueWork w s))
    (hset : ∀ s, P s → P (settle s)) :
    ∀ (l : List Work) (s : State), P s → P (overdueWorks l s)
  | [], _, h => h
  | w :: rest, s, h => overdueWorks_induct P step hset rest _ (hset _ (step w s h))

theorem takeHelds_induct (P : State → Prop) (step : ∀ c s, P s → P (takeHeld c s)) :
    ∀ (l : List Chan) (s : State), P s → P (takeHelds l s)
  | [], _, h => h
  | c :: rest, s, h => takeHelds_induct P step rest _ (step c s h)

/-- What the taking of a request, its owner and the answer keep, the service of the request keeps (09, R169). -/
theorem serve_induct {α : Type} (P : State → Prop) (p : Port) (code : Nat) (parse : List Byte → Option α)
    (owner : α → State → State × Reply) (hpop : ∀ s, P s → P (popRequest p s)) (hown : ∀ a s, P s → P (owner a s).1)
    (hput : ∀ n r s, P s → P (putAnswer p n false r s)) {s : State} (h : P s) : P (serve p code parse owner s) := by
  unfold serve
  split
  · exact h
  · split
    · exact h
    · split
      · exact hput _ _ _ (hpop _ h)
      · exact hput _ _ _ (hown _ _ (hpop _ h))

/-- What a channel's own service keeps, the route checks before it keep. -/
theorem onRoute_induct (P : State → Prop) (p : Port) (tag : Nat) (own : Chan → State → State × Reply) {s : State}
    (h : P s) (hown : ∀ l, s.phase = .operating → s.consts.lookup tag p = some l → s.consts.isFollower l = false →
      P (own l s).1) : P (onRoute p tag own s).1 := by
  unfold onRoute State.inConfig
  cases hph : s.phase with
  | config => simpa using h
  | operating =>
    simp only [reduceCtorEq, decide_false, Bool.false_eq_true, if_false]
    cases hl : s.consts.lookup tag p with
    | none => exact h
    | some c =>
      cases hf : s.consts.isFollower c with
      | true => simpa [hf] using h
      | false => simpa [hf] using hown c hph hl hf

end Sys2Proof.Machine
end

