-- ==== Sys2Proof/Tests/Slice0.lean ====
section
/-! SUPPORT. Tests: ill-formed commands, the manual's worked examples, and for each statement of
Certificates/Slice0/Obligations.lean concrete states and operands that meet its hypotheses, clause by clause. -/

namespace Sys2Proof.Tests

open Sys2Proof Sys2Proof.Machine

set_option Elab.async false

/-! ### Well-formedness -/

theorem test_wf_period_start : Instr.wf (.periodStart [.engine 6, .supply] [.lock 0]) = true := by decide
theorem test_ill_formed_order_twice : Instr.wf (.periodStart [.supply, .supply] []) = false := by decide
theorem test_ill_formed_later_twice : Instr.wf (.periodStart [] [.lock 0, .lock 0]) = false := by decide
theorem test_ill_formed_in_both : Instr.wf (.periodStart [.engine 6] [.engine 6]) = false := by decide
theorem test_no_word_spells_a_command : decodeTableWord 16 0x1234 = none := by decide

/-! ### The manual's worked examples -/

/-- The check's published test value, over the digits 1 to 9 (R188's parameters). -/
theorem test_crc_check_value :
    crc16 [0x31, 0x32, 0x33, 0x34, 0x35, 0x36, 0x37, 0x38, 0x39] = 0x29B1#16 := by decide +kernel

/-- Table 1-2: k, iq applied, id applied, with N = 80. -/
theorem test_ramp_table : ([0, 1, 2, 10, 20, 40, 60, 79, 80].map fun k =>
      (rampField 800 (80 - k) 80, rampField (-200) (80 - k) 80)) =
    [(800, -200), (790, -197), (780, -195), (700, -175), (600, -150), (400, -100), (200, -50), (10, -2), (0, 0)] := by
  decide +kernel

/-- 3.2: iq 1000 and split 301 give 1150 and 849. -/
theorem test_split_targets : splitTarget 1000 301 = 1150 ∧ splitTarget 1000 (-301) = 849 := by decide

/-- 00, "Quantities": milliseconds counted with PERIOD_CODE 2. -/
theorem test_durations : Constants.initial.periods 3 = 24 ∧ Constants.initial.periods 0 = 0 := by decide

/-- Table 3-6: the outcomes of the batch and the stamps left (an entry is its stamp, iq and an id or split with the
presence bits). -/
theorem test_batch_outcomes :
    let raw (st : W32) (iq id split : Int) (pr : Byte) : RawEntry := ⟨st, iq, id, split, 0, pr⟩
    let queued (k : Nat) : Entry := ⟨BitVec.ofNat 32 (2001 + k), 500, none, none, none⟩
    let r := judgeEntries 2000 false
      [raw 2010 520 0 0 0, raw 2015 540 0 0 0, raw 2000 540 0 0 0, raw 2016 560 0 40 2, raw 2016 560 0 0 0,
        raw 2017 580 0 0 0, raw 2003 505 (-80) 0 1, raw 2065 600 0 0 0] ((List.range 14).map queued)
    r.2 = [.replaced, .accepted, .late, .field, .accepted, .full, .replaced, .far] ∧
      r.1.map (fun e => e.stamp.toNat) = (List.range 16).map (2001 + ·) ∧
      r.1[9]? = some ⟨2010, 520, none, none, none⟩ ∧ r.1[2]? = some ⟨2003, 505, some (-80), none, none⟩ := by
  decide +kernel

/-- 4.2: the trip level of a ceiling of 20000, and of the first ceiling that is limited. -/
theorem test_trip_levels : tripLevel 20000 = 25000 ∧ tripLevel 26213 = 32766 ∧ tripLevel 26214 = 32767 := by decide

/-- 4.3.1: each update at 10 A adds 294/65536 A²s, and each one at no current takes 525; the threshold 3840 A²s. -/
theorem test_heat_example : heatNext 0 0 1000 800 250 = 294 ∧ heatNext 5250 0 0 800 250 = 4725 ∧
    heatAbove 251658239 800 60 = false ∧ heatAbove 251658240 800 60 = true ∧
    heatBelowHalf 125829120 800 60 = false ∧ heatBelowHalf 125829119 800 60 = true := by decide +kernel

/-- The table of cosines and sines: the angle of each entry is twice that of the one before, to 16 units of 2^-320, and
the last is 45 degrees. -/
theorem test_trig_table :
    ((List.range 13).all fun j =>
      let t := trigTable j
      let d := trigTable (j + 1)
      decide ((t.1 * t.1 - t.2 * t.2 - d.1 * (fixOne : Nat)).natAbs ≤ 16 * fixOne) &&
        decide ((2 * t.1 * t.2 - d.2 * (fixOne : Nat)).natAbs ≤ 16 * fixOne) && decide (0 < t.1 ∧ 0 < t.2)) = true ∧
    (trigTable 13).1 = (trigTable 13).2 ∧
    (2 * (trigTable 13).1 * (trigTable 13).1 - (fixOne * fixOne : Nat)).natAbs ≤ 16 * fixOne := by decide +kernel

/-! ### States for the tests -/

/-- Channels 0 (the leader of a tandem pair with 1), 2, 3, 6 and 7; each tag leads every port to its channel; P3 is
the safety master's. -/
def konst : Constants :=
  { Constants.initial with
    rank := #v[8, 10, 4, 0], wakePermit := #v[true, false, false, false], silenceLimitMs := #v[5, 10, 0, 5]
    present := #v[true, true, true, true, false, false, true, true], ceiling := Vector.replicate 8 20000
    reserve := #v[1000, 0, 0, 0, 0, 0, 800, 2500], order := [6, 0, 7, 1, 2, 3], tandem := #v[true, false, false]
    linkRating := 6000
    inputs := Vector.ofFn fun i => match i.val with
      | 0 => ⟨.activeHigh, .level, 1, .safeStop⟩
      | 1 => ⟨.activeHigh, .level, 0, .brakeFb 6⟩
      | 2 => ⟨.activeLow, .edge, 2, .brakeFb 0⟩
      | 3 => ⟨.activeHigh, .edge, 2, .wake⟩
      | 4 => ⟨.activeHigh, .edge, 2, .none⟩
      | _ => InputConfig.initial
    routes := Vector.ofFn fun i =>
      if i.val < 8 ∧ i.val ≠ 4 ∧ i.val ≠ 5 then ⟨true, i.val, 0xF, Fin.ofNat 8 i.val⟩ else ⟨false, 0, 0, 0⟩ }

/-- After a power-on reset with every link signal there, with these constants written, P3 the safety port. -/
def fresh : State :=
  { State.reset with
    safetyPort := 3, consts := konst, signals := Vector.replicate 4 true
    ports := Vector.replicate 4 (PortBlock.initial true) }

/-- OPERATING at period 2000 with the link READY at 560.0 V and 60 A, the latch clear, every channel in OFF. -/
def idle : State :=
  { fresh with
    phase := .operating, period := 2000, started := true
    envs := vmap allChans (fun c _ => Envelope.formed (konst.ceilingOf c)) fresh.envs
    link := { LinkBlock.initial with state := .ready, supply := some ⟨2000, 5600, 6000, true⟩ }
    allot := { Allotment.initial with budget := 6000 }
    react := { ReactionBlock.initial with latch := false }
    ports := Vector.replicate 4 { PortBlock.initial true with subscribed := broadcastKinds } }

def State.onEng (c : Chan) (f : Engine → Engine) (s : State) : State :=
  { s with engines := vset s.engines c (f (s.eng c)) }
def State.onAuth (c : Chan) (f : AuthRecord → AuthRecord) (s : State) : State :=
  { s with auth := vset s.auth c (f (s.auRec c)) }
def State.onEnv (c : Chan) (f : Envelope → Envelope) (s : State) : State :=
  { s with envs := vset s.envs c (f (s.env c)) }
def State.onPort (p : Port) (f : PortBlock → PortBlock) (s : State) : State :=
  { s with ports := vset s.ports p (f (s.port p)) }
def State.onEntries (c : Chan) (es : List Entry) (s : State) : State :=
  { s with queues := vset s.queues c { s.queue c with entries := es } }
def State.linkIn (x : LinkState) (s : State) : State := { s with link := { s.link with state := x, timer := some 0 } }
def State.linkWord (d : Option SupplyData) (s : State) : State := { s with link := { s.link with supply := d } }
def State.onReact (f : ReactionBlock → ReactionBlock) (s : State) : State := { s with react := f s.react }

/-- A reaction taken at period 5 is in service. -/
def State.serving (k : FaultKind) (sc : Scope) (s : State) : State :=
  State.onReact (fun r => { r with inService := some ⟨k, sc, 5, 5⟩ }) s

/-- The port holds channel `c`. -/
def State.heldBy (c : Chan) (p : Port) (s : State) : State :=
  State.onAuth c (fun r => { r with holder := some p, holderRank := some (s.rank p), epoch := 12 }) s

/-- Channel `c` is in a state, with a count about to expire. -/
def State.chanIn (c : Chan) (x : ChState) (s : State) : State :=
  State.onEng c (fun e => { e with state := x, timer := some 0, gateEnable := x.driving && s.present c }) s

/-- A request stands at the head of a port's inbound queue, as number 7. -/
def State.ask (p : Port) (code : Nat) (fields : List Byte) (s : State) : State :=
  State.onPort p (fun b => { b with inbound := ⟨7, code, fields⟩ :: b.inbound }) s

/-- Channel 6 in RUN under P0, with demands queued for the next periods. -/
def run : State :=
  State.onEntries 6 [⟨2001, 500, none, none, none⟩, ⟨2002, 510, some 5, none, none⟩]
    (State.chanIn 6 .run (State.heldBy 6 0 idle))

def after (s : State) : State :=
  match step s with
  | .next t => t
  | .fault _ | .refused _ => s

theorem step_after {s : State} (h : (match step s with | .next _ => true | .fault _ | .refused _ => false) = true) :
    step s = .next (after s) := by
  unfold after
  revert h
  cases step s <;> simp

theorem forall_some {α : Type} {P : α → Prop} [DecidablePred P] {o : Option α} (h : o.all (fun a => decide (P a)) = true) :
    ∀ a, o = some a → P a := by
  intro a e
  subst e
  simpa using h

theorem limitsOk_of {s : State} (h : ∀ c, s.valuesOk c (s.env c).guarded ∧ (s.env c).proposal.all (fun x =>
    decide (s.valuesOk c x.values ∧ x.proposer ≠ s.safetyPort)) = true) : s.limitsOk :=
  fun _ c => ⟨(h c).1, forall_some (h c).2⟩

/-- Table 4-6: one loop run of channel 6, and the scaled target and request of the run after it. -/
theorem test_loop_example :
    let s := State.onEng 6 (fun e => { e with
        state := .run, timer := none, active := ⟨1200, 0, 0, 0⟩, idMeas := (measured (-1000) 500 16384).1
        iqMeas := (measured (-1000) 500 16384).2, integQ := 30 * 65536, lastDraw := 80 })
      (State.onEnv 6 (fun e => { e with guarded := { e.guarded with peak := 2000, continuous := 800 } })
        { run with allot := { run.allot with grant := vset run.allot.grant 6 300 } })
    ((s.eng 6).idMeas, (s.eng 6).iqMeas) = (0, 1000) ∧ s.heatOf 6 = 294 ∧
      loopRun 6 16384 false s = ⟨false, false, false, 0, 1974272, ⟨29959, 35576, 35576⟩, 85, 85⟩ ∧
      grantTarget 1200 60 85 = (847, true) ∧ requestOf 85 85 1200 847 true = 120 := by decide +kernel

/-- Table 5-7: the grants of channels 6, 0 and 7 by budget and requests. -/
theorem test_grants_table :
    (([(6000, 600, 1500, 4000), (4500, 600, 1500, 4000), (3000, 600, 1500, 4000), (3000, 600, 1500, 3852),
        (3000, 200, 1500, 3852), (1000, 200, 1500, 3852), (6000, 200, 1500, 3852), (6000, 0, 1500, 3852)] :
          List (Nat × Nat × Nat × Nat)).map fun x =>
      let g := grantsOf konst x.1 #v[x.2.2.1, 0, 0, 0, 0, 0, x.2.1, x.2.2.2]
      (vget g 6, vget g 0, vget g 7)) =
    [(600, 1500, 3900), (600, 1400, 2500), (600, 1000, 1400), (600, 1000, 1400), (200, 1000, 1800), (200, 800, 0),
      (200, 1500, 3852), (0, 1500, 3852)] := by decide +kernel

/-- Every condition of a safe state holds in the driving state these tests start from, so a step from it is a case of
each statement about every step. -/
theorem test_run_is_safe : run.phaseOk ∧ run.gatesOk ∧ run.grantsOk ∧ run.queuesOk ∧ run.waitingOk ∧
    run.reactionsOk ∧ run.takingOk ∧ run.drivingOk ∧ run.demandsOk ∧ run.portsOk ∧ run.limitsOk := by
  refine ⟨by decide +kernel, by decide +kernel, by decide +kernel, by decide +kernel, by decide +kernel,
    ⟨by decide +kernel, by decide +kernel, forall_some (by decide), forall_some (by decide)⟩, by decide +kernel,
    by decide +kernel, by decide +kernel, by decide +kernel, limitsOk_of (by decide +kernel)⟩

theorem test_run_steps : ∃ t, step (run.withQueue [.periodStart [.engine 6] []]) = .next t ∧ t.period = 2001 ∧
    (t.eng 6).active = ⟨500, 0, 0, 0⟩ ∧ (t.queue 6).entries = [⟨2002, 510, some 5, none, none⟩] ∧
    (t.queue 6).lastApplied = some 2001 :=
  ⟨_, step_after (by decide +kernel), by decide +kernel⟩

/-- FREEZE in CONFIG by the safety port, then the phase and the subscriptions (11, R184). -/
theorem test_freeze : ∃ t, step ((State.ask 3 4 [] fresh).withQueue [.freeze 3]) = .next t ∧ t.phase = .operating ∧
    (t.env 0).guarded = ⟨5000, 2000, 60, 200, 500⟩ ∧ (t.port 1).subscribed = broadcastKinds ∧
    (t.port 3).sending = some ⟨answerFrame 7 0 false [], false⟩ :=
  ⟨_, step_after (by decide +kernel), by decide +kernel⟩

/-! ### What the statements assume, met: the machine and its shared operations -/

theorem test_meets_StepRunsFrontCommand :
    (idle.withQueue [.chargeTimerExpiry]).pending = [.chargeTimerExpiry] ∧ idle.pending = [] := by decide

theorem test_meets_ResetsLeaveEveryBlockFresh :
    ({ idle with resetting := .due } : State).resetting = .due ∧ idle.resetting ≠ .due ∧ idle.pending = [] := by decide

theorem test_meets_MoveFollowsItsGroup :
    (∀ l ∈ [0, 6], run.consts.isFollower l = false) ∧ ((run.eng 6).state.running = true ∧ ChState.running .holding = false) ∧
    (∀ c ∈ run.group 6, (run.eng c).gateEnable = run.gateIn .holding c) ∧
    (∃ c ∈ run.group 6, (run.eng c).gateEnable ≠ run.gateIn .off c) ∧
    ∃ c ∈ run.group 0, (run.eng c).gateEnable ≠ run.gateIn .releasing c := by
  repeat' apply And.intro
  all_goals decide +kernel

theorem test_meets_ChangeOfHolderIsOneAction :
    ((some 1 : Option Port) ≠ none) ∧ (idle.eng 6).state.running = false ∧ (run.eng 6).state.running = true := by
  repeat' apply And.intro
  all_goals decide +kernel

/-- BRAKE_FAULT masked before a STARVED that is not, in taking order. -/
def pends : State :=
  State.onReact (fun r => { r with
    pendingSet := [⟨.portSilent, .port 1, 5, 1, none⟩, ⟨.brakeFault, .channel 0, 7, 1, none⟩]
    mask := { r.mask with portSilent := true } }) idle

theorem test_meets_TakingTakesInOrderUntilNothingIsTakeable :
    (State.onReact (fun r => { r with inService := some ⟨.linkLow, .link, 5, 5⟩ }) idle).react.inService.isSome = true ∧
    (∀ x ∈ idle.react.pendingSet, idle.takeable x = false) ∧
    pends.react.inService = none ∧
    pends.react.pendingSet = [⟨.portSilent, .port 1, 5, 1, none⟩] ++ ⟨.brakeFault, .channel 0, 7, 1, none⟩ :: [] ∧
    (∀ y ∈ [(⟨.portSilent, .port 1, 5, 1, none⟩ : PendingEntry)], pends.takeable y = false) ∧
    pends.takeable ⟨.brakeFault, .channel 0, 7, 1, none⟩ = true ∧
    (∀ x ∈ [(FaultKind.portSilent, Scope.port 3), (.starved, .channel 7), (.brakeFault, .channel 0), (.thermal, .channel 6)],
      scopeFits x.1 x.2 = true ∧ x.1.ordinary = true ∧ idle.takeable ⟨x.1, x.2, 2000, 1, none⟩ = true) ∧
    idle.react.pendingSet = [] ∧ pends.takeable ⟨.portSilent, .port 3, 2000, 1, none⟩ = false ∧
    (∀ z ∈ pends.react.pendingSet.take 1, keyOrder z.kind z.scope < keyOrder .starved (.channel 7)) ∧
    (∀ z ∈ pends.react.pendingSet.drop 1, keyOrder .starved (.channel 7) < keyOrder z.kind z.scope) ∧
    (insertPending ⟨.starved, .channel 7, 9, 1, some 12⟩ [⟨.starved, .channel 7, 5, 255, some 11⟩] =
        [⟨.starved, .channel 7, 5, 255, some 12⟩] ∧
      insertPending ⟨.starved, .channel 7, 9, 1, some 12⟩ [⟨.starved, .channel 7, 5, 254, some 11⟩] =
        [⟨.starved, .channel 7, 5, 255, some 12⟩]) ∧
    (FaultKind.ordinary .safeStop = false ∧ FaultKind.ordinary .portSilent = true ∧ FaultKind.ordinary .thermal = true) ∧
    ((idle.auRec 6).holder = none ∧ idle.lead 6 = 6) ∧ some 11 ≠ some (run.auRec 6).epoch ∧
    ((run.auRec 6).holder = some 0 ∧ some 12 = some (run.auRec 6).epoch ∧ (run.auRec 6).waiting = []) ∧
    ((State.onAuth 6 (fun r => { r with waiting := [⟨2, 4⟩] }) run).auRec 6).waiting = ⟨2, 4⟩ :: [] ∧
    (run.served 1 = false ∧ run.served 6 = true ∧ (run.auRec 6).holder ≠ some 1) ∧
    ((State.onEnv 6 (fun e => { e with proposal := some ⟨0, e.guarded, 1, 5⟩ }) idle).env 6).proposal =
      some ⟨0, (idle.env 6).guarded, 1, 5⟩ := by
  repeat' apply And.intro
  all_goals decide +kernel

theorem test_meets_LinkChangeMovesGatesAndBudget :
    idle.phase = .operating ∧ (idle.port 0).subscribes .linkState = true ∧ idle.link.supply.isSome = true ∧
    (idle.consts.isFollower 0 = false ∧ 1 ∈ idle.group 0 ∧ idle.consts.isFollower 7 = false ∧ 7 ∈ idle.group 7) := by
  repeat' apply And.intro
  all_goals decide +kernel

theorem test_meets_LinkFaultDrainsAndTrips :
    (∀ k ∈ [FaultKind.supplyLost, .linkLow, .linkHigh, .chargeFail, .wakeFail], k.isLink = true) ∧
    (State.linkIn .draining idle).link.state = .draining ∧ (State.linkIn .draining idle).phase = .operating ∧
    run.phase = .operating ∧ run.link.state = .ready ∧ run.served 6 = true ∧ (run.eng 6).state.driving = true ∧
    run.react.inService = none ∧ run.react.pendingSet = [] ∧
    (let s := State.linkIn .draining pends;
      s.link.state ≠ .discharged ∧ s.react.inService = none ∧ ∀ x ∈ s.react.pendingSet, x.kind.isLink = false) ∧
    (let s := State.serving .safeStop .all pends;
      s.react.inService = some ⟨.safeStop, .all, 5, 5⟩ ∧ (∀ x ∈ s.react.pendingSet, x.kind.isLink = false) ∧
      s.react.held = none ∧ (State.onReact (fun r => { r with held := some ⟨6, 2⟩ }) s).react.held = some ⟨6, 2⟩) ∧
    ((State.serving .linkLow .link pends).react.inService = some ⟨.linkLow, .link, 5, 5⟩ ∧
      FaultKind.linkLow ≠ .safeStop) := by
  repeat' apply And.intro
  all_goals decide +kernel

/-- A link fault overtakes the SAFE_STOP reaction in service: it ends as OVERTAKEN, its held repeat joins the pending
set, and the link reaction is in service (07, R143). -/
theorem test_link_fault_overtakes :
    let s := State.onReact (fun r => { r with held := some ⟨6, 2⟩ })
      (State.serving .safeStop .all (State.linkIn .draining idle))
    let t := reportLink .linkLow s
    t.react.inService = some ⟨.linkLow, .link, 2000, 2000⟩ ∧
      t.react.lastEnded = some ⟨.safeStop, .all, .overtaken, 2000⟩ ∧ t.react.held = none ∧
      t.react.pendingSet = [⟨.safeStop, .all, 6, 2, none⟩] := by
  repeat' apply And.intro
  all_goals decide +kernel

theorem test_meets_SafeStopEndsEveryDrivingChannel :
    run.served 6 = true ∧ (run.eng 6).state.stoppable = true ∧ run.consts.category = .ramped ∧
    ({ run with consts := { konst with category := .immediate } } : State).consts.category = .immediate ∧
    (run.eng 0).state.stoppable = false ∧ run.react.inService = none ∧ run.react.pendingSet = [] ∧
    run.react.held = none ∧ (detectSafeStop run).1.noneStopping = false ∧ (detectSafeStop idle).1.noneStopping = true ∧
    (pends.react.inService = none ∧ pends.react.held = none ∧ ∀ x ∈ pends.react.pendingSet, x.kind.ordinary = true) ∧
    ((State.serving .safeStop .all run).react.inService = some ⟨.safeStop, .all, 5, 5⟩ ∧
      (State.serving .safeStop .all run).react.held = none ∧
      (State.onReact (fun r => { r with held := some ⟨6, 255⟩ }) (State.serving .safeStop .all run)).react.held =
        some ⟨6, 255⟩) ∧
    (State.serving .linkLow .link run).react.inService = some ⟨.linkLow, .link, 5, 5⟩ ∧
    FaultKind.linkLow ≠ .safeStop := by
  repeat' apply And.intro
  all_goals decide +kernel

/-! ### The clock -/

/-- Channel 6 in a state with the count, the sample flags and the miss count given. -/
def engineIn (x : ChState) (timer : Nat) (taken ever : Bool) (miss : Nat) : State :=
  State.onEng 6 (fun e => { e with
    state := x, timer := some timer, sampleTaken := taken, sampleEver := ever, miss := miss, gateEnable := x.driving }) run

/-- Channel 6 in RUN with its head stamped 2000, the period in progress, and a handover at its deadline. -/
def deadline : State :=
  State.onEntries 6 [⟨2000, 500, none, none, none⟩]
    (State.onAuth 6 (fun r => { r with handover := some ⟨some 1, 0, 0⟩ }) run)

theorem test_meets_PeriodStartAdvancesTheCount :
    periodOrderOk [.engine 6] [.lock 0] = true ∧ fresh.phase = .config ∧ idle.phase = .operating ∧ idle.started = true ∧
    ({ idle with started := false } : State).started = false ∧ (run.served 0 = true ∧ run.group 0 = [0, 1]) ∧
    (∀ n ∈ [0, 1], ((engineIn .ramping n true true 0).eng 6).timer = some n ∧
      ((engineIn .ramping n true true 0).eng 6).sampleTaken = true) ∧
    (vget idle.react.untilTake 6 = false ∧
      vget (State.onReact (fun r => { r with untilTake := vset r.untilTake 6 true }) idle).react.untilTake 6 = true) ∧
    (∀ x ∈ [LinkState.charging, .settling, .waking], (State.linkIn x idle).link.state = x) ∧
    ((idle.eng 6).state.running = false ∧ (run.auRec 6).handover = none ∧
      (run.queue 6).entries.head? = some ⟨2001, 500, none, none, none⟩ ∧ (2001 : W32) ≠ run.period) ∧
    ((deadline.eng 6).state.running = true ∧ (deadline.auRec 6).handover = some ⟨some 1, 0, 0⟩ ∧
      (deadline.queue 6).entries.head? = some ⟨2000, 500, none, none, none⟩ ∧ (2000 : W32) = deadline.period) ∧
    (∀ n ∈ [0, 1, 2], ((engineIn .run 0 false true n).eng 6).sampleTaken = false ∧
      ((engineIn .run 0 false true n).eng 6).miss = n) ∧
    ((engineIn .run 0 true false 0).eng 6).sampleEver = false ∧ ((engineIn .run 0 true true 0).eng 6).sampleEver = true ∧
    ((engineIn .run 0 true true 0).eng 6).gateEnable = true ∧ ((engineIn .off 0 true true 0).eng 6).gateEnable = false := by
  repeat' apply And.intro
  all_goals decide +kernel

/-- A demand held before any take is the zero demand and carries the id target, and the ramp starts from it (01, R12). -/
theorem test_ramp_before_any_take :
    let s := toHolding 6 (toReleasing 6 (toOff 6
      (State.onEng 6 (fun e => { e with active := ⟨800, -200, 0, 0⟩, idTarget := -200 }) run)))
    (s.eng 6).active = ⟨0, -200, 0, 0⟩ ∧ ((toRamping 6 s).eng 6).rampStart = ⟨0, -200, 0, 0⟩ := by
  repeat' apply And.intro
  all_goals decide +kernel

/-- The deadline of a handover and a take at one period start: whichever is first, the entry is taken; deadline first,
STARVED then revokes the holder (02, R43, R44). -/
theorem test_deadline_and_take :
    let s := State.onAuth 6 (fun r => { r with handover := some ⟨some 1, 0, 1⟩ }) run
    let a := after (s.withQueue [.periodStart [.handover 6, .engine 6] []])
    let b := after (s.withQueue [.periodStart [.engine 6, .handover 6] []])
    ((a.queue 6).lastApplied = some 2001 ∧ (a.eng 6).active = ⟨500, 0, 0, 0⟩ ∧ (a.auRec 6).holder = none ∧
      (a.eng 6).state = .holding ∧ a.react.untilTake = Vector.replicate 8 false) ∧
    (b.queue 6).lastApplied = some 2001 ∧ (b.auRec 6).holder = some 0 ∧ (b.auRec 6).handover = none ∧
      (b.eng 6).state = .run := by
  repeat' apply And.intro
  all_goals decide +kernel

/-- A pacing timer and a lock at one period start: the frame formed at the timer's expiry carries the kinds handed
before it, and no later one (10, R178). -/
theorem test_pacing_expiry_forms_its_frame :
    let s := State.onPort 0 (fun b => { b with
        pacing := some 1, summary := NoticeKind.fault.bit, sending := some ⟨[1], false⟩ })
      (State.onAuth 6 (fun r => { r with lock := some 1 }) (State.heldBy 6 0 idle))
    let a := after (s.withQueue [.periodStart [.pacing 0, .lock 6] []])
    let b := after (s.withQueue [.periodStart [.lock 6, .pacing 0] []])
    ((a.port 0).notice = some ⟨noticeFrame NoticeKind.fault.bit 2001, false⟩ ∧
      (a.port 0).summary = NoticeKind.lockExpired.bit) ∧
    (b.port 0).notice = some ⟨noticeFrame (NoticeKind.fault.bit ||| NoticeKind.lockExpired.bit) 2001, false⟩ ∧
      (b.port 0).summary = 0 := by
  repeat' apply And.intro
  all_goals decide +kernel

/-- A STARVED that an open handover holds back waits behind the SAFE_STOP whose assertion ends the handover (07, R137,
R141). -/
theorem test_safe_stop_ahead_of_deferred :
    let s := State.onReact (fun r => { r with pendingSet := [⟨.starved, .channel 6, 1990, 1, some 12⟩] })
      (State.onAuth 6 (fun r => { r with handover := some ⟨some 1, 0, 5⟩ }) run)
    let u := (detectSafeStop s).1
    s.takeable ⟨.starved, .channel 6, 1990, 1, some 12⟩ = false ∧
      u.react.inService = some ⟨.safeStop, .all, 2000, 2000⟩ ∧
      u.react.pendingSet = [⟨.starved, .channel 6, 1990, 1, some 12⟩] ∧ (u.auRec 6).holder = some 0 := by
  repeat' apply And.intro
  all_goals decide +kernel

/-- Channel 6 in a state at period 2001, its head stamped 2001, with five entries. -/
def takes (x : ChState) : State :=
  { State.onEntries 6 ((List.range 5).map fun k => ⟨BitVec.ofNat 32 (2001 + k), 500, none, none, none⟩)
      (State.chanIn 6 x (State.heldBy 6 0 idle)) with period := 2001 }

/-- Channel 6 in RUN with an empty queue and a gap count. -/
def gapped (gap : Nat) (starved : Bool) : State :=
  let s := State.onEntries 6 [] (takes .run)
  { s with queues := vset s.queues 6 { s.queue 6 with gap := gap, starved := starved } }

theorem test_meets_PeriodStartExaminesTheQueue :
    (∀ x ∈ [ChState.releasing, .run], ((takes x).eng 6).state.running = true) ∧
    ((takes .run).queue 6).entries = ⟨2001, 500, none, none, none⟩ :: ((takes .run).queue 6).entries.tail ∧
    (2001 : W32) = (takes .run).period ∧
    ((takes .run).auRec 6).holder = some 0 ∧ ((takes .run).env 6).opens.lowWater = 4 ∧
    ((takes .run).queue 6).entries.tail.length = 4 ∧
    (∀ n ∈ [6, 7], ((gapped n false).eng 6).state.running = true ∧ ((gapped n false).queue 6).entries.head? = none ∧
      ((gapped n false).auRec 6).handover = none) ∧
    6 + 1 < ((gapped 6 false).env 6).opens.starve ∧ ((gapped 7 false).queue 6).starved = false ∧
    ((gapped 7 false).env 6).opens.starve ≤ 7 + 1 ∧ ((gapped 65535 true).queue 6).starved = true ∧
    (((State.onAuth 6 (fun r => { r with handover := some ⟨none, 0, 3⟩ }) (gapped 7 false)).auRec 6).handover ≠ none) ∧
    ((takes .off).eng 6).state = .off ∧
    ∀ x ∈ [ChState.holding, .ramping, .stopping, .tripped], ((takes x).eng 6).state = x := by
  repeat' apply And.intro
  all_goals decide +kernel

theorem test_meets_RampsFallToZeroAndEndInOff :
    (0 < 80 ∧ 80 ≤ 80) ∧
    (∀ x ∈ [ChState.ramping, .stopping], (State.chanIn 6 x idle).served 6 = true ∧
      ((State.chanIn 6 x idle).eng 6).timer = some 0 ∧ ((State.chanIn 6 x idle).queue 6).entries = [] ∧
      ((State.chanIn 6 x idle).eng 6).state = x) ∧
    ∀ x ∈ [ChState.ramping, .stopping], ((engineIn x 1 true true 0).eng 6).timer = some 1 ∧
      ((engineIn x 1 true true 0).eng 6).state = x := by
  repeat' apply And.intro
  all_goals decide +kernel

/-- Channel `c` in a state as its timer expires, its brake feedback as given for the bound inputs 1 (channel 6) and 2
(channel 0). -/
def braked (c : Chan) (x : ChState) (b : Bool) : State :=
  State.onEng c (fun e => { e with feedback := Vector.replicate 16 b }) (State.chanIn c x idle)

theorem test_meets_BrakeTimerExpiryEndsReleasingAndHolding :
    (∀ c ∈ [0, 6, 7], ∀ x ∈ [ChState.releasing, .holding], ∀ b ∈ [true, false],
      (braked c x b).served c = true ∧ ((braked c x b).eng c).state = x ∧ ((braked c x b).eng c).timer = some 0 ∧
      ((braked c x b).eng c).holdFault = false) ∧
    (∀ d ∈ (braked 6 .releasing true).group 6, (braked 6 .releasing true).feedback d ≠ .engaged) ∧
    (∀ d ∈ (braked 7 .releasing true).group 7, (braked 7 .releasing true).feedback d = .unbound) ∧
    (∃ d ∈ (braked 0 .releasing false).group 0, (braked 0 .releasing false).feedback d = .engaged) ∧
    (∀ d ∈ (braked 6 .holding false).group 6, (braked 6 .holding false).feedback d ≠ .released) ∧
    (∃ d ∈ (braked 0 .holding true).group 0, (braked 0 .holding true).feedback d = .released) ∧
    (∀ d ∈ (braked 6 .releasing true).group 6, (braked 6 .releasing true).feedback d = .released) ∧
    (∀ d ∈ (braked 6 .holding false).group 6, (braked 6 .holding false).feedback d = .engaged) ∧
    (∀ x ∈ [ChState.releasing, .holding], ((engineIn x 1 true true 0).eng 6).timer ≠ some 0 ∧
      ((engineIn x 1 true true 0).eng 6).state = x) ∧
    (∃ d ∈ (engineIn .releasing 1 true true 0).group 6, (engineIn .releasing 1 true true 0).feedback d ≠ .released) ∧
    (∃ d ∈ (braked 0 .holding true).group 0, (braked 0 .holding true).feedback d ≠ .engaged) ∧
    ((State.onEng 6 (fun e => { e with holdFault := true }) (braked 6 .holding true)).eng 6).holdFault = true := by
  repeat' apply And.intro
  all_goals decide +kernel

/-- Channel 6 held by P0 (rank 8) under a lock that expires, with P1 (rank 10) or P2 (rank 4) waiting. -/
def locked (p : Port) : State :=
  State.onAuth 6 (fun r => { r with lock := some 0, waiting := [⟨p, idle.rank p⟩] }) (State.heldBy 6 0 idle)

theorem test_meets_LocksDeadlinesAndLinkTimersExpire :
    (∀ p ∈ [1, 2], ((locked p).auRec 6).lock = some 0 ∧ ((locked p).auRec 6).holder = some 0 ∧
      ((locked p).auRec 6).holderRank = some 8) ∧
    ((locked 2).auRec 6).waiting.head? = some ⟨2, 4⟩ ∧ 4 ≤ 8 ∧ ((locked 1).auRec 6).waiting = ⟨1, 10⟩ :: [] ∧ 8 < 10 ∧
    ((State.onAuth 6 (fun r => { r with handover := some ⟨some 1, 0, 0⟩ }) run).auRec 6).handover = some ⟨some 1, 0, 0⟩ ∧
    ((State.onEnv 6 (fun e => { e with proposal := some ⟨0, e.guarded, 1, 0⟩ }) idle).env 6).proposal =
      some ⟨0, (idle.env 6).guarded, 1, 0⟩ ∧
    ∀ x ∈ [LinkState.charging, .settling, .waking],
      (State.linkIn x idle).link.timer = some 0 ∧ (State.linkIn x idle).link.state = x := by
  repeat' apply And.intro
  all_goals decide +kernel

theorem test_meets_PortTimersExpire :
    let s := State.onPort 0 (fun b => { b with silence := some 0, pacing := some 0, summary := NoticeKind.fault.bit }) idle
    (s.port 0).link = .up ∧ (s.port 0).silence = some 0 ∧ (s.port 0).pacing = some 0 ∧ (s.port 0).summary ≠ 0 ∧
      (s.port 0).notice = none := by
  repeat' apply And.intro
  all_goals decide +kernel

/-! ### Records, frames and pins -/

/-- A sample for the period in progress: ia −1000, ib 500, a quarter revolution, all flags clear. -/
def sample : SampleData := ⟨2000, -1000, 500, 16384, false, false, false⟩

theorem test_meets_ValidFramesAndRecordsReadBack :
    parseFrame (requestFrame ⟨7, 255, List.replicate 50 0xA5⟩) = some ⟨7, 255, List.replicate 50 0xA5⟩ ∧
    parseFrame (requestFrame ⟨7, 38, List.replicate 118 0xA5⟩) = none ∧
    parseSample (sampleBytes sample) = some sample ∧
    parseSample (sampleBytes ⟨65535, -32768, 32767, 65535, true, true, true⟩) =
      some ⟨65535, -32768, 32767, 65535, true, true, true⟩ ∧
    parseSupply (supplyBytes ⟨9, 65535, 32767, true⟩) = some ⟨9, 65535, 32767, true⟩ ∧
    parseSupply (supplyBytes ⟨9, 65535, 32768, true⟩) = none := by
  repeat' apply And.intro
  all_goals decide +kernel

theorem test_meets_SamplesOfAnIdleChannel :
    (∀ d, parseSample (sampleBytes { sample with stamp := 1999 }) = some d →
      idle.phase = .config ∨ idle.started = false ∨ idle.present 6 = false ∨ d.stamp ≠ idle.period.setWidth 16 ∨
        (idle.eng 6).sampleTaken = true) ∧
    (parseSample (sampleBytes sample) = some sample ∧ idle.goodSample 6 sample = true ∧ (idle.eng 6).gateEnable = false ∧
      largestPhase (-1000) 500 ≤ tripLevel (vget idle.consts.ceiling 6) ∧ sample.desat = false ∧
      sample.overtemp = false ∧ sample.ready = (idle.eng 6).moduleReady ∧ measured (-1000) 500 16384 = (0, 1000) ∧
      heatNext (idle.eng 6).heat 0 1000 (idle.env (idle.lead 6)).guarded.continuous
        (Config.periodHalfMicros idle.consts.periodCode) = 0 ∧
      heatAbove 0 (idle.env (idle.lead 6)).guarded.continuous (idle.env (idle.lead 6)).guarded.tau = false ∧
      heatBelowHalf 0 (idle.env (idle.lead 6)).guarded.continuous (idle.env (idle.lead 6)).guarded.tau = true) ∧
    (idle.eng 6).derate = false ∧ ((State.onEng 6 (fun e => { e with derate := true }) idle).eng 6).derate = true ∧
    ((State.chanIn 6 .tripped idle).chState 6 = .tripped ∧
      (State.chanIn 6 .tripped idle).goodSample 6 { sample with desat := true } = true ∧
      ((State.chanIn 6 .tripped idle).eng 6).gateEnable = false) ∧
    (let s := { State.linkIn .waking idle with
        link := { (State.linkIn .waking idle).link with ready := vset (Vector.replicate 8 true) 6 false } };
      s.link.state = .waking ∧ s.goodSample 6 { sample with ready := true } = true ∧ true ≠ (s.eng 6).moduleReady ∧
      (∀ e, s.present e = true → vget (vset s.link.ready 6 true) e = true) ∧
      ∃ e, s.present e = true ∧ vget s.link.ready e = false) := by
  refine ⟨?_, by decide +kernel⟩
  rw [show parseSample (sampleBytes { sample with stamp := 1999 }) = some { sample with stamp := 1999 } by decide +kernel]
  exact forall_some (by decide +kernel)

/-- Channel 6 in RUN with its accumulator above the threshold, 24,000 A²s for 20 A and 60 s, and the indication clear. -/
def hot : State := State.onEng 6 (fun e => { e with heat := 24001 * 65536 }) run

theorem test_meets_GoodSampleRunsTheLoop :
    parseSample (sampleBytes sample) = some sample ∧ run.goodSample 6 sample = true ∧ (run.eng 6).gateEnable = true ∧
    largestPhase (-1000) 500 ≤ tripLevel (vget run.consts.ceiling 6) ∧ sample.desat = false ∧ sample.overtemp = false ∧
    sample.ready = (run.eng 6).moduleReady ∧ measured (-1000) 500 16384 = (0, 1000) ∧
    heatNext (run.eng 6).heat 0 1000 (run.env (run.lead 6)).guarded.continuous
      (Config.periodHalfMicros run.consts.periodCode) = 0 ∧
    heatAbove 0 (run.env (run.lead 6)).guarded.continuous (run.env (run.lead 6)).guarded.tau = false ∧
    (hot.goodSample 6 sample = true ∧ (hot.eng 6).thermalInd = false ∧ sample.ready = (hot.eng 6).moduleReady ∧
      heatAbove (heatNext (hot.eng 6).heat 0 1000 (hot.env (hot.lead 6)).guarded.continuous
          (Config.periodHalfMicros hot.consts.periodCode))
        (hot.env (hot.lead 6)).guarded.continuous (hot.env (hot.lead 6)).guarded.tau = true) ∧
    (hot.react.inService = none ∧ hot.react.pendingSet = [] ∧ hot.react.mask.thermal = false ∧
      hot.handoverHolds (hot.lead 6) = false ∧
      (State.onReact (fun r => { r with mask := { r.mask with thermal := true } }) hot).react.mask.thermal = true) := by
  repeat' apply And.intro
  all_goals decide +kernel

/-- A THERMAL that a handover holds back is freed by the trip of the channel's own sample: the mark it sets is not the one
the sample found, and stays set although the accumulator is below half the threshold (04, R81, R89; 07, R149). A mark
the sample found is cleared. -/
theorem test_late_mark_outlives_its_sample :
    let s := State.onReact (fun r => { r with pendingSet := [⟨.thermal, .channel 6, 1990, 1, none⟩] })
      (State.onAuth 6 (fun r => { r with handover := some ⟨some 1, 0, 5⟩ }) run)
    let t := receiveSample 6 (sampleBytes { sample with desat := true }) s
    let u := receiveSample 6 (sampleBytes { sample with desat := true }) (State.onEng 6 (fun e => { e with derate := true }) run)
    (s.takeable ⟨.thermal, .channel 6, 1990, 1, none⟩ = false ∧ (t.eng 6).state = .tripped ∧ t.react.pendingSet = [] ∧
      (t.eng 6).heat = 0 ∧ (t.eng 6).derate = true) ∧ (u.eng 6).state = .tripped ∧ (u.eng 6).derate = false := by
  repeat' apply And.intro
  all_goals decide +kernel

theorem test_meets_LoopQuantitiesStayInRange :
    (peakTargets 2000 0 1200).limited = false ∧ (peakTargets 2000 3000 1200).limited = true ∧
    (grantTarget 1200 300 80).2 = false ∧ (grantTarget 1200 0 85).2 = true ∧ (grantTarget 1200 85 85).2 = false ∧
    voltOver 5600 0 0 = false ∧ voltOver 0 1 0 = true ∧ (konst.isFollower 1 = true ∧ konst.isLeader 0 = true ∧
      konst.isFollower 0 = false ∧ konst.isFollower 6 = false ∧ konst.isLeader 6 = false) := by
  repeat' apply And.intro
  all_goals decide +kernel

/-- A sample one count above the trip level of channel 6. -/
def excess : SampleData := ⟨2000, 25001, 0, 0, false, false, false⟩

theorem test_meets_OvercurrentTripsTheGroup :
    parseSample (sampleBytes excess) = some excess ∧ run.goodSample 6 excess = true ∧
    tripLevel (vget run.consts.ceiling 6) < largestPhase 25001 0 ∧ run.chState 6 ≠ .tripped ∧
    run.react.pendingSet = [] ∧ run.chState 6 ≠ .stopping ∧
    (idle.goodSample 1 excess = true ∧ idle.lead 1 = 0 ∧ idle.chState 1 ≠ .tripped) ∧
    (run.goodSample 6 { sample with desat := true, overtemp := true } = true ∧
      largestPhase (-1000) 500 ≤ tripLevel (vget run.consts.ceiling 6)) ∧
    (State.chanIn 6 .tripped idle).chState 6 = .tripped ∧ (run.port 0).subscribes .fault = true := by
  repeat' apply And.intro
  all_goals decide +kernel

/-- A supply record of a voltage. -/
def supplyAt (v : Nat) : SupplyData := ⟨2001, v, 4500, false⟩

theorem test_meets_SupplyRecordsAreTakenOrFault :
    (∀ d, parseSupply [] = some d → ∃ b, idle.link.supply = some b ∧ b.stamp = d.stamp) ∧
    (∀ v ∈ [499, 500, 3999, 4000, 4999, 5000, 8000, 8001],
      parseSupply (supplyBytes (supplyAt v)) = some (supplyAt v)) ∧
    (∀ b, idle.link.supply = some b → b.stamp ≠ 2001) ∧ idle.phase = .operating ∧ idle.link.state = .ready ∧
    idle.consts.failLevel = 4000 ∧ idle.consts.readyLevel = 5000 ∧ idle.consts.highLevel = 8000 ∧
    idle.consts.safeLevel = 500 ∧ fresh.phase = .config ∧
    fresh.link.state = .draining ∧ fresh.link.supply = none ∧ fresh.consts.safeLevel = 500 ∧
    (∀ x ∈ [LinkState.ready, .parked, .waking, .charging, .settling, .draining, .discharged],
      (State.linkIn x idle).link.state = x) ∧
    (let s := State.onReact (fun r => { r with inService := some ⟨.linkLow, .link, 5, 5⟩ }) (State.linkIn .draining idle);
      s.react.inService = some ⟨.linkLow, .link, 5, 5⟩ ∧ FaultKind.isLink .linkLow = true ∧ s.react.pendingSet = []) ∧
    ∀ n ∈ [2, 3, 4], ({ idle.link with supplyMiss := n } : LinkBlock).supplyMiss = n ∧ idle.link.supplyTaken = false := by
  refine ⟨?_, by decide +kernel, forall_some (by decide), by decide +kernel⟩
  rw [show parseSupply [] = none from rfl]
  intro d h
  cases h

theorem test_meets_FramesAndSignalsMoveThePort :
    ((State.onPort 0 (fun b => { b with link := .down }) idle).port 0).link = .down ∧ (idle.port 0).link = .up ∧
    parseFrame [1, 2] = none ∧ parseFrame (requestFrame ⟨7, 1, []⟩) = some ⟨7, 1, []⟩ ∧
    (∀ n ∈ [3, 4], ((State.onPort 0 (fun b => { b with inbound := List.replicate n ⟨7, 1, []⟩ }) idle).port 0).inbound.length
      = n) ∧
    (vget idle.consts.silenceLimitMs 0 = 5 ∧ vget idle.consts.silenceLimitMs 2 = 0) ∧
    ((State.onPort 3 (fun b => { b with sending := some ⟨[1], true⟩ }) idle).port 3).sending = some ⟨[1], true⟩ ∧
    (3 = idle.safetyPort ∧ ({ idle with resetting := .answerWaiting } : State).resetting = .answerWaiting) := by
  repeat' apply And.intro
  all_goals decide +kernel

/-- Input `i`'s debounce count expires, from one level to the other. -/
def counting (i : Input) (level : Bool) : State :=
  { idle with inputs := vset idle.inputs i { idle.inp i with level := level, debounce := some 0 } }

theorem test_meets_PinsAreDebouncedAndDelivered :
    (fresh.phase = .config ∧ vget fresh.pins 4 ≠ true) ∧ idle.phase = .operating ∧ vget idle.pins 4 = false ∧
    vget idle.pins 4 ≠ true ∧ (idle.inputConfig 2).polarity.activeAt true = (idle.inp 2).level ∧
    (idle.inputConfig 4).polarity.activeAt true ≠ (idle.inp 4).level ∧ (idle.inputConfig 4).debounceMs ≠ 0 ∧
    (idle.inputConfig 1).polarity.activeAt true ≠ (idle.inp 1).level ∧ (idle.inputConfig 1).debounceMs = 0 ∧
    (∀ i ∈ [0, 1, 3, 4], ∀ b ∈ [true, false], (counting i b).phase = .operating ∧
      ((counting i b).inp i).debounce = some 0 ∧ ((counting i b).inp i).level = b) ∧
    (idle.inputConfig 4).binding = .none ∧ (idle.inputConfig 1).binding = .brakeFb 6 ∧
    (idle.inputConfig 0).binding = .safeStop ∧ (idle.inputConfig 3).binding = .wake := by
  repeat' apply And.intro
  all_goals decide +kernel

/-! ### Requests: what all of them share -/

theorem test_meets_OneRequestOneAnswer :
    (∀ code ∈ [0, 39, 255], (State.ask 0 code [6] idle).offers 0 7 code [6]) ∧
    Instr.request (.claim 0) = some (0, 6, fits readTagFlag) ∧ (State.ask 0 6 [6] idle).offers 0 7 6 [6] ∧
    fits readTagFlag [6] = false ∧ (∀ f, (State.ask 0 6 [6] idle).nextRequest 0 = some f → f.code ≠ 7) ∧
    idle.nextRequest 0 = none :=
  ⟨by decide +kernel, rfl, by decide +kernel, by decide, forall_some (by decide +kernel), by decide +kernel⟩

theorem test_meets_FirstChecksComeFirst :
    (fresh.phaseOk ∧ fresh.phase = .config ∧ Instr.request (.setPacing 0) = some (0, 38, fits readWord) ∧
      (State.ask 0 38 [0, 5] fresh).offers 0 7 38 [0, 5] ∧ fits readWord [0, 5] = true) ∧
    (idle.phase = .operating ∧ Instr.request (.claim 0) = some (0, 6, fits readTagFlag) ∧
      ([[1, 0], [9, 0]].all fun fs =>
        decide ((State.ask 0 6 fs idle).offers 0 7 6 fs) && fits readTagFlag fs) = true ∧
      vget idle.consts.wakePermit 0 = true ∧ vget idle.consts.wakePermit 1 = false) ∧
    (Instr.request (.queryEnvelope 1) = some (1, 26, fits readByte) ∧ (State.ask 1 26 [9] idle).offers 1 7 26 [9]) ∧
    idle.consts.lookup 9 0 = none ∧ idle.consts.lookup 1 0 = some 1 ∧ idle.consts.isFollower 1 = true :=
  ⟨⟨by decide +kernel, by decide, rfl, by decide +kernel, by decide⟩, ⟨by decide, rfl, by decide +kernel⟩,
    ⟨rfl, by decide +kernel⟩, by decide +kernel⟩

theorem test_meets_QueriesAnswerAndChangeNothing :
    (State.ask 0 1 [] idle).offers 0 7 1 [] ∧ (State.ask 3 3 [1, 3] idle).offers 3 7 3 [1, 3] ∧
    readReadConstant [1, 3] = some ⟨1, some .rank, 3, []⟩ ∧ (3 : Port) = idle.safetyPort ∧
    ConstName.indexOk .rank 3 = true ∧ idle.routes 0 6 6 ∧
    ((State.ask 0 3 [1, 3] idle).offers 0 7 3 [1, 3] ∧ (0 : Port) ≠ idle.safetyPort ∧
      readReadConstant [1, 4] = some ⟨1, some .rank, 4, []⟩ ∧ ConstName.indexOk .rank 4 = false ∧
      readReadConstant [24] = some ⟨24, none, 0, []⟩) ∧
    (∀ code ∈ [11, 16, 20, 26], (State.ask 0 code [6] idle).offers 0 7 code [6]) ∧ idle.phase = .operating ∧
    (State.ask 0 30 [] idle).offers 0 7 30 [] ∧
    ∀ code ∈ [34, 36], (State.ask 0 code [0] idle).offers 0 7 code [0] ∧
      (State.ask 0 code [255] idle).offers 0 7 code [255] := by
  repeat' apply And.intro
  all_goals decide +kernel

/-! ### Requests to the Machine Constants Store -/

/-- RESERVE of channel 7 in range, the RATING CEILING of channel 7 below and at its range's start, an index that does
not exist, a name that names nothing; the polarity and the binding of DI15; the wake permit of P0 and a route entry with
their flags set by 5, and the values that read back. -/
theorem test_meets_WriteConstantStoresOneValue :
    (∀ fs ∈ [[6, 7, 0x7F, 0xFF], [5, 7, 0, 99], [5, 7, 0, 100], [5, 8, 0, 100], [24], [19, 15, 1], [19, 15, 0],
        [22, 15, 2, 6], [22, 15, 0, 0], [22, 15, 1, 0], [22, 15, 3, 0], [2, 0, 5], [23, 31, 5, 63, 15, 7]],
      (State.ask 3 2 fs fresh).offers 3 7 2 fs ∧ (State.ask 0 2 fs fresh).offers 0 7 2 fs ∧
        (readWriteConstant fs).isSome = true) ∧
    (0 : Port) ≠ fresh.safetyPort ∧ (3 : Port) = fresh.safetyPort ∧ idle.phase = .operating ∧ fresh.phase = .config ∧
    readWriteConstant [24] = some ⟨24, none, 0, []⟩ ∧
    (readWriteConstant [5, 8, 0, 100] = some ⟨5, some .ceiling, 8, [0, 100]⟩ ∧
      (ConstName.indexOk .ceiling 8 && ConstName.fieldOk .ceiling [0, 100]) = false) ∧
    (readWriteConstant [5, 7, 0, 99] = some ⟨5, some .ceiling, 7, [0, 99]⟩ ∧
      (ConstName.indexOk .ceiling 7 && ConstName.fieldOk .ceiling [0, 99]) = true ∧
      ConstName.rangeOk .ceiling [0, 99] = false ∧ ConstName.rangeOk .ceiling [0, 100] = true) ∧
    (readWriteConstant [6, 7, 0x7F, 0xFF] = some ⟨6, some .reserve, 7, [0x7F, 0xFF]⟩ ∧
      ConstName.rangeOk .reserve [0x7F, 0xFF] = true) ∧
    (readWriteConstant [19, 15, 1] = some ⟨19, some .polarity, 15, [1]⟩ ∧ ConstName.indexOk .polarity 15 = true ∧
      ConstName.rangeOk .polarity [1] = true ∧ fresh.link.state ≠ .parked ∧
      (vget fresh.pins 15 = false ∧ (fresh.inp 15).level = false ∧ Polarity.activeAt .activeLow false = true ∧
        Polarity.activeAt .activeHigh false = false)) ∧
    (readWriteConstant [22, 15, 2, 6] = some ⟨22, some .binding, 15, [2, 6]⟩ ∧ ConstName.rangeOk .binding [2, 6] = true ∧
      (konst.write .wakePermit 0 [5]).valueBytes .wakePermit 0 = [1] ∧
      (konst.write .route 31 [5, 63, 15, 7]).valueBytes .route 31 = [1, 63, 15, 7] ∧
      (konst.write .binding 15 [2, 6]).valueBytes .binding 15 = [2, 6] ∧
      (konst.write .binding 15 [1, 6]).valueBytes .binding 15 = [1, 0] ∧
      ConstName.indexOk .rank 3 = true ∧ ConstName.rank ≠ .reserve ∧ (ConstName.copies .reserve).isSome = true ∧
      Binding.ofNat (ofBytes [2, 6]) = .brakeFb 6 ∧ Binding.ofNat (ofBytes [0, 0]) = (vget fresh.consts.inputs 15).binding) := by
  repeat' apply And.intro
  all_goals decide +kernel

/-- A polarity write turns an input that is bound to channel 6's brake active: the level follows and is delivered, with no
flag (11, R183; 08, R157, R160). -/
theorem test_polarity_write_delivers :
    let s := State.ask 3 2 [19, 1, 1] fresh
    let t := after (s.withQueue [.writeConstant 3])
    (t.inp 1).level = true ∧ (t.inp 1).flag = false ∧ vget (t.eng 6).feedback 1 = true ∧
      (vget t.consts.inputs 1).polarity = .activeLow := by
  repeat' apply And.intro
  all_goals decide +kernel

/-- Each check of Table 11-2 is the first to fail of some constants. -/
theorem test_meets_FreezeChecksAreTheTable :
    konst.freezeFault = none ∧ { konst with rank := #v[8, 8, 4, 0] }.freezeFault = some (1, 1) ∧
    { konst with order := [6, 0, 7, 1, 2] }.freezeFault = some (2, 3) ∧
    { konst with linkRating := 0 }.freezeFault = some (3, 0) ∧ { konst with linkRating := 4299 }.freezeFault = some (3, 1) ∧
    { konst with linkRating := 4300 }.freezeFault = none ∧
    { konst with tandem := #v[true, false, true] }.freezeFault = some (4, 4) ∧
    { konst with routes := vset konst.routes 4 ⟨true, 4, 1, 4⟩ }.freezeFault = some (5, 4) ∧
    (konst.setInput 0 fun c => { c with mode := .edge }).freezeFault = some (6, 0) ∧
    { konst with highLevel := 5000 }.freezeFault = some (7, 2) ∧ { konst with settleCode := 5 }.freezeFault = some (8, 0) := by
  repeat' apply And.intro
  all_goals decide +kernel

theorem test_meets_FreezeStartsThePart :
    (State.ask 0 4 [] fresh).offers 0 7 4 [] ∧ (0 : Port) ≠ fresh.safetyPort ∧
    (State.ask 3 4 [] idle).offers 3 7 4 [] ∧ idle.phase = .operating ∧ (3 : Port) = idle.safetyPort ∧
    (State.ask 3 4 [] fresh).offers 3 7 4 [] ∧ fresh.phase = .config ∧ fresh.consts.freezeFault = none ∧
    ({ fresh with consts := Constants.initial } : State).consts.freezeFault = some (3, 0) := by
  repeat' apply And.intro
  all_goals decide +kernel

theorem test_meets_ResetPartIsAnsweredFirst :
    (State.ask 0 5 [] idle).offers 0 7 5 [] ∧ (0 : Port) ≠ idle.safetyPort ∧ (State.ask 3 5 [] idle).offers 3 7 5 [] ∧
    (3 : Port) = idle.safetyPort := by
  repeat' apply And.intro
  all_goals decide +kernel

/-! ### Requests to the Authority Unit. P0 has rank 8, P1 rank 10, P2 rank 4, P3 rank 0. -/

/-- Channel 6 held by P0, with P2 waiting. -/
def waited : State := State.onAuth 6 (fun r => { r with waiting := [⟨2, 4⟩] }) (State.heldBy 6 0 idle)

theorem test_meets_ClaimsAreGrantedWaitOrAreRefused :
    (∀ p, ([[6, 0], [6, 1], [6, 255]].all fun fs => decide ((State.ask p 6 fs waited).offers p 7 6 fs)) = true ∧
      idle.routes p 6 6) ∧
    (idle.rank 0 ≠ 0 ∧ (idle.auRec 6).holder = none ∧ ∀ x ∈ (idle.auRec 6).waiting, x.port ≠ 0) ∧
    ((∀ x ∈ (waited.auRec 6).waiting, x.port ≠ 1) ∧ (waited.auRec 6).holder = some 0 ∧ (waited.auRec 6).holderRank = some 8 ∧
      8 < waited.rank 1 ∧ (waited.auRec 6).lock = none) ∧
    waited.rank 3 = 0 ∧ (waited.rank 0 ≠ 0 ∧ (waited.auRec 6).holder = some 0) ∧
    (waited.rank 2 ≠ 0 ∧ (waited.auRec 6).holder ≠ some 2 ∧ waitPosition 2 (waited.auRec 6).waiting = some 1) ∧
    ((locked 2).rank 1 ≠ 0 ∧ ((locked 2).auRec 6).holder = some 0 ∧ (0 : Port) ≠ 1 ∧
      (∀ x ∈ ((locked 2).auRec 6).waiting, x.port ≠ 1) ∧ ((locked 2).auRec 6).lock ≠ none ∧
      ((locked 2).auRec 6).waiting.Pairwise (fun x y => y.rank < x.rank) ∧
      ∀ x ∈ ((locked 2).auRec 6).waiting, x.rank ≠ (locked 2).rank 1) ∧
    ((State.heldBy 6 0 idle).rank 2 ≤ 8 ∧ ∀ x ∈ ((State.heldBy 6 0 idle).auRec 6).waiting, x.port ≠ 2) := by
  repeat' apply And.intro
  all_goals decide +kernel

theorem test_meets_ClaimsAndHoldingsAreGivenUp :
    (State.ask 2 7 [6] waited).offers 2 7 7 [6] ∧ waited.routes 2 6 6 ∧ (∃ x ∈ (waited.auRec 6).waiting, x.port = 2) ∧
    (∀ x ∈ (waited.auRec 6).waiting, x.port ≠ 1) ∧ (State.ask 0 8 [6] waited).offers 0 7 8 [6] ∧
    (waited.auRec 6).holder ≠ some 2 ∧ (waited.auRec 6).holder = some 0 ∧ (waited.auRec 6).waiting = ⟨2, 4⟩ :: [] ∧
    (run.auRec 6).holder = some 0 ∧ (run.auRec 6).waiting = [] := by
  repeat' apply And.intro
  all_goals decide +kernel

theorem test_meets_LocksAreSetAndDropped :
    ([[6, 0, 0], [6, 0, 1], [6, 0x27, 0x10], [6, 0x27, 0x11]].all fun fs =>
      decide ((State.ask 0 9 fs waited).offers 0 7 9 fs)) = true ∧
    256 * (0x27#8).toNat + (0x10#8).toNat = 10000 ∧ waited.routes 0 6 6 ∧ (waited.auRec 6).holder = some 0 ∧
    (waited.auRec 6).holder ≠ some 1 ∧ (State.ask 0 10 [6] (locked 2)).offers 0 7 10 [6] ∧
    (waited.auRec 6).lock = none ∧ ((locked 2).auRec 6).lock ≠ none ∧ ((locked 2).auRec 6).holder = some 0 ∧
    ((locked 2).auRec 6).holderRank = some 8 ∧ ((locked 2).auRec 6).waiting.head? = some ⟨2, 4⟩ ∧
    ((locked 1).auRec 6).waiting = ⟨1, 10⟩ :: [] ∧ 8 < 10 ∧ (locked 1).routes 0 6 6 := by
  repeat' apply And.intro
  all_goals decide +kernel

/-! ### Channel requests -/

/-- Channel 6 held by P0 with the link in a state. -/
def heldIn (x : LinkState) : State := State.heldBy 6 0 (State.linkIn x idle)

theorem test_meets_EngageReleasesTheBrakeOrIsRefused :
    (∀ p ∈ [0, 1], (State.ask p 12 [6] (heldIn .ready)).offers p 7 12 [6] ∧ (heldIn .ready).routes p 6 6) ∧
    ((heldIn .ready).auRec 6).holder = some 0 ∧ ((heldIn .ready).auRec 6).holder ≠ some 1 ∧
    (heldIn .ready).linkReactionInService = false ∧ (heldIn .ready).react.latch = false ∧
    ((heldIn .ready).eng 6).state = .off ∧ (∀ c ∈ (heldIn .ready).group 6, ((heldIn .ready).eng c).brakeMark = false) ∧
    (State.onReact (fun r => { r with inService := some ⟨.linkLow, .link, 5, 5⟩ }) (heldIn .ready)).linkReactionInService
      = true ∧
    (∀ x ∈ [LinkState.parked, .waking, .discharged, .charging, .settling, .draining, .ready], (heldIn x).link.state = x) ∧
    (State.onReact (fun r => { r with latch := true }) (heldIn .ready)).react.latch = true ∧
    (run.eng 6).state ≠ .off ∧
    ∃ c ∈ (heldIn .ready).group 6,
      ((State.onEng 6 (fun e => { e with brakeMark := true }) (heldIn .ready)).eng c).brakeMark = true := by
  repeat' apply And.intro
  all_goals decide +kernel

/-- Channel 6 tripped, held by P0; its module's desat flag as given. -/
def tripped (desat : Bool) : State :=
  State.onEng 6 (fun e => { e with desat := desat, trip := some ⟨.bridgeFault, 1990, 1⟩ })
    (State.chanIn 6 .tripped (State.heldBy 6 0 idle))

theorem test_meets_ChannelsAreStoppedAndRestored :
    (∀ code ∈ [13, 14, 15], ∀ p ∈ [0, 1, 3], (State.ask p code [6] run).offers p 7 code [6] ∧ run.routes p 6 6) ∧
    ((run.auRec 6).holder ≠ some 1 ∧ (1 : Port) ≠ run.safetyPort) ∧ (run.auRec 6).holder = some 0 ∧
    (3 : Port) = run.safetyPort ∧ (run.eng 6).state.running = true ∧ ((heldIn .ready).eng 6).state.running = false ∧
    (run.eng 6).state ≠ .holding ∧ ((State.chanIn 6 .holding run).eng 6).state = .holding ∧
    run.linkReactionInService = false ∧
    (State.onReact (fun r => { r with inService := some ⟨.linkLow, .link, 5, 5⟩ }) run).linkReactionInService = true ∧
    ((run.eng 6).state ≠ .tripped ∧ (run.eng 6).state ≠ .off) ∧ ((tripped true).eng 6).state = .tripped ∧
    (∃ c ∈ (tripped true).group 6, ((tripped true).eng c).desat = true ∨ ((tripped true).eng c).overtemp = true) ∧
    (∀ c ∈ (tripped false).group 6, ((tripped false).eng c).desat = false ∧ ((tripped false).eng c).overtemp = false) ∧
    ((heldIn .ready).eng 6).state = .off := by
  repeat' apply And.intro
  all_goals decide +kernel

/-! ### Requests to the Demand Unit -/

/-- A DEMAND for tag 6 of one entry, by its epoch, stamp, torque demand, split and presence byte. -/
def demandBytes (epoch : W16) (stamp : W32) (iq split : Int) (presence : Byte) : List Byte :=
  6 :: (wordBytes epoch ++ [1] ++ stampBytes stamp ++ intBytes iq ++ [0, 0] ++ intBytes split ++ [0, 0, presence])

theorem test_meets_DemandJudgesItsEntries :
    (∀ k ∈ [11, 12], ∀ p ∈ [0, 1], (State.ask p 17 (demandBytes (BitVec.ofNat 16 k) 2003 520 0 0) run).offers p 7 17
        (demandBytes (BitVec.ofNat 16 k) 2003 520 0 0) ∧
      readDemand (demandBytes (BitVec.ofNat 16 k) 2003 520 0 0) =
        some ⟨6, BitVec.ofNat 16 k, [⟨2003, 520, 0, 0, 0, 0⟩]⟩) ∧
    run.routes 0 (BitVec.ofNat 8 6) 6 ∧ run.routes 1 (BitVec.ofNat 8 6) 6 ∧
    (run.auRec 6).holder = some 0 ∧ (run.auRec 6).holder ≠ some 1 ∧
    (run.auRec 6).epoch = 12 ∧ (11 : W16) ≠ (run.auRec 6).epoch ∧
    (∀ x ∈ [ChState.holding, .ramping, .stopping, .tripped, .off, .releasing, .run],
      ((State.chanIn 6 x run).eng 6).state = x) := by
  repeat' apply And.intro
  all_goals decide +kernel

/-- Distances 0, 1, 64, 65, 2^31 − 1 and 2^31 from period 2000; fields at their ends; a queue of 16. -/
theorem test_meets_EntryOutcomesFollowTheirTests :
    ([2000, 2001, 2064, 2065, 2147485647, 2147485648] : List W32).map (fun x => (x - 2000).toNat) =
      [0, 1, 64, 65, 2147483647, 2147483648] ∧
    (((7 : Byte).toNat < 8 ∧ (32767 : Int).natAbs ≤ 32767 ∧ ((2 * 32766 + 3 : Int).tdiv 2).natAbs ≤ 32767 ∧
      ((2 * 32766 - 3 : Int).tdiv 2).natAbs ≤ 32767) ∧ ¬ (8 : Byte).toNat < 8 ∧ ¬ (-32768 : Int).natAbs ≤ 32767) ∧
    (∃ y ∈ (run.queue 6).entries, y.stamp = 2002) ∧ (∀ y ∈ (run.queue 6).entries, y.stamp ≠ 2003) ∧
    (run.queue 6).entries.length < 16 ∧ queueOrdered 2000 (run.queue 6).entries ∧
    16 ≤ ((List.range 16).map fun k => (⟨BitVec.ofNat 32 (2001 + k), 0, none, none, none⟩ : Entry)).length := by
  repeat' apply And.intro
  all_goals decide +kernel

theorem test_meets_RetractAndFlushRemoveEntries :
    (∀ k ∈ [2000, 2002, 2065], ∀ p ∈ [0, 1],
      (State.ask p 18 (6 :: (wordBytes 12 ++ stampBytes (BitVec.ofNat 32 k))) run).offers p 7 18
        (6 :: (wordBytes 12 ++ stampBytes (BitVec.ofNat 32 k))) ∧
      readRetract (6 :: (wordBytes 12 ++ stampBytes (BitVec.ofNat 32 k))) = some ⟨6, 12, BitVec.ofNat 32 k⟩) ∧
    run.routes 0 6 6 ∧ (State.ask 0 19 [6, 0, 12] run).offers 0 7 19 [6, 0, 12] ∧ (12 : W16) = 0#8 ++ 12#8 ∧
    (run.auRec 6).holder = some 0 ∧ (run.auRec 6).holder ≠ some 1 ∧ (12 : W16) = (run.auRec 6).epoch ∧
    (11 : W16) ≠ (run.auRec 6).epoch ∧ run.judgedPeriod = 2000 := by
  repeat' apply And.intro
  all_goals decide +kernel

/-! ### Requests to the Envelope Unit -/

/-- SET_OPEN of tag 6 at revision 0: kp_d 10 and starve limit 3; the same name twice; kp_d 0; an old revision. -/
theorem test_meets_SetOpenWritesAllItsValues :
    ([[6, 0, 0, 2, 0, 0, 10, 4, 3], [6, 0, 0, 2, 4, 3, 4, 3], [6, 0, 0, 1, 4, 0], [6, 0, 1, 1, 4, 3]].all fun fs =>
      decide ((State.ask 0 21 fs run).offers 0 7 21 fs)) = true ∧
    run.routes 0 (BitVec.ofNat 8 6) 6 ∧ (run.auRec 6).holder = some 0 ∧ (heldIn .ready).routes 1 (BitVec.ofNat 8 6) 6 ∧
    (run.auRec 6).holder ≠ some 1 ∧ (run.env 6).revision = 0 ∧
    (∃ f, readSetOpen [6, 0, 0, 2, 0, 0, 10, 4, 3] = some f ∧ f.tag = 6 ∧ f.revision = 0 ∧
      f.changes.malformed = false ∧ f.changes.outOfRange = none) ∧
    (∃ f, readSetOpen [6, 0, 0, 2, 4, 3, 4, 3] = some f ∧ f.tag = 6 ∧ f.revision = 0 ∧ f.changes.malformed = true) ∧
    (∃ f, readSetOpen [6, 0, 0, 1, 4, 0] = some f ∧ f.tag = 6 ∧ f.changes.malformed = false ∧
      f.changes.outOfRange = some .starve) ∧
    ∃ f, readSetOpen [6, 0, 1, 1, 4, 3] = some f ∧ f.tag = 6 ∧ f.revision ≠ 0 := by
  refine ⟨by decide +kernel, by decide +kernel, by decide +kernel, by decide +kernel, by decide +kernel,
    by decide +kernel, ⟨_, rfl, by decide +kernel⟩, ⟨_, rfl, by decide +kernel⟩, ⟨_, rfl, by decide +kernel⟩,
    ⟨_, rfl, by decide +kernel⟩⟩

/-- PROPOSE of tag 6: peak, continuous, tau 60, brake 200 ms, stop 500 ms. -/
def proposal (revision : W16) (peak continuous : Int) : List Byte :=
  6 :: (wordBytes revision ++ intBytes peak ++ intBytes continuous ++ [0, 60, 0, 200, 1, 0xF4])

/-- A proposal of P0's waits on channel 6. -/
def proposed : State :=
  State.onEnv 6 (fun e => { e with counter := 255, proposal := some ⟨0, ⟨6000, 800, 60, 200, 500⟩, 255, 80⟩ }) run

theorem test_meets_ProposeCreatesAProposal :
    (∀ p ∈ [0, 1, 3], ∀ peak ∈ [20000, 20001], (State.ask p 22 (proposal 0 peak 800) run).offers p 7 22 (proposal 0 peak 800)) ∧
    (∃ f, readPropose (proposal 0 20000 800) = some f ∧ f = ⟨6, 0, 20000, 800, 60, 200, 500⟩ ∧
      f.outOfRange (run.consts.ceilingOf 6) = none) ∧
    (∃ f, readPropose (proposal 0 20001 800) = some f ∧ f.outOfRange (run.consts.ceilingOf 6) = some 0) ∧
    (∃ f, readPropose (proposal 0 20000 20001) = some f ∧ f.outOfRange (run.consts.ceilingOf 6) = some 1) ∧
    ((⟨6, 0, 20000, 1, 0, 200, 500⟩ : ProposeFields).outOfRange 20000 = some 2 ∧
      (⟨6, 0, 20000, 1, 3601, 200, 500⟩ : ProposeFields).outOfRange 20000 = some 2 ∧
      (⟨6, 0, 20000, 1, 1, 19, 500⟩ : ProposeFields).outOfRange 20000 = some 3 ∧
      (⟨6, 0, 20000, 1, 3600, 2001, 500⟩ : ProposeFields).outOfRange 20000 = some 3 ∧
      (⟨6, 0, 20000, 1, 1, 20, 49⟩ : ProposeFields).outOfRange 20000 = some 4 ∧
      (⟨6, 0, 20000, 1, 3600, 2000, 5001⟩ : ProposeFields).outOfRange 20000 = some 4 ∧
      (⟨6, 0, 20000, 20000, 3600, 2000, 5000⟩ : ProposeFields).outOfRange 20000 = none) ∧
    (∃ f, readPropose (proposal 1 20000 800) = some f ∧ f.revision ≠ (run.env 6).revision) ∧
    run.routes 0 (BitVec.ofNat 8 6) 6 ∧ run.rank 3 = 0 ∧ run.rank 0 ≠ 0 ∧ (0 : Port) ≠ run.safetyPort ∧
    (({ run with safetyPort := 0 } : State).rank 0 ≠ 0 ∧ (0 : Port) = ({ run with safetyPort := 0 } : State).safetyPort) ∧
    (run.env 6).proposal = none ∧ (run.env 6).revision = 0 ∧ (proposed.env 6).proposal.isSome = true := by
  refine ⟨by decide +kernel, ⟨_, rfl, by decide +kernel⟩, ⟨_, rfl, by decide +kernel⟩, ⟨_, rfl, by decide +kernel⟩,
    by decide +kernel, ⟨_, rfl, by decide +kernel⟩, by decide +kernel⟩

theorem test_meets_ConfirmCommitsTheProposal :
    ([[6, 254], [6, 255]].all fun fs => decide ((State.ask 0 24 fs proposed).offers 0 7 24 fs) &&
      decide ((State.ask 3 24 fs proposed).offers 3 7 24 fs)) = true ∧ (∀ p ∈ [0, 3], proposed.routes p 6 6) ∧
    (0 : Port) ≠ proposed.safetyPort ∧ (3 : Port) = proposed.safetyPort ∧
    (proposed.env 6).proposal = some ⟨0, ⟨6000, 800, 60, 200, 500⟩, 255, 80⟩ ∧ (254#8).toNat ≠ 255 ∧ (255#8).toNat = 255 ∧
    ((run.env 6).proposal = none ∧ run.routes 3 6 6) := by
  repeat' apply And.intro
  all_goals decide +kernel

theorem test_meets_RejectEndsTheProposal :
    ([[1, 254], [9, 254], [6, 254], [6, 255]].all fun fs => decide ((State.ask 0 25 fs proposed).offers 0 7 25 fs) &&
      decide ((State.ask 3 25 fs proposed).offers 3 7 25 fs)) = true ∧
    (State.ask 3 25 [6, 1] fresh).offers 3 7 25 [6, 1] ∧ fresh.phase = .config ∧ proposed.phase = .operating ∧
    proposed.consts.lookup 9 3 = none ∧ proposed.consts.lookup 1 3 = some 1 ∧ proposed.consts.isFollower 1 = true ∧
    proposed.consts.lookup 6 3 = some 6 ∧ proposed.consts.isFollower 6 = false ∧ (0 : Port) ≠ proposed.safetyPort ∧
    (3 : Port) = proposed.safetyPort ∧ (run.env 6).proposal = none ∧
    (proposed.env 6).proposal = some ⟨0, ⟨6000, 800, 60, 200, 500⟩, 255, 80⟩ ∧ (254#8).toNat ≠ 255 ∧
    (255#8).toNat = 255 := by
  repeat' apply And.intro
  all_goals decide +kernel

theorem test_meets_CancelProposalEndsOnesOwn :
    ([[1], [6], [9]].all fun fs => decide ((State.ask 0 23 fs proposed).offers 0 7 23 fs) &&
      decide ((State.ask 1 23 fs proposed).offers 1 7 23 fs)) = true ∧
    (State.ask 0 23 [6] fresh).offers 0 7 23 [6] ∧ fresh.phase = .config ∧ proposed.phase = .operating ∧
    proposed.consts.lookup 9 0 = none ∧ proposed.consts.lookup 1 0 = some 1 ∧ proposed.consts.isFollower 1 = true ∧
    proposed.consts.lookup 6 0 = some 6 ∧ proposed.consts.isFollower 6 = false ∧
    (∀ x, (proposed.env 6).proposal = some x → x.proposer ≠ 1) ∧
    (proposed.env 6).proposal = some ⟨0, ⟨6000, 800, 60, 200, 500⟩, 255, 80⟩ ∧ (run.env 6).proposal = none := by
  refine ⟨by decide +kernel, by decide +kernel, by decide +kernel, by decide +kernel, by decide +kernel,
    by decide +kernel, by decide +kernel, by decide +kernel, by decide +kernel, forall_some (by decide +kernel),
    by decide +kernel⟩

/-! ### Requests to the Link Supervisor, the Reaction Controller, the Input Block and the Notice Unit -/

theorem test_meets_LinkRequestsMoveTheLink :
    (∀ code ∈ [27, 28, 29], ∀ p ∈ [0, 3], (State.ask p code [] idle).offers p 7 code []) ∧ idle.phase = .operating ∧
    idle.rank 3 = 0 ∧ idle.rank 0 ≠ 0 ∧ idle.linkReactionInService = false ∧
    (State.onReact (fun r => { r with inService := some ⟨.linkLow, .link, 5, 5⟩ }) idle).linkReactionInService = true ∧
    (∀ x ∈ [LinkState.discharged, .charging, .settling, .ready, .parked, .waking, .draining],
      (State.linkIn x idle).link.state = x) ∧
    (∃ c, idle.present c = true ∧ vget idle.link.ready c = false) ∧
    (let s : State := { idle with link := { idle.link with ready := Vector.replicate 8 true } }
      ∀ c, s.present c = true → vget s.link.ready c = true) ∧
    (∀ c, idle.present c = true → idle.chState c = .off ∨ idle.chState c = .tripped) ∧
    ¬ ∀ c, run.present c = true → run.chState c = .off ∨ run.chState c = .tripped := by
  repeat' apply And.intro
  all_goals decide +kernel

theorem test_meets_SafetyMastersRequests :
    (∀ code ∈ [31, 32], ∀ p ∈ [0, 3], (State.ask p code [] run).offers p 7 code []) ∧ run.phase = .operating ∧
    (0 : Port) ≠ run.safetyPort ∧ (3 : Port) = run.safetyPort ∧
    (let s := State.onReact (fun r => { r with stopLevels := vset r.stopLevels 0 true }) run
      ∃ i, (s.inputConfig i).binding = .safeStop ∧ vget s.react.stopLevels i = true) ∧
    (∀ i, (run.inputConfig i).binding = .safeStop → vget run.react.stopLevels i = false) ∧
    run.react.stopOpen = false ∧
    (State.onReact (fun r => { r with inService := some ⟨.safeStop, .all, 5, 5⟩ }) run).react.stopOpen = true ∧
    run.react.latch = false ∧ (State.onReact (fun r => { r with latch := true }) run).react.latch = true ∧
    ([[0], [2, 9, 12], [1, 8], [1, 13], [2, 9, 9]].all fun fs =>
      decide ((State.ask 3 33 fs run).offers 3 7 33 fs) && (readList fs).isSome) = true ∧
    readList [2, 9, 12] = some [9, 12] ∧ (∀ x ∈ [9, 12], 9 ≤ x ∧ x ≤ 12) ∧ [9, 12].Nodup ∧
    ((∃ x ∈ [8], x < 9 ∨ 12 < x) ∧ (∃ x ∈ [13], x < 9 ∨ 12 < x) ∧ ¬ [9, 9].Nodup) := by
  repeat' apply And.intro
  all_goals decide +kernel

/-- Inputs 0 and 5 (LEVEL) and 4 (EDGE) have their flags set, input 0 with its level active. -/
def flagged : State :=
  { idle with inputs := vset (vset (vset idle.inputs 0 { idle.inp 0 with flag := true, count := 2, level := true })
      5 { idle.inp 5 with flag := true, count := 1 }) 4 { idle.inp 4 with flag := true, count := 3, level := true } }

/-- INPUT_ACK of inputs 0, 5, 4 and 3: HELD_ACTIVE, CLEARED, CLEARED, WAS_CLEAR (08, R162). -/
theorem test_input_ack_outcomes :
    let s := State.ask 0 35 [4, 0, 5, 4, 3] flagged
    let t := after (s.withQueue [.inputAck 0])
    ((flagged.inp 0).flag = true ∧ (flagged.inputConfig 0).mode = .level ∧ (flagged.inp 0).level = true) ∧
    ((flagged.inp 5).flag = true ∧ (flagged.inputConfig 5).mode = .level ∧ (flagged.inp 5).level = false) ∧
    ((flagged.inp 4).flag = true ∧ (flagged.inputConfig 4).mode = .edge ∧ (flagged.inp 4).level = true) ∧
    readList [4, 0, 5, 4, 3] = some (([0, 5, 4, 3] : List Input).map (·.val)) ∧
    (t.port 0).sending = some ⟨answerFrame 7 0 false [4, 1, 0, 0, 2], false⟩ ∧
    ((t.inp 0).flag = true ∧ (t.inp 0).count = 2) ∧ ((t.inp 5).flag = false ∧ (t.inp 5).count = 0) ∧
    ((t.inp 4).flag = false ∧ (t.inp 4).count = 0) := by
  repeat' apply And.intro
  all_goals decide +kernel

theorem test_meets_InputAckAndSubscribe :
    ([[2, 0, 15], [0], [1, 16], [2, 3, 3]].all fun fs =>
      decide ((State.ask 0 35 fs idle).offers 0 7 35 fs) && (readList fs).isSome) = true ∧
    idle.phase = .operating ∧ idle.rank 0 ≠ 0 ∧ idle.rank 3 = 0 ∧ (State.ask 3 35 [0] idle).offers 3 7 35 [0] ∧
    readList [2, 0, 15] = some (([0, 15] : List Input).map (·.val)) ∧ (([0, 15] : List Input).map (·.val)).Nodup ∧
    readList [0] = some [] ∧ readList [1, 16] = some [16] ∧ ¬ [3, 3].Nodup ∧
    ([[2, 5, 11], [0], [1, 4], [1, 12]].all fun fs =>
      decide ((State.ask 0 37 fs idle).offers 0 7 37 fs) && (readList fs).isSome) = true ∧
    readList [2, 5, 11] = some [5, 11] ∧ (∀ x ∈ [5, 11], 5 ≤ x ∧ x ≤ 11) ∧ [5, 11].Nodup ∧
    (∃ x ∈ [4], x < 5 ∨ 11 < x) ∧ ∃ x ∈ [12], x < 5 ∨ 11 < x := by
  repeat' apply And.intro
  all_goals decide +kernel

theorem test_meets_SetPacingStoresTheInterval :
    ([((0, 0) : Byte × Byte), (0, 50), (0, 51), (255, 255)].all fun ab =>
      decide ((State.ask 0 38 [ab.1, ab.2] idle).offers 0 7 38 [ab.1, ab.2])) = true ∧
    (State.ask 0 38 [0, 5] fresh).offers 0 7 38 [0, 5] ∧ fresh.phase = .config ∧ idle.phase = .operating ∧
    256 * (0#8).toNat + (50#8).toNat = 50 ∧ (State.ask 0 38 [0, 50] idle).portsOk ∧
    (let x : PortBlock := { PortBlock.initial true with pacingMs := 50, summary := NoticeKind.fault.bit };
      x.pacingMs = 50 ∧ x.summary ≠ 0 ∧ x.pacing = none ∧ x.notice = none) := by
  repeat' apply And.intro
  all_goals decide +kernel

/-! ### What only one command does -/

/-- A command at the front of the queue of a state. -/
def front (i : Instr) (s : State) : State := s.withQueue [i]

theorem test_meets_OnlyEngageReleases :
    let s := front (.engage 0) (State.ask 0 12 [6] (heldIn .ready))
    step s = .next (after s) ∧ (s.eng 6).state ≠ .releasing ∧ ((after s).eng 6).state = .releasing :=
  ⟨step_after (by decide +kernel), by decide +kernel⟩

theorem test_meets_OnlySafeReleaseClearsTheLatch :
    let s := front (.safeRelease 3) (State.ask 3 32 [] (State.onReact (fun r => { r with latch := true }) idle))
    step s = .next (after s) ∧ s.react.latch = true ∧ (after s).react.latch = false :=
  ⟨step_after (by decide +kernel), by decide +kernel⟩

theorem test_meets_OnlyConfirmChangesTheLimits :
    let s := front (.confirm 3) (State.ask 3 24 [6, 255] proposed)
    let u := front (.freeze 3) (State.ask 3 4 [] fresh)
    let v := front (.line ⟨0, Vector.replicate 4 false, Vector.replicate 16 false⟩) run
    proposed.limitsOk ∧ (step s = .next (after s) ∧ ((after s).env 6).guarded ≠ (s.env 6).guarded) ∧
    (step u = .next (after u) ∧ ((after u).env 6).guarded ≠ (u.env 6).guarded) ∧
    (step v = .next (after v) ∧ ((after v).env 6).guarded ≠ (v.env 6).guarded) :=
  ⟨limitsOk_of (by decide +kernel), ⟨step_after (by decide +kernel), by decide +kernel⟩,
    ⟨step_after (by decide +kernel), by decide +kernel⟩, ⟨step_after (by decide +kernel), by decide +kernel⟩⟩

theorem test_meets_ConstantsChangeOnlyInConfig :
    let s := front (.writeConstant 3) (State.ask 3 2 [6, 7, 0x7F, 0xFF] fresh)
    let u := front (.powerOn ⟨0, Vector.replicate 4 false, Vector.replicate 16 false⟩) idle
    (step s = .next (after s) ∧ (after s).consts ≠ s.consts) ∧ (step u = .next (after u) ∧ (after u).consts ≠ u.consts) :=
  ⟨⟨step_after (by decide +kernel), by decide +kernel⟩, ⟨step_after (by decide +kernel), by decide +kernel⟩⟩

end Sys2Proof.Tests
end

/-! REJECT and CANCEL_PROPOSAL (06, R120, R125, R127, R128): the answer of a served request, the checks every tagged
request makes first, and the requests that end a proposal. -/

namespace Sys2Proof.Machine

/-! ### A served request and the checks of its route -/

/-- A request that passes the length check leaves what its owner leaves, with the owner's reply in the answer slot, at
the end of the command (09, R169 to R171). -/
theorem done_serve_owner {α : Type} {p : Port} {code : Nat} {parse : List Byte → Option α} {n : W16}
    {fields : List Byte} {a : α} {owner : α → State → State × Reply} {s u : State} {r : Reply}
    (h : s.offers p n code fields) (hp : parse fields = some a) (ho : owner a (s.taken p) = (u, r)) :
    done (serve p code parse owner s) = .next (u.replied p n r) := by
  rw [serve_owner owner h hp, ho]
  rfl

section RouteChecks

variable {p : Port} {tag : Nat} {s : State} (own : Chan → State → State × Reply)

theorem onRoute_unfrozen (h : s.phase = .config) : onRoute p tag own s = (s, .bare .unfrozen) := by
  simp [onRoute, State.inConfig, h]

theorem onRoute_unrouted (h : s.phase = .operating) (hl : s.consts.lookup tag p = none) :
    onRoute p tag own s = (s, .bare .unrouted) := by
  simp [onRoute, State.inConfig, h, hl]

theorem onRoute_tandem {l : Chan} (h : s.phase = .operating) (hl : s.consts.lookup tag p = some l)
    (hf : s.consts.isFollower l = true) : onRoute p tag own s = (s, .bare .tandem) := by
  simp [onRoute, State.inConfig, h, hl, hf]

end RouteChecks

/-! ### The end of a proposal (06, R125) -/

/-- What stands on a channel when its proposal `x` has ended: no proposal, and the outcome; the guarded and open
values, the revision and the counter are the old ones. -/
theorem endProposal_some {l : Chan} {x : Proposal} {s : State} (e : ProposalEnd) (h : (s.env l).proposal = some x) :
    endProposal l e s = proposalNotices e x.proposer { s with envs := vset s.envs l { s.env l with
      proposal := none, last := some ⟨x.proposer, x.number, e, s.period⟩ } } := by
  unfold endProposal
  rw [h]

/-! ### The checks of CONFIRM and REJECT (06, R126, R127) -/

section AnsweringChecks

variable {p : Port} {number : Nat} {l : Chan} {s : State} (own : Proposal → State → State × Reply)

theorem answering_notSafety (hp : p ≠ s.safetyPort) :
    answering p number own l s = (s, .bare .notSafety) :=
  if_pos hp

theorem answering_noProposal (hp : p = s.safetyPort) (hx : (s.env l).proposal = none) :
    answering p number own l s = (s, .bare .noProposal) := by
  unfold answering
  rw [if_neg (not_not_intro hp), hx]

/-- The safety port's request meets the pending proposal: the number decides between MISMATCH and the request's own
effect. -/
theorem answering_pending {x : Proposal} (hp : p = s.safetyPort) (hx : (s.env l).proposal = some x) :
    answering p number own l s = if number ≠ x.number then (s, .bare .mismatch) else own x s := by
  unfold answering
  rw [if_neg (not_not_intro hp), hx]

theorem answering_mismatch {x : Proposal} (hp : p = s.safetyPort) (hx : (s.env l).proposal = some x)
    (hn : number ≠ x.number) : answering p number own l s = (s, .bare .mismatch) :=
  (answering_pending own hp hx).trans (if_pos hn)

theorem answering_passed {x : Proposal} (hp : p = s.safetyPort) (hx : (s.env l).proposal = some x)
    (hn : number = x.number) : answering p number own l s = own x s :=
  (answering_pending own hp hx).trans (if_neg (not_not_intro hn))

end AnsweringChecks

/-! ### REJECT (06, R127) -/

/-- A REJECT that passes ends the proposal with REJECTED and tells its proposer. -/
theorem rejectOn_passed {p : Port} {number : Nat} {l : Chan} {x : Proposal} {s : State} (hp : p = s.safetyPort)
    (hx : (s.env l).proposal = some x) (hn : number = x.number) :
    rejectOn p number l s =
      (handTo x.proposer .proposalResult { s with envs := vset s.envs l { s.env l with
        proposal := none, last := some ⟨x.proposer, x.number, .rejected, s.period⟩ } }, .bare .ok) := by
  unfold rejectOn
  rw [answering_passed _ hp hx hn, endProposal_some .rejected hx]
  rfl

/-- An offered REJECT is answered as its route leads it. -/
theorem exec_reject {p : Port} {n : W16} {tag number : Byte} {s u : State} {r : Reply}
    (h : s.offers p n 25 [tag, number])
    (ho : onRoute p tag.toNat (rejectOn p number.toNat) (s.taken p) = (u, r)) :
    exec (.reject p) s = .next (u.replied p n r) :=
  have fields : readTagByte [tag, number] = some (tag.toNat, number.toNat) := rfl
  done_serve_owner (owner := rejectOwner p) h fields ho

/-- Settles O42: the checks of the route, then those REJECT shares with CONFIRM, then the end of the proposal. -/
theorem rejectEndsTheProposal : Obligations.RejectEndsTheProposal := by
  intro p n tag number s h
  refine ⟨fun hc => exec_reject h (onRoute_unfrozen _ hc),
    fun ho hl => exec_reject h (onRoute_unrouted _ ho hl),
    fun l ho hl => ⟨fun hf => exec_reject h (onRoute_tandem _ ho hl hf), fun hf => ?_⟩⟩
  have routed : onRoute p tag.toNat (rejectOn p number.toNat) (s.taken p) = rejectOn p number.toNat l (s.taken p) :=
    onRoute_routed _ ⟨ho, hl, hf⟩
  refine ⟨fun hp => ?notSafety, fun hp hx => ?noProposal, fun x hp hx => ⟨fun hn => ?mismatch, fun hn => ?passed⟩⟩
  case notSafety => exact exec_reject h (routed.trans (answering_notSafety _ hp))
  case noProposal => exact exec_reject h (routed.trans (answering_noProposal _ hp hx))
  case mismatch => exact exec_reject h (routed.trans (answering_mismatch _ hp hx hn))
  case passed => exact exec_reject h (routed.trans (rejectOn_passed hp hx hn))

/-! ### CANCEL_PROPOSAL (06, R128) -/

/-- Without a proposal of the sending port, CANCEL_PROPOSAL finds nothing to end, another port's proposal included. -/
theorem cancelProposalOn_notOwn {p : Port} {l : Chan} {s : State}
    (h : ∀ x, (s.env l).proposal = some x → x.proposer ≠ p) :
    cancelProposalOn p l s = (s, .bare .noProposal) := by
  unfold cancelProposalOn
  split
  · next x hx => exact if_neg (h x hx)
  · rfl

/-- The proposer's own proposal ends with CANCELLED, and the safety port is told. -/
theorem cancelProposalOn_own {p : Port} {l : Chan} {x : Proposal} {s : State} (hx : (s.env l).proposal = some x)
    (hp : x.proposer = p) :
    cancelProposalOn p l s =
      (handTo s.safetyPort .proposal { s with envs := vset s.envs l { s.env l with
        proposal := none, last := some ⟨x.proposer, x.number, .cancelled, s.period⟩ } }, .bare .ok) := by
  unfold cancelProposalOn
  rw [hx]
  simp only [if_pos hp, endProposal_some .cancelled hx]
  rfl

/-- An offered CANCEL_PROPOSAL is answered as its route leads it. -/
theorem exec_cancelProposal {p : Port} {n : W16} {tag : Byte} {s u : State} {r : Reply} (h : s.offers p n 23 [tag])
    (ho : onRoute p tag.toNat (cancelProposalOn p) (s.taken p) = (u, r)) :
    exec (.cancelProposal p) s = .next (u.replied p n r) :=
  have fields : readByte [tag] = some tag.toNat := rfl
  done_serve_owner (owner := cancelProposalOwner p) h fields ho

/-- Settles O43: the checks of the route, then whether the pending proposal is the sending port's own. -/
theorem cancelProposalEndsOnesOwn : Obligations.CancelProposalEndsOnesOwn := by
  intro p n tag s h
  refine ⟨fun hc => exec_cancelProposal h (onRoute_unfrozen _ hc),
    fun ho hl => exec_cancelProposal h (onRoute_unrouted _ ho hl),
    fun l ho hl => ⟨fun hf => exec_cancelProposal h (onRoute_tandem _ ho hl hf), fun hf => ?_⟩⟩
  have routed : onRoute p tag.toNat (cancelProposalOn p) (s.taken p) = cancelProposalOn p l (s.taken p) :=
    onRoute_routed _ ⟨ho, hl, hf⟩
  refine ⟨fun hno => ?notOwn, fun x hx hp => ?own⟩
  case notOwn => exact exec_cancelProposal h (routed.trans (cancelProposalOn_notOwn hno))
  case own => exact exec_cancelProposal h (routed.trans (cancelProposalOn_own hx hp))

end Sys2Proof.Machine


/-! What every command keeps. `Kept P L M` lists the writes that commands are made of, each with what is known where it is
made; a property that these writes keep is kept by every shared operation, and so by every command (95). -/

namespace Sys2Proof.Machine

/-! ### What a write may change -/

/-- A channel or the link moves, which no part in CONFIG shows (11, R182). -/
def State.inMotion (s : State) : Prop :=
  s.phase = .operating ∨ (∃ c, (s.eng c).state ≠ .off) ∨ (s.link.state ≠ .draining ∧ s.link.state ≠ .discharged)

/-- A count runs whose expiry is reported. -/
def State.countsDown (s : State) : Prop := (∃ c, (s.auRec c).handover ≠ none) ∨ ∃ p, (s.port p).silence ≠ none

/-- A port whose line stays as it is: notices, answers, subscriptions and the transmitter may change. -/
def PortBlock.sameLine (b a : PortBlock) : Prop :=
  b.link = a.link ∧ b.silence = a.silence ∧ b.inbound.length ≤ a.inbound.length

/-- An engine that keeps its channel state and gate enable; a new demand carries the id target but for a ramp's. -/
def Engine.follows (a e : Engine) : Prop :=
  a.state = e.state ∧ a.gateEnable = e.gateEnable ∧
    ((a.active = e.active ∧ a.idTarget = e.idTarget) ∨ a.active.id = a.idTarget ∨ e.state = .ramping ∨ e.state = .stopping)

/-- A record that keeps its holder; claims may leave it, and no handover is opened. -/
def AuthRecord.follows (a r : AuthRecord) : Prop :=
  a.holder = r.holder ∧ a.holderRank = r.holderRank ∧ a.waiting.Sublist r.waiting ∧ (r.handover = none → a.handover = none)

/-- An envelope that keeps its guarded values and makes no proposal. -/
def Envelope.follows (a e : Envelope) : Prop :=
  a.guarded = e.guarded ∧
    ∀ x, a.proposal = some x → ∃ y, e.proposal = some y ∧ x.proposer = y.proposer ∧ x.values = y.values

/-- A Reaction Controller that keeps its reactions and the latch; levels, masks and the last ended record may change. -/
def ReactionBlock.follows (a r : ReactionBlock) : Prop :=
  a.pendingSet = r.pendingSet ∧ a.inService = r.inService ∧ a.held = r.held ∧ a.latch = r.latch ∧ a.untilTake = r.untilTake

/-- A port's line moves: its link follows its signal, its silence timer runs only in UP from FREEZE on, and its inbound
queue holds four frames at most (09, R166 to R168). -/
def State.lineMoves (s : State) (p : Port) (b : PortBlock) (signal : Bool) : Prop :=
  ((b.link = .down ↔ signal = false) ∨
    (signal = vget s.signals p ∧ (b.link = .down ↔ (vget s.ports p).link = .down))) ∧
  (b.inbound.length ≤ 4 ∨ b.inbound.length ≤ (vget s.ports p).inbound.length) ∧
  (b.silence ≠ none → b.link = .up ∧ s.phase = .operating) ∧ (b.link = .silent → (vget s.ports p).silence ≠ none)

theorem PortBlock.sameLine_rfl (b : PortBlock) : b.sameLine b := ⟨rfl, rfl, Nat.le_refl _⟩
theorem Engine.follows_rfl (e : Engine) : e.follows e := ⟨rfl, rfl, .inl ⟨rfl, rfl⟩⟩
theorem AuthRecord.follows_rfl (r : AuthRecord) : r.follows r := ⟨rfl, rfl, List.Sublist.refl _, id⟩
theorem Envelope.follows_rfl (e : Envelope) : e.follows e := ⟨rfl, fun x h => ⟨x, h, rfl, rfl⟩⟩

/-- A table with one entry replaced by one that relates to it relates to the table, entry by entry. -/
theorem rel_vset {α : Type} {n : Nat} {R : α → α → Prop} (hrefl : ∀ a, R a a) (v : Vector α n) (i : Fin n) {a : α}
    (h : R a (vget v i)) (j : Fin n) : R (vget (vset v i a) j) (vget v j) := by
  rw [vget_vset]
  split
  · next hij => exact hij ▸ h
  · exact hrefl _

/-! ### The properties that the shared operations keep -/

/-- `P` is kept by every write of the shared operations. `L` is what is known of the phase where something moves, `M`
where something is reported. -/
structure Kept (P : State → Prop) (L M : Phase → Prop) : Prop where
  live : ∀ {s : State}, P s → s.inMotion → L s.phase
  reports : ∀ {x : Phase}, L x → M x
  counts : ∀ {s : State}, P s → s.countsDown → M s.phase
  free : ∀ {s : State} (r : Retained) (x : CommandedReset) (pins : Vector Bool 16) (inputs : Vector InputBlock 16)
    (wire : List Emission), P s →
    P { s with retained := r, resetting := x, pins := pins, inputs := inputs, wire := wire }
  ports : ∀ {s : State} (v : Vector PortBlock 4), (∀ q, (vget v q).sameLine (vget s.ports q)) → P s →
    P { s with ports := v }
  line : ∀ {s : State} (p : Port) (b : PortBlock) (signal : Bool), s.lineMoves p b signal → P s →
    P { s with signals := vset s.signals p signal, ports := vset s.ports p b }
  queues : ∀ {s : State} (v : Vector DemandQueue 8),
    (∀ c, (vget v c).entries.Sublist (vget s.queues c).entries) → P s → P { s with queues := v }
  engines : ∀ {s : State} (v : Vector Engine 8), (∀ c, (vget v c).follows (vget s.engines c)) → P s →
    P { s with engines := v }
  envs : ∀ {s : State} (v : Vector Envelope 8), (∀ c, (vget v c).follows (vget s.envs c)) → P s → P { s with envs := v }
  auth : ∀ {s : State} (v : Vector AuthRecord 8), (∀ c, (vget v c).follows (vget s.auth c)) → P s → P { s with auth := v }
  link : ∀ {s : State} (b : LinkBlock), b.state = s.link.state → P s → P { s with link := b }
  react : ∀ {s : State} (r : ReactionBlock), r.follows s.react → P s → P { s with react := r }
  budget : ∀ {s : State} (b : Nat), P s → P (setBudget b s)
  request : ∀ {s : State} (c : Chan) (r : Nat), (s.eng c).gateEnable = true → P s → P (setRequest c r s)
  toOff : ∀ {s : State} (l : Chan), P s → P (toOff l s)
  toRun : ∀ {s : State} (l : Chan), (s.eng l).state = .releasing → P s → P (moveGroup l .run none s)
  toHolding : ∀ {s : State} (l : Chan), (s.eng l).state.running = true ∨ (s.eng l).state = .holding → P s → P (toHolding l s)
  toRamping : ∀ {s : State} (l : Chan), (s.eng l).state = .holding → P s → P (toRamping l s)
  toTripped : ∀ {s : State} (l : Chan) (k : FaultKind) (d : Nat), L s.phase → P s → P (toTripped l k d s)
  installHead : ∀ {s : State} (l : Chan), P s → P (installHead l s)
  enterLink : ∀ {s : State} (x : LinkState), L s.phase ∨ x = .discharged → s.link.state ≠ .ready ∨ s.allIdle = true →
    P s → P (enterLink x s)
  drain : ∀ {s : State} (k : FaultKind), L s.phase → P s →
    P (if s.link.state = .ready then tripDriving k allChans (Machine.enterLink .draining s)
      else Machine.enterLink .draining s)
  stops : ∀ {s : State}, s.phase = .operating → P s → P (assertStops allChans (setLatch true s))
  pend : ∀ {s : State} (k : FaultKind) (sc : Scope) (e : Option W16), scopeFits k sc = true → k.isTrip = false →
    M s.phase → P s → P (pendReport k sc e s)
  drop : ∀ {s : State} (l : List PendingEntry), l.Sublist s.react.pendingSet → P s → P (withPending l s)
  serve : ∀ {s : State} (x : PendingEntry) (l : List PendingEntry), l.Sublist s.react.pendingSet →
    x ∈ s.react.pendingSet → s.react.inService = none → x.kind.isLink = true ∨ x.kind = .safeStop → P s →
    P (putInService x (withPending l s))
  endLink : ∀ {s : State} (k : FaultKind), (∃ i, s.react.inService = some i ∧ i.kind.isLink = true) → P s →
    P (endLinkReaction k s)
  endStop : ∀ {s : State} (e : ReactionEnd), (∃ i, s.react.inService = some i ∧ i.kind = .safeStop) → P s →
    P (endSafeStop e s)
  holdRepeat : ∀ {s : State}, (∃ i, s.react.inService = some i ∧ i.kind = .safeStop) → P s → P (holdRepeat s)

/-! ### Facts that the shared operations need -/

/-- The entry that a taking takes is one of the set, and the others stay in their order. -/
theorem takeFirst_mem (test : PendingEntry → Bool) : ∀ (l : List PendingEntry) {x : PendingEntry}
    {others : List PendingEntry}, takeFirst test l = some (x, others) → x ∈ l ∧ others.Sublist l
  | [], _, _, h => by cases h
  | y :: rest, x, others, h => by
    unfold takeFirst at h
    split at h
    · cases h
      exact ⟨List.mem_cons_self, List.sublist_cons_self _ _⟩
    · split at h
      · cases h
      · next z more ht =>
        cases h
        obtain ⟨hx, hs⟩ := takeFirst_mem test rest ht
        exact ⟨List.mem_cons_of_mem _ hx, hs.cons_cons _⟩

theorem scopeFits_link {k : FaultKind} (h : k.isLink = true) : scopeFits k .link = true ∧ k.isTrip = false := by
  cases k <;> first | exact ⟨rfl, rfl⟩ | cases h

/-- Level faults are found only in states of a charged or charging link (05, R94). -/
theorem levelFault_some {k : Constants} {x : LinkState} {v : Nat} {f : FaultKind} (h : levelFault k x v = some f) :
    f.isLink = true ∧ x ≠ .draining ∧ x ≠ .discharged := by
  have kinds : f = .linkLow ∨ f = .linkHigh := by
    unfold levelFault at h
    split at h <;> (repeat' split at h) <;> simp_all
  refine ⟨by rcases kinds with rfl | rfl <;> rfl, ?_, ?_⟩ <;> rintro rfl <;> cases h

theorem inConfig_eq_false {s : State} : s.inConfig = false ↔ s.phase = .operating := by
  unfold State.inConfig
  cases s.phase <;> simp

theorem inConfig_eq_true {s : State} : s.inConfig = true ↔ s.phase = .config := by
  unfold State.inConfig
  cases s.phase <;> simp

theorem silenceStart_some {s : State} {p : Port} (h : s.silenceStart p ≠ none) : s.phase = .operating := by
  unfold State.silenceStart at h
  dsimp only at h
  split at h
  · exact absurd rfl h
  · next hn =>
    rw [not_or] at hn
    exact inConfig_eq_false.mp (by simpa using hn.1)

theorem inMotion_of_running {s : State} {l : Chan} (h : (s.eng l).state ≠ .off) : s.inMotion := .inr (.inl ⟨l, h⟩)

section SharedOperations

variable {P : State → Prop} {L M : Phase → Prop} (K : Kept P L M)
include K

/-! ### Single writes -/

theorem Kept.port {s : State} (p : Port) {b : PortBlock} (hb : b.sameLine (vget s.ports p)) (h : P s) :
    P { s with ports := vset s.ports p b } :=
  K.ports _ (rel_vset PortBlock.sameLine_rfl _ _ hb) h

theorem Kept.queue {s : State} (c : Chan) {q : DemandQueue} (hq : q.entries.Sublist (vget s.queues c).entries) (h : P s) :
    P { s with queues := vset s.queues c q } :=
  K.queues _ (rel_vset (R := fun a b : DemandQueue => a.entries.Sublist b.entries) (fun _ => List.Sublist.refl _) _ _ hq) h

theorem Kept.engine {s : State} (c : Chan) {e : Engine} (he : e.follows (vget s.engines c)) (h : P s) :
    P { s with engines := vset s.engines c e } :=
  K.engines _ (rel_vset Engine.follows_rfl _ _ he) h

theorem Kept.env {s : State} (c : Chan) {e : Envelope} (he : e.follows (vget s.envs c)) (h : P s) :
    P { s with envs := vset s.envs c e } :=
  K.envs _ (rel_vset Envelope.follows_rfl _ _ he) h

theorem Kept.record {s : State} (c : Chan) {r : AuthRecord} (hr : r.follows (vget s.auth c)) (h : P s) :
    P { s with auth := vset s.auth c r } :=
  K.auth _ (rel_vset AuthRecord.follows_rfl _ _ hr) h

theorem Kept.wire {s : State} (w : List Emission) (h : P s) : P { s with wire := w } := K.free _ _ _ _ w h
theorem Kept.inputs {s : State} (v : Vector InputBlock 16) (h : P s) : P { s with inputs := v } := K.free _ _ _ v _ h

/-! ### Notices, queues, gate records -/

theorem Kept.handTo {s : State} (p : Port) (k : NoticeKind) (h : P s) : P (handTo p k s) :=
  K.port p (by exact ⟨rfl, rfl, Nat.le_refl _⟩) h

theorem Kept.broadcast {s : State} (k : NoticeKind) (h : P s) : P (broadcast k s) := by
  refine K.ports _ (fun q => ?_) h
  rw [vget_vmap_ports]
  split
  · exact ⟨rfl, rfl, Nat.le_refl _⟩
  · exact PortBlock.sameLine_rfl _

theorem Kept.settle {s : State} (h : P s) : P (settle s) := by
  refine K.ports _ (fun q => ?_) h
  rw [vget_vmap_ports]
  exact ⟨by simp, by simp, by simp⟩

theorem Kept.flushQueue {s : State} (c : Chan) (h : P s) : P (flushQueue c s) := K.queue c (List.nil_sublist _) h

theorem Kept.flushAll {s : State} (h : P s) : P (flushAll s) := by
  refine K.queues _ (fun c => ?_) h
  rw [vget_vmap_chans]
  split
  · exact List.nil_sublist _
  · exact List.Sublist.refl _

theorem Kept.sendGate {s : State} (c : Chan) (n : W16) (d : Duties) (on : Bool) (h : P s) : P (sendGate c n d on s) :=
  K.wire _ (K.engine c (e := { s.eng c with lastDuties := d }) ⟨rfl, rfl, .inl ⟨rfl, rfl⟩⟩ h)

theorem Kept.writeSevere {s : State} (k : FaultKind) (sc : Scope) (h : P s) : P (writeSevere k sc s) :=
  K.free _ _ _ _ _ h

/-! ### Authority and proposals -/

theorem Kept.dropHandover {s : State} (l : Chan) (h : P s) : P (dropHandover l s) :=
  K.record l (by exact ⟨rfl, rfl, List.Sublist.refl _, fun _ => rfl⟩) h

theorem Kept.noticeHolder {s : State} (l : Chan) (h : P s) : P (noticeHolder l s) := by
  unfold Machine.noticeHolder
  split
  · exact K.handTo _ _ h
  · exact h

theorem Kept.displace {s : State} (l : Chan) (old : Port) (h : P s) : P (displace l old s) :=
  K.noticeHolder l (K.handTo _ _ (K.installHead l h))

theorem Kept.preemptByHead {s : State} (l : Chan) (h : P s) : P (preemptByHead l s) := by
  unfold Machine.preemptByHead
  split
  · split
    · exact K.displace _ _ h
    · exact h
  · exact h

theorem Kept.revokeStarved {s : State} (l : Chan) (e : Option W16) (h : P s) : P (revokeStarved l e s) := by
  unfold Machine.revokeStarved
  split
  · split
    · exact K.displace _ _ h
    · exact h
  · exact h

theorem Kept.revokePortFrom {s : State} (p : Port) (l : Chan) (h : P s) : P (revokePortFrom p l s) := by
  have filtered := K.record l (r := { s.auRec l with waiting := (s.auRec l).waiting.filter fun x => decide (x.port ≠ p) })
    ⟨rfl, rfl, List.filter_sublist, id⟩ h
  unfold Machine.revokePortFrom
  dsimp only
  split
  · exact K.displace _ _ filtered
  · exact filtered

theorem Kept.proposalNotices {s : State} (e : ProposalEnd) (p : Port) (h : P s) : P (proposalNotices e p s) := by
  cases e with
  | confirmed | rejected | cancelled => exact K.handTo _ _ h
  | expired | withdrawn => exact K.handTo _ _ (K.handTo _ _ h)

theorem Kept.endProposal {s : State} (l : Chan) (e : ProposalEnd) (h : P s) : P (endProposal l e s) := by
  unfold Machine.endProposal
  split
  · exact h
  · exact K.proposalNotices e _ (K.env l ⟨rfl, by simp⟩ h)

/-! ### The taking of reactions (07, R137) -/

theorem Kept.beginLinkReaction {s : State} {x : PendingEntry} (hk : x.kind.isLink = true) (h : P (putInService x s)) :
    P (beginLinkReaction x s) := by
  have begun := K.writeSevere x.kind .link (K.broadcast .linkState (K.broadcast .fault (K.flushAll h)))
  unfold Machine.beginLinkReaction
  dsimp only
  split
  · exact K.endLink _ ⟨_, rfl, hk⟩ begun
  · exact begun

theorem Kept.beginSafeStop {s : State} {x : PendingEntry} (hk : x.kind = .safeStop) (h : P (putInService x s)) :
    P (beginSafeStop x s) := by
  have begun := K.writeSevere .safeStop .all (K.broadcast .safeState (K.flushAll h))
  unfold Machine.beginSafeStop
  dsimp only
  split
  · exact K.endStop _ ⟨_, rfl, hk⟩ begun
  · exact begun

theorem Kept.portSilentReaction {s : State} (p : Port) (h : P s) : P (portSilentReaction p s) :=
  K.broadcast _ (withdrawProposals_induct P p (fun l _ h => K.endProposal l .withdrawn h) _ _
    (revokePortFroms_induct P p (fun l _ h _ => K.revokePortFrom p l h) _ _ h))

theorem Kept.brakeFaultReaction {s : State} (c : Chan) (h : P s) : P (brakeFaultReaction c s) :=
  K.broadcast _ (K.flushQueue _ (K.engine c (by exact ⟨rfl, rfl, .inl ⟨rfl, rfl⟩⟩) h))

theorem Kept.thermalReaction {s : State} (c : Chan) (h : P s) : P (thermalReaction c s) :=
  K.broadcast _ (K.engine c (by exact ⟨rfl, rfl, .inl ⟨rfl, rfl⟩⟩) h)

/-- One entry's reaction: a lasting one is put in service, an ordinary one acts on the state without its entry. -/
theorem Kept.performReaction {s : State} {x : PendingEntry} {l : List PendingEntry}
    (hs : P (withPending l s)) (hlast : x.kind.isLink = true ∨ x.kind = .safeStop → P (putInService x (withPending l s))) :
    P (performReaction x (withPending l s)) := by
  obtain ⟨k, sc, first, n, e⟩ := x
  cases k with
  | supplyLost | linkLow | linkHigh | chargeFail | wakeFail => exact K.beginLinkReaction rfl (hlast (.inl rfl))
  | safeStop => exact K.beginSafeStop rfl (hlast (.inr rfl))
  | overcurrent | bridgeFault | sampleLost => exact hs
  | portSilent => cases sc with
    | port p => exact K.portSilentReaction p hs
    | channel _ | link | all => exact hs
  | starved => cases sc with
    | channel c => exact K.broadcast _ (K.revokeStarved _ _ hs)
    | port _ | link | all => exact hs
  | brakeFault => cases sc with
    | channel c => exact K.brakeFaultReaction c hs
    | port _ | link | all => exact hs
  | thermal => cases sc with
    | channel c => exact K.thermalReaction c hs
    | port _ | link | all => exact hs

theorem Kept.takeReactions {s : State} (h : P s) : P (takeReactions s) := by
  refine takeReactions_induct P (fun u x others hu hin ht => ?_) h
  obtain ⟨hx, hsub⟩ := takeFirst_mem _ _ ht
  exact K.performReaction (K.drop _ hsub hu) (fun hk => K.serve x others hsub hx hin hk hu)

/-! ### Reports -/

theorem Kept.reportOrdinary {s : State} {k : FaultKind} {sc : Scope} (e : Option W16) (hsc : scopeFits k sc = true)
    (hk : k.isTrip = false) (hl : M s.phase) (h : P s) : P (reportOrdinary k sc e s) :=
  K.takeReactions (K.pend k sc e hsc hk hl h)

theorem Kept.reportLink {s : State} {k : FaultKind} (hk : k.isLink = true) (hl : L s.phase) (h : P s) :
    P (reportLink k s) := by
  obtain ⟨hsc, htrip⟩ := scopeFits_link hk
  unfold Machine.reportLink
  split
  · next i hi =>
    split
    · next hstop => exact K.takeReactions (K.pend _ _ _ hsc htrip (by simpa using K.reports hl) (K.endStop _ ⟨i, hi, hstop⟩ h))
    · exact K.pend _ _ _ hsc htrip (K.reports hl) h
  · exact K.takeReactions (K.pend _ _ _ hsc htrip (K.reports hl) h)

theorem Kept.tripReaction {s : State} (k : FaultKind) (c : Chan) (h : P s) : P (tripReaction k c s) :=
  K.writeSevere _ _ (K.broadcast _ (K.flushQueue _ h))

theorem Kept.reportDeparture {s : State} (h : P s) : P (reportDeparture s) := by
  unfold Machine.reportDeparture
  split
  · next i hi =>
    split
    · next hc =>
      simp only [Bool.and_eq_true, decide_eq_true_eq] at hc
      exact K.takeReactions (K.endStop _ ⟨i, hi, hc.1⟩ h)
    · exact h
  · exact h

theorem Kept.reportDischarged {s : State} (h : P s) : P (reportDischarged s) := by
  unfold Machine.reportDischarged
  split
  · next i hi =>
    split
    · next hk => exact K.takeReactions (K.endLink _ ⟨i, hi, hk⟩ h)
    · exact h
  · exact h

theorem Kept.detectTrip {s : State} (k : FaultKind) (c : Chan) (d : Nat) (hl : L s.phase) (h : P s) :
    P (detectTrip k c d s) := by
  have tripped := K.takeReactions (K.toTripped (s.lead c) k d hl h)
  unfold Machine.detectTrip
  dsimp only
  split
  · exact h
  · split
    · exact K.tripReaction _ _ (K.reportDeparture tripped)
    · exact K.reportDeparture (K.tripReaction _ _ tripped)
  all_goals exact K.tripReaction _ _ tripped

/-! ### The safe stop -/

theorem Kept.handleStopReport {s : State} (hl : L s.phase) (h : P s) : P (handleStopReport s).1 := by
  unfold Machine.handleStopReport
  split
  · exact K.takeReactions (K.pend _ _ _ rfl rfl (K.reports hl) h)
  · next i hi =>
    split
    · next hstop => exact K.holdRepeat ⟨i, hi, hstop⟩ h
    · exact K.pend _ _ _ rfl rfl (K.reports hl) h

theorem Kept.detectSafeStop {s : State} (hop : s.phase = .operating) (h : P s) : P (detectSafeStop s).1 :=
  K.handleStopReport (by simpa using K.live h (.inl hop)) (K.stops hop h)

/-! ### The link -/

theorem Kept.handLinkState {s : State} (h : P s) : P (handLinkState s) := by
  have told := K.broadcast .linkState h
  unfold Machine.handLinkState
  dsimp only
  split
  · exact h
  · split
    · exact K.budget _ (K.reportDischarged told)
    · exact K.budget _ told

theorem Kept.changeLink {s : State} (x : LinkState) (hx : L s.phase ∨ x = .discharged)
    (hr : s.link.state ≠ .ready ∨ s.allIdle = true) (h : P s) : P (changeLink x s) :=
  K.handLinkState (K.enterLink x hx hr h)

theorem Kept.judgeWake {s : State} (h : P s) : P (judgeWake s) := by
  unfold Machine.judgeWake
  split
  · next hc =>
    simp only [Bool.and_eq_true, decide_eq_true_eq] at hc
    have hm : s.inMotion := .inr (.inr (by simp [hc.1]))
    exact K.changeLink _ (.inl (K.live h hm)) (.inl (by simp [hc.1])) h
  · exact h

theorem Kept.wakeLink {s : State} (h : P s) : P (wakeLink s) := by
  unfold Machine.wakeLink
  split
  · next hc =>
    have hm : s.inMotion := .inr (.inr (by simp [hc]))
    exact K.judgeWake (K.changeLink _ (.inl (K.live h hm)) (.inl (by simp [hc])) h)
  · exact h

theorem Kept.linkFault {s : State} {k : FaultKind} (hk : k.isLink = true) (hl : L s.phase) (h : P s) :
    P (linkFault k s) := by
  have drained := K.drain k hl h
  unfold Machine.linkFault
  split
  · exact K.reportLink hk hl h
  · refine K.reportLink hk ?_ (K.handLinkState drained)
    split <;> simpa using hl

theorem Kept.levelTest {s : State} (v : Nat) (h : P s) : P (levelTest v s) := by
  have moving (hc : s.link.state = .charging ∨ s.link.state = .settling) : L s.phase :=
    K.live h (.inr (.inr (by rcases hc with hc | hc <;> simp [hc])))
  unfold Machine.levelTest
  split
  · next hc => split
               · exact K.changeLink _ (.inl (moving (.inl hc))) (.inl (by simp [hc])) h
               · exact h
  · next hc => split
               · exact K.changeLink _ (.inl (moving (.inr hc))) (.inl (by simp [hc])) h
               · exact h
  · next hc => split
               · exact K.changeLink _ (.inr rfl) (.inl (by simp [hc])) h
               · exact h
  all_goals exact h

theorem Kept.supplyStep4 {s : State} (before : Option SupplyData) (d : SupplyData) (h : P s) :
    P (supplyStep4 before d s) := by
  have s1 : P (if s.link.state = .ready then setBudget (min s.consts.linkRating d.available) s else s) := by
    split
    · exact K.budget _ h
    · exact h
  unfold Machine.supplyStep4
  dsimp only
  split
  · split
    · exact K.broadcast _ s1
    · exact s1
  · exact s1

theorem Kept.takeSupply {s : State} (d : SupplyData) (h : P s) : P (takeSupply d s) := by
  have kept : P (keepSupply d s) := K.link _ rfl h
  unfold Machine.takeSupply
  dsimp only
  split
  · exact K.levelTest _ kept
  · split
    · next k hk =>
      obtain ⟨hlink, hst⟩ := levelFault_some hk
      exact K.linkFault hlink (K.live kept (.inr (.inr hst))) kept
    · exact K.supplyStep4 _ _ (K.levelTest _ kept)

theorem Kept.receiveSupply {s : State} (bytes : List Byte) (h : P s) : P (receiveSupply bytes s) := by
  unfold Machine.receiveSupply
  split
  · exact h
  · split
    · exact h
    · exact K.takeSupply _ h

theorem Kept.supplyCheck {s : State} (first : Bool) (hl : L s.phase) (h : P s) : P (supplyCheck first s) := by
  have s1 : P { s with link := { s.link with supplyTaken := false } } := K.link _ rfl h
  unfold Machine.supplyCheck
  dsimp only
  split
  · exact s1
  · split
    · split
      · exact K.linkFault rfl (by exact hl) (K.link _ (by rfl) h)
      · exact K.link _ (by rfl) h
    · exact s1

theorem Kept.chargeExpiry {s : State} (h : P s) : P (chargeExpiry s) := by
  unfold Machine.chargeExpiry
  split
  · next hc =>
    simp only [Bool.and_eq_true, decide_eq_true_eq] at hc
    exact K.linkFault rfl (K.live h (.inr (.inr (by simp [hc.1])))) h
  · exact h

theorem Kept.settleExpiry {s : State} (h : P s) : P (settleExpiry s) := by
  unfold Machine.settleExpiry
  split
  · next hc =>
    simp only [Bool.and_eq_true, decide_eq_true_eq] at hc
    exact K.changeLink _ (.inl (K.live h (.inr (.inr (by simp [hc.1]))))) (.inl (by simp [hc.1])) h
  · exact h

theorem Kept.wakeExpiry {s : State} (h : P s) : P (wakeExpiry s) := by
  unfold Machine.wakeExpiry
  split
  · next hc =>
    simp only [Bool.and_eq_true, decide_eq_true_eq] at hc
    exact K.linkFault rfl (K.live h (.inr (.inr (by simp [hc.1])))) h
  · exact h

theorem Kept.linkTimerExpiry {s : State} (h : P s) : P (linkTimerExpiry s) := by
  unfold Machine.linkTimerExpiry
  split
  · exact K.chargeExpiry h
  · exact K.settleExpiry h
  · exact K.wakeExpiry h
  all_goals exact h

/-! ### Inputs -/

theorem Kept.recordLevel {s : State} (b : Binding) (i : Input) (level : Bool) (h : P s) : P (recordLevel b i level s) := by
  cases b with
  | none => exact h
  | safeStop => exact K.react _ ⟨rfl, rfl, rfl, rfl, rfl⟩ h
  | brakeFb c => exact K.engine c ⟨rfl, rfl, .inl ⟨rfl, rfl⟩⟩ h
  | wake => exact K.link _ (by rfl) h

theorem Kept.actOnActive {s : State} (b : Binding) (h : P s) : P (actOnActive b s) := by
  cases b with
  | none | brakeFb c => exact h
  | wake => exact K.wakeLink h
  | safeStop =>
    unfold Machine.actOnActive
    dsimp only
    split
    · exact h
    · next hc => exact K.detectSafeStop (inConfig_eq_false.mp (by simpa using hc)) h

theorem Kept.deliverLevels {s : State} (l : List Input) (h : P s) : P (deliverLevels l s) :=
  deliverLevels_induct P (fun i _ h => K.recordLevel _ i _ h) l s h

theorem Kept.changeLevel {s : State} (i : Input) (level : Bool) (h : P s) : P (changeLevel i level s) := by
  have s1 := K.inputs (vset s.inputs i ((s.inp i).changed level (!s.inConfig))) h
  have s2 : P (if level && !s.inConfig then Machine.broadcast .input
      { s with inputs := vset s.inputs i ((s.inp i).changed level (!s.inConfig)) }
      else { s with inputs := vset s.inputs i ((s.inp i).changed level (!s.inConfig)) }) := by
    split
    · exact K.broadcast _ s1
    · exact s1
  unfold Machine.changeLevel
  dsimp only
  split
  · exact K.actOnActive _ (K.recordLevel _ _ _ s2)
  · exact K.recordLevel _ _ _ s2

theorem Kept.qualify {s : State} (i : Input) (h : P s) : P (qualify i s) := by
  unfold Machine.qualify
  dsimp only
  split
  · exact K.inputs _ h
  · split
    · exact K.changeLevel _ _ h
    · exact K.inputs _ h

theorem Kept.changePin {s : State} (i : Input) (high : Bool) (h : P s) : P (changePin i high s) := by
  unfold Machine.changePin
  split
  · exact h
  · exact K.qualify i (K.free _ _ _ _ _ h)

theorem Kept.debounceExpiry {s : State} (i : Input) (h : P s) : P (debounceExpiry i s) := by
  unfold Machine.debounceExpiry
  split
  · exact K.changeLevel _ _ h
  · exact h

/-! ### Ports -/

theorem Kept.gainSignal {s : State} (p : Port) (h : P s) : P (gainSignal p s) := by
  unfold Machine.gainSignal
  split
  · refine K.line p _ true ⟨.inl (by simp), .inr (Nat.le_refl _), fun hs => ⟨rfl, silenceStart_some hs⟩, ?_⟩ h
    intro hl; cases hl
  · exact h

theorem Kept.reportSilent {s : State} (p : Port) (h : P s) : P (reportSilent p s) := by
  unfold Machine.reportSilent
  split
  · exact h
  · next hn =>
    rw [not_or] at hn
    have hop : s.phase = .operating := inConfig_eq_false.mp (by simpa using hn.1)
    exact K.reportOrdinary _ rfl rfl (K.reports (K.live h (.inl hop))) h

theorem Kept.resetIfLost {s : State} (p : Port) (h : P s) : P (resetIfLost p s) := by
  unfold Machine.resetIfLost
  split
  · exact K.free _ _ _ _ _ h
  · exact h

theorem Kept.loseSignal {s : State} (p : Port) (mid : Bool) (h : P s) : P (loseSignal p mid s) := by
  unfold Machine.loseSignal
  dsimp only
  split
  · exact h
  · have lost := K.line p { s.port p with
        link := .down, silence := none
        damaged := if mid then min 65535 ((s.port p).damaged + 1) else (s.port p).damaged } false
      ⟨.inl (by simp), .inr (Nat.le_refl _), by simp, by simp⟩ h
    split
    · exact K.reportSilent p (K.resetIfLost p lost)
    · exact K.resetIfLost p lost

/-- A port's block replaced with its link signal as it was. -/
theorem Kept.lineOf {s : State} (p : Port) (b : PortBlock)
    (hb : s.lineMoves p b (vget s.signals p)) (h : P s) : P { s with ports := vset s.ports p b } := by
  have := K.line p b _ hb h
  rwa [vset_vget_self] at this

theorem Kept.silenceExpiry {s : State} (p : Port) (h : P s) : P (silenceExpiry p s) := by
  unfold Machine.silenceExpiry
  dsimp only
  split
  · next hc =>
    have hl : M s.phase := K.counts h (.inr ⟨p, by rw [hc.2]; exact Option.some_ne_none _⟩)
    have hup : (vget s.ports p).link = .up := hc.1
    have hrun : (vget s.ports p).silence = some 0 := hc.2
    exact K.reportOrdinary _ rfl rfl (by exact hl) (K.lineOf p _ ⟨.inr ⟨rfl, by simp [hup]⟩, .inr (Nat.le_refl _), by simp,
      fun _ => by rw [hrun]; exact Option.some_ne_none _⟩ h)
  · exact h

theorem Kept.receiveFrame {s : State} (p : Port) (bytes : List Byte) (h : P s) : P (receiveFrame p bytes s) := by
  unfold Machine.receiveFrame
  dsimp only
  split
  · exact h
  · next hd =>
    split
    · exact K.port p (by exact ⟨rfl, rfl, Nat.le_refl _⟩) h
    · refine K.lineOf p _ ?_ h
      unfold PortBlock.receive Config.inboundSlots
      split
      · next hlen =>
        exact ⟨.inr ⟨rfl, by simpa using hd⟩, .inl (by simp only [List.length_append, List.length_singleton]; omega),
          fun hs => ⟨rfl, silenceStart_some hs⟩, by simp⟩
      · exact ⟨.inr ⟨rfl, by simpa using hd⟩, .inr (Nat.le_refl _), fun hs => ⟨rfl, silenceStart_some hs⟩, by simp⟩

theorem Kept.popRequest {s : State} (p : Port) (h : P s) : P (popRequest p s) :=
  K.port p (by exact ⟨rfl, rfl, by simp⟩) h

theorem Kept.putAnswer {s : State} (p : Port) (n : W16) (b : Bool) (r : Reply) (h : P s) : P (putAnswer p n b r s) :=
  K.port p (by exact ⟨rfl, rfl, Nat.le_refl _⟩) h

theorem Kept.completeSend {s : State} (p : Port) (h : P s) : P (completeSend p s) := by
  unfold Machine.completeSend
  dsimp only
  split
  · exact h
  · split
    · exact h
    · exact K.free _ _ _ _ _ (K.port p (b := { s.port p with sending := none }) ⟨rfl, rfl, Nat.le_refl _⟩ h)

theorem Kept.pacingExpiry {s : State} (p : Port) (h : P s) : P (pacingExpiry p s) := by
  unfold Machine.pacingExpiry
  split
  · exact K.port p (by exact ⟨rfl, rfl, Nat.le_refl _⟩) h
  · exact h

/-! ### Samples -/

theorem Kept.noteReadiness {s : State} (c : Chan) (a b : Bool) (h : P s) : P (noteReadiness c a b s) := by
  unfold Machine.noteReadiness
  split
  · exact h
  · exact K.judgeWake (K.link _ (by rfl) h)

theorem Kept.sampleChecks {s : State} (c : Chan) (d : SampleData) (hl : L s.phase) (h : P s) : P (sampleChecks c d s) := by
  have s1 : P (if tripLevel (vget s.consts.ceiling c) < largestPhase d.ia d.ib then
      Machine.detectTrip .overcurrent c (largestPhase d.ia d.ib) s else s) := by
    split
    · exact K.detectTrip _ _ _ hl h
    · exact h
  unfold Machine.sampleChecks
  dsimp only
  split
  · refine K.detectTrip _ _ _ ?_ s1
    split <;> simpa using hl
  · exact s1

theorem Kept.chargeHeat {s : State} (c : Chan) (heat : Nat) (above : Bool) (hl : L s.phase) (h : P s) :
    P (chargeHeat c heat above s) := by
  unfold Machine.chargeHeat
  dsimp only
  split
  · exact K.reportOrdinary _ rfl rfl (K.reports (by exact hl)) (K.engine c (by exact ⟨rfl, rfl, .inl ⟨rfl, rfl⟩⟩) h)
  · exact K.engine c (by exact ⟨rfl, rfl, .inl ⟨rfl, rfl⟩⟩) h

theorem Kept.clearThermal {s : State} (c : Chan) (found below : Bool) (h : P s) : P (clearThermal c found below s) := by
  have cleared := K.engine c (e := { s.eng c with thermalInd := false, derate := (s.eng c).derate && !found })
    ⟨rfl, rfl, .inl ⟨rfl, rfl⟩⟩ h
  unfold Machine.clearThermal
  dsimp only
  split
  · split
    · exact K.broadcast _ cleared
    · exact cleared
  · exact h

theorem Kept.loopAndRecord {s : State} (c : Chan) (angle : Nat) (derate : Bool) (h : P s) :
    P (loopAndRecord c angle derate s) := by
  unfold Machine.loopAndRecord
  dsimp only
  split
  · next hg =>
    refine K.request c _ ?_ (K.sendGate c _ _ _ (K.engine c (by exact ⟨rfl, rfl, .inl ⟨rfl, rfl⟩⟩) h))
    simpa [Machine.sendGate, Engine.keepRun] using hg
  · exact K.sendGate c _ _ _ h

theorem Kept.takeSample {s : State} (c : Chan) (d : SampleData) (hl : L s.phase) (h : P s) : P (takeSample c d s) := by
  have kept := K.noteReadiness c (s.eng c).moduleReady d.ready
    (K.engine c (e := (s.eng c).keepSample d) ⟨rfl, rfl, .inl ⟨rfl, rfl⟩⟩ h)
  have checked := K.sampleChecks c d (by simpa using hl) kept
  exact K.loopAndRecord c _ _ (K.clearThermal c _ _ (K.chargeHeat c _ _ (by simpa using hl) checked))

theorem Kept.receiveSample {s : State} (c : Chan) (bytes : List Byte) (h : P s) : P (receiveSample c bytes s) := by
  unfold Machine.receiveSample
  split
  · exact h
  · split
    · next d hd hg =>
      unfold State.goodSample at hg
      simp only [Bool.and_eq_true, Bool.not_eq_true', inConfig_eq_false] at hg
      exact K.takeSample c d (K.live h (.inl hg.1.1.1.1)) h
    · exact h

/-! ### One engine's handling of a period start -/

theorem Kept.missStep {s : State} (first : Bool) (c : Chan) (hl : L s.phase) (h : P s) : P (missStep first c s) := by
  have counted : P { s with engines := vset s.engines c ((s.eng c).countMiss first) } := by
    refine K.engine c ?_ h
    unfold Engine.countMiss
    split <;> exact ⟨rfl, rfl, .inl ⟨rfl, rfl⟩⟩
  unfold Machine.missStep
  dsimp only
  split
  · exact K.detectTrip _ _ _ (by exact hl) counted
  · exact counted

/-- The property together with what is known of the phase: every step keeps the phase. -/
theorem Kept.missSteps {s : State} (first : Bool) (l : List Chan) (hl : L s.phase) (h : P s) : P (missSteps first l s) :=
  (missSteps_induct (fun u => L u.phase ∧ P u) first
    (fun c _ hu => ⟨by simpa using hu.1, K.missStep first c hu.1 hu.2⟩) l s ⟨hl, h⟩).2

theorem Kept.reportBrakes {s : State} (wrong : Feedback) (l : List Chan) (hl : L s.phase) (h : P s) :
    P (reportBrakes wrong l s) :=
  (reportBrakes_induct (fun u => L u.phase ∧ P u) wrong
    (fun _ _ hu => ⟨by simpa using hu.1, K.reportOrdinary _ rfl rfl (K.reports hu.1) hu.2⟩) l s ⟨hl, h⟩).2

theorem Kept.rampStep {s : State} (l : Chan) (hs : (s.eng l).state = .ramping ∨ (s.eng l).state = .stopping) (h : P s) :
    P (rampStep l s) := by
  unfold Machine.rampStep
  dsimp only
  split
  · exact h
  · exact K.engine l ⟨rfl, rfl, .inr (.inr hs)⟩ h

theorem Kept.sendMarks : ∀ (l : List Chan) {s : State}, P s → P (sendMarks l s)
  | [], _, h => h
  | c :: rest, u, h => by
    unfold Machine.sendMarks
    apply Kept.sendMarks rest
    split
    · exact K.wire _ h
    · exact h

theorem Kept.lowWater {s : State} (l : Chan) (n : Nat) (h : P s) : P (lowWater l n s) := by
  unfold Machine.lowWater
  dsimp only
  split
  · split
    · exact K.handTo _ _ h
    · exact h
  · exact h

theorem Kept.closeHandover {s : State} (l : Chan) (h : P s) : P (closeHandover l s) := by
  unfold Machine.closeHandover
  split
  · exact K.takeReactions (K.dropHandover l h)
  · exact h

theorem Kept.takeEntry {s : State} (l : Chan) (x : Entry) (h : P s) : P (takeEntry l x s) := by
  have q := K.queue l (q := (s.queue l).take s.period) (by exact List.tail_sublist _) h
  have e := K.engine (s := { s with queues := vset s.queues l ((s.queue l).take s.period) }) l
    (e := { s.eng l with active := x.toDemand (s.eng l).idTarget, idTarget := (x.toDemand (s.eng l).idTarget).id })
    ⟨rfl, rfl, .inr (.inl rfl)⟩ q
  exact K.closeHandover l (K.lowWater l _ e)

theorem Kept.countGap {s : State} (l : Chan) (hl : L s.phase) (h : P s) : P (countGap l s) := by
  have q := K.queue l (q := (s.queue l).gapped (s.env l).opens.starve) (List.Sublist.refl _) h
  unfold Machine.countGap
  dsimp only
  split
  · exact K.reportOrdinary _ rfl rfl (K.reports (by exact hl)) q
  · exact q

theorem Kept.queueStep {s : State} (l : Chan) (h : P s) : P (queueStep l s) := by
  have running (hs : (s.eng l).state = .releasing ∨ (s.eng l).state = .run) :
      P (match s.headAt l with
        | some x => Machine.takeEntry l x s
        | none => if (s.auRec l).handover.isSome then s else Machine.countGap l s) := by
    split
    · exact K.takeEntry l _ h
    · split
      · exact h
      · exact K.countGap l (K.live h (inMotion_of_running (l := l) (by rcases hs with hs | hs <;> simp_all))) h
  unfold Machine.queueStep
  split
  · next hs => exact running (.inl hs)
  · next hs => exact running (.inr hs)
  · split
    · exact K.queue l (by exact List.tail_sublist _) h
    · exact h
  all_goals exact h

theorem Kept.substitute {s : State} (c : Chan) (h : P s) : P (substitute c s) := by
  unfold Machine.substitute
  dsimp only
  split
  · exact K.sendGate _ _ _ _ h
  · exact h

end SharedOperations

end Sys2Proof.Machine


namespace Sys2Proof.Machine

/-! ### What moves and reactions do to the channel states -/

theorem gateSync_state (c d : Chan) (s : State) : (vget (gateSync c s).engines d).state = (vget s.engines d).state := by
  unfold gateSync
  dsimp only
  split
  · rfl
  · split <;> simp only [setRequest, recompute, sendGate, State.eng, vget_vset] <;> (repeat' split) <;> simp_all

theorem gateSyncs_state (d : Chan) (l : List Chan) (s : State) :
    (vget (gateSyncs l s).engines d).state = (vget s.engines d).state :=
  gateSyncs_induct (fun u => (vget u.engines d).state = (vget s.engines d).state)
    (fun c _ h => (gateSync_state c d _).trans h) l s rfl

/-- A move writes the channel state of its leader and no other. -/
theorem moveGroup_state (l : Chan) (new : ChState) (timer : Option Nat) (s : State) (c : Chan) :
    (vget (moveGroup l new timer s).engines c).state = if l = c then new else (vget s.engines c).state := by
  have synced : (vget (gateSyncs (s.group l) { s with
      engines := vset s.engines l { s.eng l with state := new, timer := timer, holdFault := false } }).engines c).state =
        if l = c then new else (vget s.engines c).state := by
    rw [gateSyncs_state]
    simp only [vget_vset]
    split <;> simp_all
  unfold moveGroup
  dsimp only
  split <;> simpa using synced

/-- A channel stays, or goes from RELEASING or RUN to HOLDING: all that reactions do to channel states. -/
def ChState.staysOrHolds (a b : ChState) : Prop := b = a ∨ (a.running = true ∧ b = .holding)

theorem ChState.staysOrHolds_trans {a b c : ChState} (h : a.staysOrHolds b) (h' : b.staysOrHolds c) : a.staysOrHolds c := by
  rcases h with rfl | ⟨ha, rfl⟩
  · exact h'
  · rcases h' with rfl | ⟨hb, -⟩
    · exact .inr ⟨ha, rfl⟩
    · cases hb

/-- Every channel stays, or goes to HOLDING. -/
def State.restsIn (s t : State) : Prop := ∀ c, (vget s.engines c).state.staysOrHolds (vget t.engines c).state

theorem State.restsIn_of_eq {s t : State} (h : ∀ c, (vget t.engines c).state = (vget s.engines c).state) : s.restsIn t :=
  fun c => .inl (h c)

theorem State.restsIn_trans {s t u : State} (h : s.restsIn t) (h' : t.restsIn u) : s.restsIn u :=
  fun c => ChState.staysOrHolds_trans (h c) (h' c)

theorem toHolding_restsIn {l : Chan} {s : State} (h : (vget s.engines l).state.running = true) :
    s.restsIn (toHolding l s) := by
  intro c
  unfold toHolding
  rw [moveGroup_state]
  split
  · next hc => exact .inr ⟨hc ▸ h, rfl⟩
  · exact .inl (by simp)

theorem changeHolder_restsIn (l : Chan) (new : Option Port) (s : State) : s.restsIn (changeHolder l new s) := by
  unfold changeHolder
  dsimp only
  split
  · next h =>
    simp only [Bool.and_eq_true] at h
    exact toHolding_restsIn (by simpa using h.2)
  · exact State.restsIn_of_eq fun _ => rfl

theorem installHead_restsIn (l : Chan) (s : State) : s.restsIn (installHead l s) := by
  unfold installHead
  split
  · exact changeHolder_restsIn _ _ _
  · exact State.restsIn_trans (State.restsIn_of_eq fun _ => rfl) (changeHolder_restsIn _ _ _)

theorem displace_restsIn (l : Chan) (old : Port) (s : State) : s.restsIn (displace l old s) :=
  State.restsIn_trans (installHead_restsIn l s) (State.restsIn_of_eq fun _ => by simp [displace])

theorem revokePortFrom_restsIn (p : Port) (l : Chan) (s : State) : s.restsIn (revokePortFrom p l s) := by
  unfold revokePortFrom
  dsimp only
  split
  · exact State.restsIn_trans (t := { s with auth := vset s.auth l { s.auRec l with
        waiting := (s.auRec l).waiting.filter fun x => decide (x.port ≠ p) } })
      (State.restsIn_of_eq fun _ => rfl) (displace_restsIn _ _ _)
  · exact State.restsIn_of_eq fun _ => rfl

/-- What a reaction does to the channel states: a revoked holder's running channel goes to HOLDING. -/
theorem performReaction_restsIn (x : PendingEntry) (s : State) : s.restsIn (performReaction x s) := by
  have rest {t : State} (h : t.engines = s.engines) : s.restsIn t := State.restsIn_of_eq fun _ => by rw [h]
  obtain ⟨k, sc, first, n, e⟩ := x
  cases k with
  | supplyLost | linkLow | linkHigh | chargeFail | wakeFail | safeStop =>
    exact rest (by simp [performReaction])
  | overcurrent | bridgeFault | sampleLost => exact rest rfl
  | portSilent => cases sc with
    | port p =>
      have revoked : s.restsIn (revokePortFroms p allChans s) :=
        revokePortFroms_induct (fun u => s.restsIn u) p
          (fun l u hu _ => State.restsIn_trans hu (revokePortFrom_restsIn p l u)) _ _ (State.restsIn_of_eq fun _ => rfl)
      exact State.restsIn_trans revoked (State.restsIn_of_eq fun _ => by simp [performReaction, portSilentReaction])
    | channel _ | link | all => exact rest rfl
  | starved => cases sc with
    | channel c =>
      show s.restsIn (broadcast .fault (revokeStarved (s.lead c) e s))
      unfold revokeStarved
      split
      · split
        · exact State.restsIn_trans (displace_restsIn _ _ _) (State.restsIn_of_eq fun _ => rfl)
        · exact rest rfl
      · exact rest rfl
    | port _ | link | all => exact rest rfl
  | brakeFault => cases sc with
    | channel c =>
      refine State.restsIn_of_eq fun d => ?_
      simp only [performReaction, brakeFaultReaction, broadcast_engines, flushQueue_engines, vget_vset, State.eng]
      split <;> simp_all
    | port _ | link | all => exact rest rfl
  | thermal => cases sc with
    | channel c =>
      refine State.restsIn_of_eq fun d => ?_
      simp only [performReaction, thermalReaction, broadcast_engines, vget_vset, State.eng]
      split <;> simp_all
    | port _ | link | all => exact rest rfl

theorem takeReactions_restsIn (s : State) : s.restsIn (takeReactions s) :=
  takeReactions_induct (fun u => s.restsIn u)
    (fun u x others hu _ _ => State.restsIn_trans hu
      (State.restsIn_trans (t := withPending others u) (State.restsIn_of_eq fun _ => rfl) (performReaction_restsIn x _)))
    (State.restsIn_of_eq fun _ => rfl)

theorem reportOrdinary_restsIn (k : FaultKind) (sc : Scope) (e : Option W16) (s : State) :
    s.restsIn (reportOrdinary k sc e s) :=
  State.restsIn_trans (State.restsIn_of_eq fun _ => rfl) (takeReactions_restsIn _)

theorem reportBrakes_restsIn (wrong : Feedback) (l : List Chan) (s : State) : s.restsIn (reportBrakes wrong l s) :=
  reportBrakes_induct (fun u => s.restsIn u) wrong
    (fun _ _ hu => State.restsIn_trans hu (reportOrdinary_restsIn _ _ _ _)) l s (State.restsIn_of_eq fun _ => rfl)

/-! ### The writes of single commands -/

/-- The port's request leads to the channel in OPERATING: the checks of the route are passed (01, R17). -/
def State.routesTo (s : State) (p : Port) (l : Chan) : Prop :=
  s.phase = .operating ∧ (∃ tag, s.consts.lookup tag p = some l) ∧ s.consts.isFollower l = false

/-- The write that a command alone makes, where it makes it, keeps the property; the other commands make none. -/
def OwnKept (P : State → Prop) (i : Instr) : Prop :=
  match i with
  | .periodStart order later => ∀ s : State, s.phase = .operating → P s → P (periodStart order later s)
  | .writeConstant p => ∀ (s : State) (k : Constants), p = s.safetyPort → s.phase = .config → P s → P { s with consts := k }
  | .freeze p => ∀ s : State, p = s.safetyPort → s.phase = .config → s.consts.freezeFault = none → P s → P (freezePart s)
  | .claim p => ∀ (s : State) (l : Chan), s.routesTo p l → s.rank p ≠ 0 → (s.auRec l).holder ≠ some p →
      waitPosition p (s.auRec l).waiting = none → P s →
      P (changeHolder l (some p) s) ∧ ∀ old, (s.auRec l).holder = some old → P (queueClaim p l old s).1
  | .engage p => ∀ (s : State) (l : Chan), s.routesTo p l → (s.auRec l).holder = some p → s.engageFault l = none → P s →
      P (toReleasing l s)
  | .demand p => ∀ (s : State) (l : Chan) (es : List RawEntry), s.routesTo p l → (s.auRec l).holder = some p →
      (s.eng l).state.demandable = true → P s →
      P (setEntries l (judgeEntries s.judgedPeriod (s.consts.isLeader l) es (s.queue l).entries).1 s)
  | .propose p => ∀ (s : State) (l : Chan) (f : ProposeFields) (window : Nat), s.routesTo p l → p ≠ s.safetyPort →
      f.outOfRange (s.consts.ceilingOf l) = none → P s →
      P { s with envs := vset s.envs l ((s.env l).proposed p f.values window) }
  | .confirm p => ∀ (s : State) (l : Chan) (x : Proposal), p = s.safetyPort → (s.env l).proposal = some x → P s →
      P { s with envs := vset s.envs l { s.env l with guarded := x.values, revision := (s.env l).revision + 1 } }
  | .safeRelease p => ∀ s : State, p = s.safetyPort → s.phase = .operating → P s → P (setLatch false s)
  | .powerOn pins => ∀ s : State, P s → P (resetTo .powerOn Constants.initial none pins s)
  | .line pins => ∀ s : State, P s → P (resetTo .line s.consts s.retained.severe pins s)
  | .commanded pins => ∀ s : State, P s → P (resetTo .commanded s.consts s.retained.severe pins s)
  | _ => True

section Commands

variable {P : State → Prop} {L M : Phase → Prop} (K : Kept P L M)
include K

/-! ### The works of a period start -/

theorem Kept.timerStep {s : State} (l : Chan) (h : P s) : P (timerStep l s) := by
  have live (hs : (s.eng l).state ≠ .off) : L s.phase := K.live h (inMotion_of_running hs)
  unfold Machine.timerStep
  dsimp only
  split
  case h_1 hs =>
    have hl := live (by rw [hs]; decide)
    split
    · exact K.takeReactions (K.toRun l hs h)
    · split
      · refine K.takeReactions (K.toHolding l ?_ (K.reportBrakes _ _ hl h))
        rcases reportBrakes_restsIn .engaged (s.group l) s l with hr | ⟨-, hr⟩
        · exact .inl (by rw [State.eng, hr, ← State.eng, hs]; rfl)
        · exact .inr hr
      · exact h
  case h_2 hs =>
    have hl := live (by rw [hs]; decide)
    split
    · exact h
    · split
      · exact K.toRamping l hs h
      · split
        · exact K.reportBrakes _ _ (by exact hl) (K.engine l (by exact ⟨rfl, rfl, .inl ⟨rfl, rfl⟩⟩) h)
        · exact h
  case h_3 hs =>
    have s1 := K.rampStep l (.inl hs) h
    split
    · exact K.toOff l s1
    · exact s1
  case h_4 hs =>
    have s1 := K.rampStep l (.inr hs) h
    split
    · exact K.reportDeparture (K.toOff l s1)
    · exact s1
  all_goals exact h

theorem Kept.laterSteps {s : State} (l : Chan) (h : P s) : P (laterSteps l s) := K.queueStep l (K.timerStep l h)

theorem Kept.engineStart {s : State} (first : Bool) (l : Chan) (hl : L s.phase) (h : P s) : P (engineStart first l s) :=
  substitutes_induct P (fun c _ h => K.substitute c h) _ _ (K.laterSteps l (K.missSteps first _ hl h))

theorem Kept.lockExpiryOf {s : State} (l : Chan) (h : P s) : P (lockExpiryOf l s) := by
  have unlocked := K.record l (r := { s.auRec l with lock := none }) ⟨rfl, rfl, List.Sublist.refl _, id⟩ h
  unfold Machine.lockExpiryOf
  dsimp only
  split
  · refine K.takeReactions (K.preemptByHead l ?_)
    split
    · exact K.handTo _ _ unlocked
    · exact unlocked
  · exact h

theorem Kept.handoverExpiryOf {s : State} (l : Chan) (h : P s) : P (handoverExpiryOf l s) := by
  unfold Machine.handoverExpiryOf
  split
  · next x hx =>
    split
    · have hl : M s.phase := K.counts h (.inl ⟨l, by rw [hx]; exact Option.some_ne_none _⟩)
      exact K.reportOrdinary _ rfl rfl (by exact hl) (K.dropHandover l h)
    · exact h
  · exact h

theorem Kept.proposalExpiryOf {s : State} (l : Chan) (h : P s) : P (proposalExpiryOf l s) := by
  unfold Machine.proposalExpiryOf
  split
  · split
    · exact K.endProposal _ _ h
    · exact h
  · exact h

theorem Kept.overdueEngine {s : State} (l : Chan) (h : P s) : P (overdueEngine l s) := by
  unfold Machine.overdueEngine
  split
  · exact K.laterSteps l h
  · exact h

theorem Kept.overdueWork {s : State} (w : Work) (h : P s) : P (overdueWork w s) := by
  cases w with
  | engine c => exact K.overdueEngine c h
  | supply => exact h
  | lock c => exact K.lockExpiryOf c h
  | handover c => exact K.handoverExpiryOf c h
  | proposal c => exact K.proposalExpiryOf c h
  | linkTimer => exact K.linkTimerExpiry h
  | silence p => exact K.silenceExpiry p h
  | pacing p => exact K.pacingExpiry p h
  | debounce i => exact K.debounceExpiry i h

/-! Reactions that wait for a take (log 31): the properties here do not read which channels they wait on. -/

section HeldTakes

variable (hold : ∀ (s : State) (v : Vector Bool 8), P s → P { s with react := { s.react with untilTake := v } })
include hold

theorem Kept.takeHeld {s : State} (l : Chan) (h : P s) : P (takeHeld l s) := by
  unfold Machine.takeHeld
  split
  · exact K.takeReactions (hold _ _ h)
  · exact h

theorem Kept.handoverAtStart {s : State} (l : Chan) (h : P s) : P (handoverAtStart l s) := by
  unfold Machine.handoverAtStart
  split
  · exact K.handoverExpiryOf l (hold _ _ h)
  · exact K.handoverExpiryOf l h

theorem Kept.runWork {s : State} (first : Bool) (w : Work) (hl : L s.phase) (h : P s) : P (runWork first w s) := by
  cases w with
  | engine c =>
    refine K.takeHeld hold c ?_
    split
    · exact K.engineStart first c hl h
    · exact h
  | supply => exact K.supplyCheck first hl h
  | lock c => exact K.lockExpiryOf c h
  | handover c => exact K.handoverAtStart hold c h
  | proposal c => exact K.proposalExpiryOf c h
  | linkTimer => exact K.linkTimerExpiry h
  | silence p => exact K.silenceExpiry p h
  | pacing p => exact K.pacingExpiry p h
  | debounce i => exact K.debounceExpiry i h

theorem Kept.leaveWork {s : State} (first : Bool) (w : Work) (hl : L s.phase) (h : P s) : P (leaveWork first w s) := by
  cases w with
  | engine c =>
    refine K.takeHeld hold c ?_
    split
    · split
      · exact K.missSteps first _ hl h
      · exact K.engineStart first c hl h
    · exact h
  | supply => exact K.supplyCheck first hl h
  | lock _ | handover _ | proposal _ | linkTimer | silence _ | pacing _ | debounce _ => exact h

/-- A period start keeps what its counting and its works keep (01, R1, R7). -/
theorem Kept.periodStart {s : State} (order later : List Work)
    (count : ∀ u : State, u.phase = .operating → P u → P (advance u)) (hop : s.phase = .operating) (h : P s) :
    P (periodStart order later s) := by
  have overdue : P (overdueWorks allWorks s) :=
    overdueWorks_induct P (fun w _ h => K.overdueWork w h) (fun _ h => K.settle h) _ _ h
  have begun := K.sendMarks allChans (count _ (by simpa using hop) overdue)
  have hl : L s.phase := K.live h (.inl hop)
  have ran := runWorks_induct (fun u => L u.phase ∧ P u) (!s.started)
    (fun w _ hu => ⟨by simpa using hu.1, K.runWork hold _ w hu.1 hu.2⟩) (fun _ hu => ⟨by simpa using hu.1, K.settle hu.2⟩)
    (worksInOrder order later) _ ⟨by simpa [advance] using hl, begun⟩
  have left := leaveWorks_induct (fun u => L u.phase ∧ P u) (!s.started)
    (fun w _ hu => ⟨by simpa using hu.1, K.leaveWork hold _ w hu.1 hu.2⟩) (fun _ hu => ⟨by simpa using hu.1, K.settle hu.2⟩)
    (later.eraseDups.filter fun w => !order.contains w) _ ran
  exact takeHelds_induct P (fun c _ h => K.takeHeld hold c h) allChans _ left.2

end HeldTakes

/-! ### Requests (09, R169) -/

/-- The service of a request keeps what its owner keeps. -/
theorem Kept.served {α : Type} {s : State} (p : Port) (code : Nat) (parse : List Byte → Option α)
    (owner : α → State → State × Reply) (hown : ∀ a u, P u → P (owner a u).1) (h : P s) :
    P (Machine.serve p code parse owner s) :=
  serve_induct P p code parse owner (fun _ h => K.popRequest p h) hown (fun _ _ _ h => K.putAnswer p _ _ _ h) h

omit K in
/-- The route's checks keep what the channel's own service keeps. -/
theorem routed_keeps {s : State} (p : Port) (tag : Nat) (own : Chan → State → State × Reply) (h : P s)
    (hown : ∀ l, s.routesTo p l → P (own l s).1) : P (onRoute p tag own s).1 :=
  onRoute_induct P p tag own h (fun l hop hl hf => hown l ⟨hop, ⟨tag, hl⟩, hf⟩)

omit K in
theorem asHolder_keeps {s : State} (p : Port) (e : W16) (own : Chan → State → State × Reply) (l : Chan) (h : P s)
    (hown : (s.auRec l).holder = some p → P (own l s).1) : P (asHolder p e own l s).1 := by
  unfold Machine.asHolder
  split
  · next hh =>
    split
    · exact hown (of_decide_eq_true hh)
    · exact h
  · exact h

omit K in
theorem fromRanked_keeps {p : Port} {own : State → State × Reply} {s : State} (h : P s)
    (hown : s.phase = .operating → P (own s).1) : P (fromRanked p own s).1 := by
  unfold fromRanked
  split
  · exact h
  · next hc =>
    split
    · exact h
    · exact hown (inConfig_eq_false.mp (by simpa using hc))

omit K in
theorem fromSafety_keeps {p : Port} {own : State → State × Reply} {s : State} (h : P s)
    (hown : s.phase = .operating → p = s.safetyPort → P (own s).1) : P (fromSafety p own s).1 := by
  unfold fromSafety
  split
  · exact h
  · next hc =>
    split
    · next hp => exact hown (inConfig_eq_false.mp (by simpa using hc)) hp
    · exact h

theorem Kept.ackInputs : ∀ (l : List Input) {s : State}, P s → P (ackInputs l s).1
  | [], _, h => h
  | _ :: rest, _, h => Kept.ackInputs rest (K.inputs _ h)

theorem Kept.afterWrite {s : State} (x : ConstName) (i : Input) (b : Binding) (h : P s) : P (afterWrite x i b s) := by
  unfold Machine.afterWrite
  split
  · exact K.qualify i h
  · split
    · exact h
    · exact K.recordLevel _ _ _ h
  · exact h

theorem Kept.writeConstantOwner {s : State} (p : Port) (f : ConstFields) (own : OwnKept P (.writeConstant p)) (h : P s) :
    P (writeConstantOwner p f s).1 := by
  unfold Machine.writeConstantOwner
  split
  · exact h
  · next hp =>
    split
    · exact h
    · next hc =>
      split
      · exact h
      · split
        · exact h
        · split
          · exact h
          · exact K.afterWrite _ _ _ (own s _ (Classical.not_not.mp hp) (inConfig_eq_true.mp (by simpa using hc)) h)

omit K in
theorem Kept.freezeOwner {s : State} (p : Port) (own : OwnKept P (.freeze p)) (h : P s) : P (freezeOwner p () s).1 := by
  unfold Machine.freezeOwner
  split
  · exact h
  · next hp =>
    split
    · exact h
    · next hc =>
      split
      · exact h
      · next hf => exact own s (Classical.not_not.mp hp) (inConfig_eq_true.mp (by simpa using hc)) hf h

theorem Kept.claimOn {s : State} (p : Port) (w : Bool) (l : Chan) (own : OwnKept P (.claim p)) (hr : s.routesTo p l)
    (h : P s) : P (claimOn p w l s).1 := by
  unfold Machine.claimOn
  dsimp only
  split
  · exact h
  · next hrank =>
    split
    · exact h
    · next hold =>
      split
      · exact h
      · next hw hn => exact K.takeReactions (own s l hr hrank hold hw h).1
      · next old hw hold' =>
        split
        · exact K.takeReactions (K.handTo _ _ (own s l hr hrank hold hw h).1)
        · split
          · exact (own s l hr hrank hold hw h).2 old hold'
          · exact h

theorem Kept.claimOwner {s : State} (p : Port) (f : Nat × Bool) (own : OwnKept P (.claim p)) (h : P s) :
    P (claimOwner p f s).1 := by
  have claimed := routed_keeps p f.1 (Machine.claimOn p f.2) h fun l hr => K.claimOn p f.2 l own hr h
  unfold Machine.claimOwner
  dsimp only
  split
  · exact K.wakeLink claimed
  · exact claimed

theorem Kept.cancelOn {s : State} (p : Port) (l : Chan) (h : P s) : P (cancelOn p l s).1 := by
  unfold Machine.cancelOn
  dsimp only
  split
  · exact h
  · exact K.record l (by exact ⟨rfl, rfl, List.filter_sublist, id⟩) h

theorem Kept.releaseOn {s : State} (p : Port) (l : Chan) (h : P s) : P (releaseOn p l s).1 := by
  unfold Machine.releaseOn
  split
  · exact K.takeReactions (K.noticeHolder l (K.installHead l h))
  · exact h

theorem Kept.lockOn {s : State} (p : Port) (ms : Nat) (l : Chan) (h : P s) : P (lockOn p ms l s).1 := by
  unfold Machine.lockOn
  split
  · split
    · exact K.record l (by exact ⟨rfl, rfl, List.Sublist.refl _, id⟩) h
    · exact h
  · exact h

theorem Kept.unlockOn {s : State} (p : Port) (l : Chan) (h : P s) : P (unlockOn p l s).1 := by
  unfold Machine.unlockOn
  split
  · split
    · exact K.takeReactions (K.preemptByHead l (K.record l (by exact ⟨rfl, rfl, List.Sublist.refl _, id⟩) h))
    · exact h
  · exact h

theorem Kept.engageOn {s : State} (p : Port) (l : Chan) (own : OwnKept P (.engage p)) (hr : s.routesTo p l) (h : P s) :
    P (engageOn p l s).1 := by
  unfold Machine.engageOn
  split
  · next hh =>
    split
    · dsimp only
      split
      · exact K.wakeLink h
      · exact h
    · next hf => exact own s l hr (of_decide_eq_true hh) hf h
  · exact h

theorem Kept.disengageOn {s : State} (p : Port) (l : Chan) (h : P s) : P (disengageOn p l s).1 := by
  unfold Machine.disengageOn
  split
  · split
    · next hrun => exact K.takeReactions (K.toHolding l (.inl hrun) h)
    · exact h
  · exact h

theorem Kept.forceRampOn {s : State} (p : Port) (l : Chan) (h : P s) : P (forceRampOn p l s).1 := by
  unfold Machine.forceRampOn
  split
  · split
    · next hs => exact K.toRamping l hs h
    · exact h
  · exact h

theorem Kept.clearTrips : ∀ (l : List Chan) {s : State}, P s → P (clearTrips l s)
  | [], _, h => h
  | c :: rest, _, h => Kept.clearTrips rest (K.engine c (by exact ⟨rfl, rfl, .inl ⟨rfl, rfl⟩⟩) h)

theorem Kept.clearMarks : ∀ (l : List Chan) {s : State}, P s → P (clearMarks l s)
  | [], _, h => h
  | c :: rest, _, h => Kept.clearMarks rest (K.engine c (by exact ⟨rfl, rfl, .inl ⟨rfl, rfl⟩⟩) h)

theorem Kept.restoreOn {s : State} (p : Port) (l : Chan) (h : P s) : P (restoreOn p l s).1 := by
  unfold Machine.restoreOn
  split
  · split
    · exact h
    · split
      · split
        · exact h
        · exact K.toOff l (K.clearTrips _ h)
      · exact K.clearMarks _ h
      all_goals exact h
  · exact h

theorem Kept.setEntries {s : State} (l : Chan) {es : List Entry} (hs : es.Sublist (s.queue l).entries) (h : P s) :
    P (setEntries l es s) := K.queue l hs h

omit K in
theorem keptBefore_sublist (judged from_ : W32) (q : List Entry) : (keptBefore judged from_ q).Sublist q := by
  unfold keptBefore
  split
  · exact List.nil_sublist _
  · split
    · exact List.Sublist.refl _
    · exact List.filter_sublist

theorem Kept.setOpenOn {s : State} (p : Port) (f : SetOpenFields) (l : Chan) (h : P s) : P (setOpenOn p f l s).1 := by
  have opened := K.env l (e := (s.env l).opened f.changes.items) ⟨rfl, fun x hx => ⟨x, hx, rfl, rfl⟩⟩ h
  unfold Machine.setOpenOn
  dsimp only
  split
  · exact h
  · split
    · exact h
    · split
      · exact h
      · split
        · exact h
        · exact opened

theorem Kept.proposeOn {s : State} (p : Port) (f : ProposeFields) (l : Chan) (own : OwnKept P (.propose p))
    (hr : s.routesTo p l) (h : P s) : P (proposeOn p f l s).1 := by
  unfold Machine.proposeOn
  dsimp only
  split
  · exact h
  · split
    · exact h
    · next hp =>
      split
      · exact h
      · next hf =>
        split
        · exact h
        · split
          · exact h
          · exact K.handTo _ _ (own s l f _ hr hp hf h)

theorem Kept.cancelProposalOn {s : State} (p : Port) (l : Chan) (h : P s) : P (cancelProposalOn p l s).1 := by
  unfold Machine.cancelProposalOn
  split
  · split
    · exact K.endProposal _ _ h
    · exact h
  · exact h

omit K in
theorem answering_keeps {s : State} (p : Port) (n : Nat) (own : Proposal → State → State × Reply) (l : Chan) (h : P s)
    (hown : ∀ x, p = s.safetyPort → (s.env l).proposal = some x → P (own x s).1) : P (answering p n own l s).1 := by
  unfold answering
  split
  · exact h
  · next hp =>
    split
    · exact h
    · next x hx =>
      split
      · exact h
      · exact hown x (Classical.not_not.mp hp) hx

omit K in
theorem withLinkState_fst (s : State) : (withLinkState s).1 = s := rfl

omit K in
theorem safeStopOn_fst (s : State) : (safeStopOn s).1 = (detectSafeStop s).1 := by
  simp only [safeStopOn]

theorem Kept.linkUpOn {s : State} (hl : L s.phase) (h : P s) : P (linkUpOn s).1 := by
  unfold Machine.linkUpOn
  split
  · exact h
  · split
    · next hs =>
      rw [withLinkState_fst]
      exact K.changeLink _ (.inl hl) (.inl (by simp [hs])) h
    · rw [withLinkState_fst]
      exact K.wakeLink h
    all_goals exact h

theorem Kept.linkParkOn {s : State} (hl : L s.phase) (h : P s) : P (linkParkOn s).1 := by
  have park : P (if s.allIdle then withLinkState (Machine.changeLink .parked s) else (s, .bare .state)).1 := by
    split
    · next hi =>
      rw [withLinkState_fst]
      exact K.changeLink _ (.inl hl) (.inr hi) h
    · exact h
  unfold Machine.linkParkOn
  split
  · exact park
  · exact park
  all_goals exact h

theorem Kept.linkDownOn {s : State} (hl : L s.phase) (h : P s) : P (linkDownOn s).1 := by
  have down : P (if s.allIdle then withLinkState (Machine.changeLink .draining s) else (s, .bare .state)).1 := by
    split
    · next hi =>
      rw [withLinkState_fst]
      exact K.changeLink _ (.inl hl) (.inr hi) h
    · exact h
  unfold Machine.linkDownOn
  split
  case h_6 | h_7 => exact h
  all_goals exact down

theorem Kept.safeReleaseOn {s : State} (h : P s) (own : P (setLatch false s)) : P (safeReleaseOn s).1 := by
  unfold Machine.safeReleaseOn
  split
  · exact h
  · split
    · exact h
    · split
      · exact K.broadcast _ own
      · exact h

theorem Kept.setMaskOn {s : State} (ns : List Nat) (h : P s) : P (setMaskOn ns s).1 := by
  unfold Machine.setMaskOn
  split
  · exact h
  · split
    · exact K.takeReactions (K.react _ (by exact ⟨rfl, rfl, rfl, rfl, rfl⟩) h)
    · exact h

theorem Kept.inputAckOn {s : State} (ns : List Nat) (h : P s) : P (inputAckOn ns s).1 := by
  unfold Machine.inputAckOn
  split
  · exact h
  · split
    · exact h
    · exact K.ackInputs _ h

theorem Kept.subscribeOwner {s : State} (p : Port) (ns : List Nat) (h : P s) : P (subscribeOwner p ns s).1 := by
  unfold Machine.subscribeOwner
  split
  · exact h
  · split
    · exact K.port p (by exact ⟨rfl, rfl, Nat.le_refl _⟩) h
    · exact h

theorem Kept.setPacingOwner {s : State} (p : Port) (ms : Nat) (h : P s) : P (setPacingOwner p ms s).1 := by
  unfold Machine.setPacingOwner
  split
  · exact h
  · split
    · exact K.port p (by exact ⟨rfl, rfl, Nat.le_refl _⟩) h
    · exact h

theorem Kept.serveUnknown {s : State} (p : Port) (h : P s) : P (serveUnknown p s) := by
  unfold Machine.serveUnknown
  split
  · exact h
  · split
    · exact K.putAnswer _ _ _ _ (K.popRequest _ h)
    · exact h

theorem Kept.serveReset {s : State} (p : Port) (h : P s) : P (serveReset p s) := by
  have popped := K.popRequest p h
  unfold Machine.serveReset
  split
  · exact h
  · split
    · exact h
    · split
      · exact K.putAnswer _ _ _ _ popped
      · split
        · exact K.putAnswer _ _ _ _ (K.free _ _ _ _ _ popped)
        · exact K.putAnswer _ _ _ _ popped

omit K in
theorem readConstantOwner_keeps {s : State} (p : Port) (f : ConstFields) (h : P s) : P (readConstantOwner p f s).1 := by
  unfold readConstantOwner
  split
  · exact h
  · split
    · exact h
    · split <;> exact h

omit K in
/-- A reading request served from FREEZE on keeps everything. -/
theorem frozenRead_keeps {s : State} {r : Reply} (h : P s) :
    P (if s.inConfig then (s, Reply.bare .unfrozen) else (s, r)).1 := by
  split <;> exact h

omit K in
theorem demandOwner_keeps {s : State} (p : Port) (f : DemandFields) (own : OwnKept P (.demand p)) (h : P s) :
    P (demandOwner p f s).1 :=
  routed_keeps p f.tag (asHolder p f.epoch (demandOn f.entries)) h fun l hr =>
    asHolder_keeps p f.epoch (demandOn f.entries) l h fun hh => by
      unfold demandOn
      split
      · next hd => exact own s l f.entries hr hh hd h
      · exact h

theorem Kept.retractOwner {s : State} (p : Port) (f : RetractFields) (h : P s) : P (retractOwner p f s).1 :=
  routed_keeps p f.tag (Machine.asHolder p f.epoch (retractOn f.stamp)) h fun l _ =>
    asHolder_keeps p f.epoch (retractOn f.stamp) l h fun _ => K.setEntries l (keptBefore_sublist _ _ _) h

theorem Kept.flushOwner {s : State} (p : Port) (f : Nat × Nat) (h : P s) : P (flushOwner p f s).1 :=
  routed_keeps p f.1 (Machine.asHolder p (BitVec.ofNat 16 f.2) flushOn) h fun l _ =>
    asHolder_keeps p (BitVec.ofNat 16 f.2) flushOn l h fun _ => K.flushQueue l h

theorem Kept.confirmOwner {s : State} (p : Port) (f : Nat × Nat) (own : OwnKept P (.confirm p)) (h : P s) :
    P (confirmOwner p f s).1 :=
  routed_keeps p f.1 (confirmOn p f.2) h fun l _ =>
    answering_keeps p f.2 (fun x s => (commitProposal l x s, .okWith (wordBytes ((s.env l).revision + 1)))) l h
      fun x hp hx => K.endProposal l .confirmed (own s l x hp hx h)

theorem Kept.rejectOwner {s : State} (p : Port) (f : Nat × Nat) (h : P s) : P (rejectOwner p f s).1 :=
  routed_keeps p f.1 (rejectOn p f.2) h fun l _ =>
    answering_keeps p f.2 (fun _ s => (Machine.endProposal l .rejected s, .bare .ok)) l h
      fun _ _ _ => K.endProposal l .rejected h

/-! ### Every command -/

/-- Every command completes and keeps what the shared operations and its own write keep. -/
theorem exec_kept {s : State} (i : Instr) (own : OwnKept P i) (h : P s) : ∃ t, exec i s = .next t ∧ P t := by
  have ends {u : State} (hu : P u) : ∃ t, done u = .next t ∧ P t := ⟨_, rfl, K.settle hu⟩
  have overdue (c : Chan) := ends (K.overdueEngine c h)
  cases i with
  | periodStart order later =>
    show ∃ t, execPeriodStart order later s = .next t ∧ P t
    unfold execPeriodStart
    split
    · exact ⟨s, rfl, h⟩
    · next hc => exact ends (own s (inConfig_eq_false.mp (by simpa using hc)) h)
  | brakeTimerExpiry c =>
    show ∃ t, execBrakeTimerExpiry c s = .next t ∧ P t
    unfold execBrakeTimerExpiry
    split <;> first | exact overdue c | exact ⟨s, rfl, h⟩
  | rampCountExpiry c =>
    show ∃ t, execRampCountExpiry c s = .next t ∧ P t
    unfold execRampCountExpiry
    split <;> first | exact overdue c | exact ⟨s, rfl, h⟩
  | stopCountExpiry c =>
    show ∃ t, execStopCountExpiry c s = .next t ∧ P t
    unfold execStopCountExpiry
    split <;> first | exact overdue c | exact ⟨s, rfl, h⟩
  | lockExpiry c => exact ends (K.lockExpiryOf c h)
  | handoverDeadline c => exact ends (K.handoverExpiryOf c h)
  | proposalExpiry c => exact ends (K.proposalExpiryOf c h)
  | chargeTimerExpiry => exact ends (K.chargeExpiry h)
  | settleTimerExpiry => exact ends (K.settleExpiry h)
  | wakeTimerExpiry => exact ends (K.wakeExpiry h)
  | sampleRecord c bytes => exact ends (K.receiveSample c bytes h)
  | supplyRecord bytes => exact ends (K.receiveSupply bytes h)
  | frameReceived p bytes => exact ends (K.receiveFrame p bytes h)
  | linkSignalGained p => exact ends (K.gainSignal p h)
  | linkSignalLost p mid => exact ends (K.loseSignal p mid h)
  | silenceTimerExpiry p => exact ends (K.silenceExpiry p h)
  | transmissionComplete p => exact ends (K.completeSend p h)
  | pacingTimerExpiry p => exact ends (K.pacingExpiry p h)
  | pinChange j high => exact ends (K.changePin j high h)
  | debounceCountExpiry j => exact ends (K.debounceExpiry j h)
  | unknownRequest p => exact ends (K.serveUnknown p h)
  | queryPart p => exact ends (K.served p 1 readNothing queryPartOwner (fun _ _ hu => hu) h)
  | writeConstant p => exact ends (K.served p 2 readWriteConstant (writeConstantOwner p) (fun f _ hu => K.writeConstantOwner p f own hu) h)
  | readConstant p => exact ends (K.served p 3 readReadConstant (readConstantOwner p) (fun f _ hu => readConstantOwner_keeps p f hu) h)
  | freeze p => exact ends (K.served p 4 readNothing (freezeOwner p) (fun _ _ hu => Kept.freezeOwner p own hu) h)
  | resetPart p => exact ends (K.serveReset p h)
  | claim p => exact ends (K.served p 6 readTagFlag (claimOwner p) (fun f _ hu => K.claimOwner p f own hu) h)
  | cancelClaim p => exact ends (K.served p 7 readByte (cancelClaimOwner p) (fun tag _ hu => routed_keeps p tag (cancelOn p) hu fun l _ => K.cancelOn p l hu) h)
  | release p => exact ends (K.served p 8 readByte (releaseOwner p) (fun tag _ hu => routed_keeps p tag (releaseOn p) hu fun l _ => K.releaseOn p l hu) h)
  | lock p => exact ends (K.served p 9 readTagWord (lockOwner p) (fun f _ hu => routed_keeps p f.1 (lockOn p f.2) hu fun l _ => K.lockOn p f.2 l hu) h)
  | unlock p => exact ends (K.served p 10 readByte (unlockOwner p) (fun tag _ hu => routed_keeps p tag (unlockOn p) hu fun l _ => K.unlockOn p l hu) h)
  | queryAuthority p => exact ends (K.served p 11 readByte (queryAuthorityOwner p) (fun tag _ hu => routed_keeps p tag _ hu fun _ _ => hu) h)
  | engage p => exact ends (K.served p 12 readByte (engageOwner p) (fun tag _ hu => routed_keeps p tag (engageOn p) hu fun l hr => K.engageOn p l own hr hu) h)
  | disengage p => exact ends (K.served p 13 readByte (disengageOwner p) (fun tag _ hu => routed_keeps p tag (disengageOn p) hu fun l _ => K.disengageOn p l hu) h)
  | forceRamp p => exact ends (K.served p 14 readByte (forceRampOwner p) (fun tag _ hu => routed_keeps p tag (forceRampOn p) hu fun l _ => K.forceRampOn p l hu) h)
  | restore p => exact ends (K.served p 15 readByte (restoreOwner p) (fun tag _ hu => routed_keeps p tag (restoreOn p) hu fun l _ => K.restoreOn p l hu) h)
  | queryChannel p => exact ends (K.served p 16 readByte (queryChannelOwner p) (fun tag _ hu => routed_keeps p tag _ hu fun _ _ => hu) h)
  | demand p => exact ends (K.served p 17 readDemand (demandOwner p) (fun f _ hu => demandOwner_keeps p f own hu) h)
  | retract p => exact ends (K.served p 18 readRetract (retractOwner p) (fun f _ hu => K.retractOwner p f hu) h)
  | flush p => exact ends (K.served p 19 readTagWord (flushOwner p) (fun f _ hu => K.flushOwner p f hu) h)
  | queryQueue p => exact ends (K.served p 20 readByte (queryQueueOwner p) (fun tag _ hu => routed_keeps p tag _ hu fun _ _ => hu) h)
  | setOpen p => exact ends (K.served p 21 readSetOpen (setOpenOwner p) (fun f _ hu => routed_keeps p f.tag (setOpenOn p f) hu fun l _ => K.setOpenOn p f l hu) h)
  | propose p => exact ends (K.served p 22 readPropose (proposeOwner p) (fun f _ hu => routed_keeps p f.tag (proposeOn p f) hu fun l hr => K.proposeOn p f l own hr hu) h)
  | cancelProposal p => exact ends (K.served p 23 readByte (cancelProposalOwner p) (fun tag _ hu => routed_keeps p tag (cancelProposalOn p) hu fun l _ => K.cancelProposalOn p l hu) h)
  | confirm p => exact ends (K.served p 24 readTagByte (confirmOwner p) (fun f _ hu => K.confirmOwner p f own hu) h)
  | reject p => exact ends (K.served p 25 readTagByte (rejectOwner p) (fun f _ hu => K.rejectOwner p f hu) h)
  | queryEnvelope p => exact ends (K.served p 26 readByte (queryEnvelopeOwner p) (fun tag _ hu => routed_keeps p tag _ hu fun _ _ => hu) h)
  | linkUp p => exact ends (K.served p 27 readNothing (linkUpOwner p) (fun _ _ hu => fromRanked_keeps (own := linkUpOn) hu fun hop => K.linkUpOn (K.live hu (.inl hop)) hu) h)
  | linkPark p => exact ends (K.served p 28 readNothing (linkParkOwner p) (fun _ _ hu => fromRanked_keeps (own := linkParkOn) hu fun hop => K.linkParkOn (K.live hu (.inl hop)) hu) h)
  | linkDown p => exact ends (K.served p 29 readNothing (linkDownOwner p) (fun _ _ hu => fromRanked_keeps (own := linkDownOn) hu fun hop => K.linkDownOn (K.live hu (.inl hop)) hu) h)
  | queryLink p => exact ends (K.served p 30 readNothing queryLinkOwner (fun _ _ hu => frozenRead_keeps hu) h)
  | safeStop p => exact ends (K.served p 31 readNothing (safeStopOwner p) (fun _ _ hu => fromSafety_keeps (own := safeStopOn) hu fun hop _ => by
    rw [safeStopOn_fst]
    exact K.detectSafeStop hop hu) h)
  | safeRelease p => exact ends (K.served p 32 readNothing (safeReleaseOwner p) (fun _ u hu => fromSafety_keeps (own := safeReleaseOn) hu fun hop hp => K.safeReleaseOn hu (own u hp hop hu)) h)
  | setMask p => exact ends (K.served p 33 readList (setMaskOwner p) (fun ns _ hu => fromSafety_keeps (own := setMaskOn ns) hu fun _ _ => K.setMaskOn ns hu) h)
  | queryFaults p => exact ends (K.served p 34 readByte queryFaultsOwner (fun _ _ hu => frozenRead_keeps hu) h)
  | inputAck p => exact ends (K.served p 35 readList (inputAckOwner p) (fun ns _ hu => fromRanked_keeps (own := inputAckOn ns) hu fun _ => K.inputAckOn ns hu) h)
  | queryInputs p => exact ends (K.served p 36 readByte queryInputsOwner (fun _ _ hu => frozenRead_keeps hu) h)
  | subscribe p => exact ends (K.served p 37 readList (subscribeOwner p) (fun ns _ hu => K.subscribeOwner p ns hu) h)
  | setPacing p => exact ends (K.served p 38 readWord (setPacingOwner p) (fun ms _ hu => K.setPacingOwner p ms hu) h)
  | powerOn pins => exact ⟨_, rfl, own s h⟩
  | line pins => exact ⟨_, rfl, own s h⟩
  | commanded pins =>
    show ∃ t, execCommanded pins s = .next t ∧ P t
    unfold execCommanded
    split
    · exact ⟨_, rfl, own s h⟩
    all_goals exact ⟨s, rfl, h⟩

/-- A step keeps what the command at the front of the queue keeps on the state with the queue's rest. -/
theorem step_kept {s t : State} (hq : ∀ (u : State) (q : List Instr), P u → P (u.withQueue q))
    (own : ∀ i rest, s.pending = i :: rest → OwnKept P i) (h : P s) (hs : step s = .next t) : P t := by
  unfold Machine.step at hs
  split at hs
  · cases hs
    exact h
  · next i rest hp =>
    obtain ⟨u, hu, hPu⟩ := exec_kept K i (own i rest hp) (hq s rest h)
    rw [hu] at hs
    cases hs
    exact hPu

end Commands
end Sys2Proof.Machine


namespace Sys2Proof.Machine

/-! ### Properties that no move reads -/

/-- The writes once more, for a property that does not care which channel state, link state or reaction a write leads
to: RELEASING alone is entered elsewhere. -/
structure KeptMoves (P : State → Prop) : Prop where
  free : ∀ {s : State} (r : Retained) (x : CommandedReset) (pins : Vector Bool 16) (inputs : Vector InputBlock 16)
    (wire : List Emission), P s →
    P { s with retained := r, resetting := x, pins := pins, inputs := inputs, wire := wire }
  ports : ∀ {s : State} (v : Vector PortBlock 4), (∀ q, (vget v q).sameLine (vget s.ports q)) → P s →
    P { s with ports := v }
  line : ∀ {s : State} (p : Port) (b : PortBlock) (signal : Bool), s.lineMoves p b signal → P s →
    P { s with signals := vset s.signals p signal, ports := vset s.ports p b }
  queues : ∀ {s : State} (v : Vector DemandQueue 8),
    (∀ c, (vget v c).entries.Sublist (vget s.queues c).entries) → P s → P { s with queues := v }
  engines : ∀ {s : State} (v : Vector Engine 8),
    (∀ c, (vget v c).state = (vget s.engines c).state ∧ (vget v c).gateEnable = (vget s.engines c).gateEnable) → P s →
    P { s with engines := v }
  envs : ∀ {s : State} (v : Vector Envelope 8), (∀ c, (vget v c).follows (vget s.envs c)) → P s → P { s with envs := v }
  auth : ∀ {s : State} (v : Vector AuthRecord 8), P s → P { s with auth := v }
  link : ∀ {s : State} (b : LinkBlock), b.state = s.link.state → P s → P { s with link := b }
  react : ∀ {s : State} (r : ReactionBlock), r.untilTake = s.react.untilTake →
    (s.react.latch = true → r.latch = true) → P s → P { s with react := r }
  budget : ∀ {s : State} (b : Nat), P s → P (setBudget b s)
  request : ∀ {s : State} (c : Chan) (r : Nat), (s.eng c).gateEnable = true → P s → P (setRequest c r s)
  move : ∀ {s : State} (l : Chan) (new : ChState) (timer : Option Nat), new ≠ .releasing → P s →
    P (moveGroup l new timer s)
  enterLink : ∀ {s : State} (x : LinkState), P s → P (enterLink x s)

section

variable {P : State → Prop} (K : KeptMoves P)
include K

theorem KeptMoves.engine {s : State} (c : Chan) {e : Engine} (hs : e.state = (vget s.engines c).state)
    (hg : e.gateEnable = (vget s.engines c).gateEnable) (h : P s) : P { s with engines := vset s.engines c e } :=
  K.engines _ (rel_vset (R := fun a b : Engine => a.state = b.state ∧ a.gateEnable = b.gateEnable)
    (fun _ => ⟨rfl, rfl⟩) _ _ ⟨hs, hg⟩) h

theorem KeptMoves.queue {s : State} (c : Chan) {q : DemandQueue} (hq : q.entries.Sublist (vget s.queues c).entries)
    (h : P s) : P { s with queues := vset s.queues c q } :=
  K.queues _ (rel_vset (R := fun a b : DemandQueue => a.entries.Sublist b.entries) (fun _ => List.Sublist.refl _) _ _ hq) h

theorem KeptMoves.broadcast {s : State} (k : NoticeKind) (h : P s) : P (broadcast k s) := by
  refine K.ports _ (fun q => ?_) h
  rw [vget_vmap_ports]
  split
  · exact ⟨rfl, rfl, Nat.le_refl _⟩
  · exact PortBlock.sameLine_rfl _

theorem KeptMoves.flushQueue {s : State} (c : Chan) (h : P s) : P (flushQueue c s) := K.queue c (List.nil_sublist _) h

theorem KeptMoves.toOff {s : State} (l : Chan) (h : P s) : P (toOff l s) :=
  K.move l .off none (by decide) (K.engine l (by rfl) (by rfl) h)

theorem KeptMoves.toHolding {s : State} (l : Chan) (h : P s) : P (toHolding l s) :=
  K.move l .holding _ (by decide) (K.flushQueue l h)

theorem KeptMoves.recordStart {s : State} (l : Chan) (n : Nat) (h : P s) : P (recordStart l n s) :=
  K.engine l (by rfl) (by rfl) h

theorem KeptMoves.toRamping {s : State} (l : Chan) (h : P s) : P (toRamping l s) :=
  K.move l .ramping _ (by decide) (K.recordStart l _ h)

theorem KeptMoves.toStopping {s : State} (l : Chan) (h : P s) : P (toStopping l s) :=
  K.move l .stopping _ (by decide) (K.flushQueue l (K.recordStart l _ h))

theorem KeptMoves.fillTrips (r : TripRecord) : ∀ (l : List Chan) {s : State}, P s → P (fillTrips r l s)
  | [], _, h => h
  | c :: rest, _, h => KeptMoves.fillTrips r rest (K.engine c (by rfl) (by rfl) h)

theorem KeptMoves.toTripped {s : State} (l : Chan) (k : FaultKind) (d : Nat) (h : P s) : P (toTripped l k d s) :=
  K.move l .tripped none (by decide) (K.flushQueue l (K.fillTrips _ _ h))

theorem KeptMoves.changeHolder {s : State} (l : Chan) (new : Option Port) (h : P s) : P (changeHolder l new s) := by
  have held : P { s with auth := vset s.auth l (heldBy s l new), queues := vset s.queues l (s.queue l).passed } :=
    K.queue (s := { s with auth := vset s.auth l (heldBy s l new) }) l (List.nil_sublist _) (K.auth _ h)
  unfold Machine.changeHolder
  dsimp only
  split
  · exact K.toHolding l held
  · exact held

theorem KeptMoves.installHead {s : State} (l : Chan) (h : P s) : P (installHead l s) := by
  unfold Machine.installHead
  split
  · exact K.changeHolder _ _ h
  · exact K.changeHolder _ _ (K.auth _ h)

theorem KeptMoves.assertStops {s : State} (h : P s) : P (assertStops allChans (setLatch true s)) := by
  refine assertStops_induct P (fun l u hu _ => ?_) allChans _ (K.react _ (by rfl) (fun _ => rfl) h)
  have ended : P (match u.consts.category with | .immediate => Machine.toOff l u | .ramped => Machine.toStopping l u) := by
    split
    · exact K.toOff l hu
    · exact K.toStopping l hu
  unfold assertStopOn
  split
  case h_5 | h_6 | h_7 => exact hu
  all_goals exact ended

/-- Such a property is kept by every shared operation. -/
theorem KeptMoves.kept : Kept P (fun _ => True) (fun _ => True) where
  live _ _ := trivial
  reports := id
  counts _ _ := trivial
  free := K.free
  ports := K.ports
  line := K.line
  queues := K.queues
  engines v hv h := K.engines v (fun c => ⟨(hv c).1, (hv c).2.1⟩) h
  envs := K.envs
  auth v _ h := K.auth v h
  link := K.link
  react r hr h := K.react r hr.2.2.2.2 (fun hl => hr.2.2.2.1.trans hl) h
  budget := K.budget
  request := K.request
  toOff l h := K.toOff l h
  toRun l _ h := K.move l .run none (by decide) h
  toHolding l _ h := K.toHolding l h
  toRamping l _ h := K.toRamping l h
  toTripped l k d _ h := K.toTripped l k d h
  installHead l h := K.installHead l h
  enterLink x _ _ h := K.enterLink x h
  drain k _ h := by
    split
    · exact tripDriving_induct P k (fun l u hu _ _ => K.toTripped l k _ hu) _ _ (K.enterLink _ h)
    · exact K.enterLink _ h
  stops _ h := K.assertStops h
  pend _ _ _ _ _ _ h := K.react _ (by rfl) id h
  drop _ _ h := K.react _ (by rfl) id h
  serve := by
    intro s x l _ _ _ _ h
    have dropped : P (withPending l s) := K.react _ (by rfl) id h
    exact K.react _ (by rfl) id dropped
  endLink k _ h := K.broadcast _ (K.react _ (by rfl) id h)
  endStop := by
    intro s e _ h
    have ended := K.broadcast .safeState (K.react (r := { s.react with
      inService := none, lastEnded := some ⟨.safeStop, .all, e, s.period⟩ }) (by rfl) id h)
    unfold endSafeStop releaseHeld
    split
    · exact ended
    · exact K.react _ (by rfl) id ended
  holdRepeat _ h := K.react _ (by rfl) id h

end

/-- Two properties that are kept are kept together. -/
theorem Kept.and {P Q : State → Prop} {L M L' M' : Phase → Prop} (K : Kept P L M) (J : Kept Q L' M') :
    Kept (fun s => P s ∧ Q s) (fun x => L x ∧ L' x) (fun x => M x ∧ M' x) where
  live h hm := ⟨K.live h.1 hm, J.live h.2 hm⟩
  reports h := ⟨K.reports h.1, J.reports h.2⟩
  counts h hc := ⟨K.counts h.1 hc, J.counts h.2 hc⟩
  free r x pins inputs wire h := ⟨K.free r x pins inputs wire h.1, J.free r x pins inputs wire h.2⟩
  ports v hv h := ⟨K.ports v hv h.1, J.ports v hv h.2⟩
  line p b x hb h := ⟨K.line p b x hb h.1, J.line p b x hb h.2⟩
  queues v hv h := ⟨K.queues v hv h.1, J.queues v hv h.2⟩
  engines v hv h := ⟨K.engines v hv h.1, J.engines v hv h.2⟩
  envs v hv h := ⟨K.envs v hv h.1, J.envs v hv h.2⟩
  auth v hv h := ⟨K.auth v hv h.1, J.auth v hv h.2⟩
  link b hb h := ⟨K.link b hb h.1, J.link b hb h.2⟩
  react r hr h := ⟨K.react r hr h.1, J.react r hr h.2⟩
  budget b h := ⟨K.budget b h.1, J.budget b h.2⟩
  request c r hg h := ⟨K.request c r hg h.1, J.request c r hg h.2⟩
  toOff l h := ⟨K.toOff l h.1, J.toOff l h.2⟩
  toRun l hs h := ⟨K.toRun l hs h.1, J.toRun l hs h.2⟩
  toHolding l hs h := ⟨K.toHolding l hs h.1, J.toHolding l hs h.2⟩
  toRamping l hs h := ⟨K.toRamping l hs h.1, J.toRamping l hs h.2⟩
  toTripped l k d hl h := ⟨K.toTripped l k d hl.1 h.1, J.toTripped l k d hl.2 h.2⟩
  installHead l h := ⟨K.installHead l h.1, J.installHead l h.2⟩
  enterLink x hx hr h := ⟨K.enterLink x (hx.imp_left And.left) hr h.1, J.enterLink x (hx.imp_left And.right) hr h.2⟩
  drain k hl h := ⟨K.drain k hl.1 h.1, J.drain k hl.2 h.2⟩
  stops hop h := ⟨K.stops hop h.1, J.stops hop h.2⟩
  pend k sc e hsc hk hl h := ⟨K.pend k sc e hsc hk hl.1 h.1, J.pend k sc e hsc hk hl.2 h.2⟩
  drop l hs h := ⟨K.drop l hs h.1, J.drop l hs h.2⟩
  serve x l hs hx hin hk h := ⟨K.serve x l hs hx hin hk h.1, J.serve x l hs hx hin hk h.2⟩
  endLink k hi h := ⟨K.endLink k hi h.1, J.endLink k hi h.2⟩
  endStop e hi h := ⟨K.endStop e hi h.1, J.endStop e hi h.2⟩
  holdRepeat hi h := ⟨K.holdRepeat hi h.1, J.holdRepeat hi h.2⟩

end Sys2Proof.Machine


namespace Sys2Proof.Machine

/-! ### The own writes of commands, for a property that no move reads -/

/-- The commands whose own write a property of this kind may read; the other own writes touch queues, claims, proposals
and counts. -/
def Instr.writesSetup (i : Instr) : Bool :=
  match i with
  | .writeConstant _ | .freeze _ | .engage _ | .confirm _ | .safeRelease _ | .powerOn _ | .line _ | .commanded _ => true
  | _ => false

theorem Instr.writesSetup_cases {i : Instr} (h : Instr.writesSetup i = true) :
    (∃ p, i = .writeConstant p) ∨ (∃ p, i = .freeze p) ∨ (∃ p, i = .engage p) ∨ (∃ p, i = .confirm p) ∨
      (∃ p, i = .safeRelease p) ∨ (∃ pins, i = .powerOn pins) ∨ (∃ pins, i = .line pins) ∨ ∃ pins, i = .commanded pins := by
  cases i <;> first | exact absurd h Bool.false_ne_true | simp

/-- The property reads no queue entry, no proposal and no count. -/
structure KeptCounts (P : State → Prop) : Prop extends KeptMoves P where
  entries : ∀ {s : State} (v : Vector DemandQueue 8), P s → P { s with queues := v }
  proposals : ∀ {s : State} (v : Vector Envelope 8), (∀ c, (vget v c).guarded = (vget s.envs c).guarded) → P s →
    P { s with envs := v }
  count : ∀ {s : State}, s.phase = .operating → P s → P (advance s)
  hold : ∀ {s : State} (v : Vector Bool 8), P s → P { s with react := { s.react with untilTake := v } }

theorem KeptCounts.own {P : State → Prop} (K : KeptCounts P) (i : Instr)
    (setup : Instr.writesSetup i = true → OwnKept P i) : OwnKept P i := by
  cases i with
  | writeConstant _ | freeze _ | engage _ | confirm _ | safeRelease _ | powerOn _ | line _ | commanded _ => exact setup rfl
  | periodStart order later =>
    exact fun s hop h => K.kept.periodStart (fun _ v h => K.hold v h) order later (fun _ hop h => K.count hop h) hop h
  | claim p => exact fun s l _ _ _ _ h => ⟨K.changeHolder l _ h, fun _ _ => K.auth _ h⟩
  | demand p => exact fun s l es _ _ _ h => K.entries _ h
  | propose p =>
    exact fun s l f w _ _ _ h => K.proposals _ (rel_vset (R := fun a b : Envelope => a.guarded = b.guarded)
      (fun _ => rfl) _ _ (by rfl)) h
  | _ => trivial

theorem KeptMoves.clearIntegrators {P : State → Prop} (K : KeptMoves P) : ∀ (l : List Chan) {s : State}, P s →
    P (clearIntegrators l s)
  | [], _, h => h
  | c :: rest, _, h => KeptMoves.clearIntegrators K rest (K.engine c (by rfl) (by rfl) h)

/-- Entry to RELEASING keeps what its move keeps. -/
theorem KeptMoves.toReleasing {P : State → Prop} (K : KeptMoves P) {s : State} (l : Chan)
    (move : ∀ (u : State) (timer : Option Nat), P u → P (moveGroup l .releasing timer u)) (h : P s) :
    P (toReleasing l s) :=
  move _ _ (K.queue l (List.Sublist.refl _) (K.clearIntegrators _ h))

/-! ### What only single commands write -/

theorem keptCounts_consts (k : Constants) :
    KeptCounts (fun t => t.consts = k) where
  free _ _ _ _ _ h := h
  ports _ _ h := h
  line _ _ _ _ h := h
  queues _ _ h := h
  engines _ _ h := h
  envs _ _ h := h
  auth _ h := h
  link _ _ h := h
  react _ _ _ h := h
  budget _ h := by simpa using h
  request _ _ _ h := by simpa using h
  move _ _ _ _ h := by simpa using h
  enterLink _ h := by simpa using h
  entries _ h := h
  proposals _ _ h := h
  count _ h := h
  hold _ h := h

theorem keptCounts_setup (x : Phase) (p : Port) :
    KeptCounts (fun t => t.phase = x ∧ t.safetyPort = p) where
  free _ _ _ _ _ h := h
  ports _ _ h := h
  line _ _ _ _ h := h
  queues _ _ h := h
  engines _ _ h := h
  envs _ _ h := h
  auth _ h := h
  link _ _ h := h
  react _ _ _ h := h
  budget _ h := by simpa using h
  request _ _ _ h := by simpa using h
  move _ _ _ _ h := by simpa using h
  enterLink _ h := by simpa using h
  entries _ h := h
  proposals _ _ h := h
  count _ h := h
  hold _ h := h

theorem keptCounts_pending (q : List Instr) : KeptCounts (fun t => t.pending = q) where
  free _ _ _ _ _ h := h
  ports _ _ h := h
  line _ _ _ _ h := h
  queues _ _ h := h
  engines _ _ h := h
  envs _ _ h := h
  auth _ h := h
  link _ _ h := h
  react _ _ _ h := h
  budget _ h := by simpa using h
  request _ _ _ h := by simpa using h
  move _ _ _ _ h := by simpa using h
  enterLink _ h := by simpa using h
  entries _ h := h
  proposals _ _ h := h
  count _ h := h
  hold _ h := h

theorem keptCounts_latch : KeptCounts (fun t => t.react.latch = true) where
  free _ _ _ _ _ h := h
  ports _ _ h := h
  line _ _ _ _ h := h
  queues _ _ h := h
  engines _ _ h := h
  envs _ _ h := h
  auth _ h := h
  link _ _ h := h
  react _ _ hl h := hl h
  budget _ h := by simpa using h
  request _ _ _ h := by simpa using h
  move _ _ _ _ h := by simpa using h
  enterLink _ h := by simpa using h
  entries _ h := h
  proposals _ _ h := h
  count _ h := h
  hold _ h := h

theorem keptCounts_notReleasing (c : Chan) : KeptCounts (fun t => (vget t.engines c).state ≠ .releasing) where
  free _ _ _ _ _ h := h
  ports _ _ h := h
  line _ _ _ _ h := h
  queues _ _ h := h
  engines _ hv h := by rw [(hv c).1]; exact h
  envs _ _ h := h
  auth _ h := h
  link _ _ h := h
  react _ _ _ h := h
  budget _ h := by simpa using h
  request _ _ _ h := by simpa using h
  move l new _ hn h := by
    rw [moveGroup_state]
    split
    · exact hn
    · exact h
  enterLink x h := by
    unfold enterLink
    rw [gateSyncs_state]
    exact h
  entries _ h := h
  proposals _ _ h := h
  count _ h := by simpa [advance] using h
  hold _ h := h

theorem keptCounts_guarded (c : Chan) (g : Guarded) : KeptCounts (fun t => (vget t.envs c).guarded = g) where
  free _ _ _ _ _ h := h
  ports _ _ h := h
  line _ _ _ _ h := h
  queues _ _ h := h
  engines _ _ h := h
  envs _ hv h := (hv c).1.trans h
  auth _ h := h
  link _ _ h := h
  react _ _ _ h := h
  budget _ h := by simpa using h
  request _ _ _ h := by simpa using h
  move _ _ _ _ h := by simpa using h
  enterLink _ h := by simpa using h
  entries _ h := h
  proposals _ hv h := (hv c).trans h
  count _ h := by simpa [advance, Envelope.tick] using h
  hold _ h := h

/-- Two properties that no move reads and no count are one such property. -/
theorem KeptCounts.and {P Q : State → Prop} (K : KeptCounts P) (J : KeptCounts Q) : KeptCounts (fun s => P s ∧ Q s) where
  free r x pins inputs wire h := ⟨K.free r x pins inputs wire h.1, J.free r x pins inputs wire h.2⟩
  ports v hv h := ⟨K.ports v hv h.1, J.ports v hv h.2⟩
  line p b x hb h := ⟨K.line p b x hb h.1, J.line p b x hb h.2⟩
  queues v hv h := ⟨K.queues v hv h.1, J.queues v hv h.2⟩
  engines v hv h := ⟨K.engines v hv h.1, J.engines v hv h.2⟩
  envs v hv h := ⟨K.envs v hv h.1, J.envs v hv h.2⟩
  auth v h := ⟨K.auth v h.1, J.auth v h.2⟩
  link b hb h := ⟨K.link b hb h.1, J.link b hb h.2⟩
  react r hr hl h := ⟨K.react r hr hl h.1, J.react r hr hl h.2⟩
  budget b h := ⟨K.budget b h.1, J.budget b h.2⟩
  request c r hg h := ⟨K.request c r hg h.1, J.request c r hg h.2⟩
  move l new t hn h := ⟨K.move l new t hn h.1, J.move l new t hn h.2⟩
  enterLink x h := ⟨K.enterLink x h.1, J.enterLink x h.2⟩
  entries v h := ⟨K.entries v h.1, J.entries v h.2⟩
  proposals v hv h := ⟨K.proposals v hv h.1, J.proposals v hv h.2⟩
  count hop h := ⟨K.count hop h.1, J.count hop h.2⟩
  hold v h := ⟨K.hold v h.1, J.hold v h.2⟩

/-! ### What FREEZE and the resets leave of these -/

theorem recordLevel_latch (b : Binding) (i : Input) (level : Bool) (s : State) :
    (recordLevel b i level s).react.latch = s.react.latch := by
  cases b <;> rfl

theorem deliverLevels_latch (l : List Input) (s : State) : (deliverLevels l s).react.latch = s.react.latch :=
  deliverLevels_induct (fun u => u.react.latch = s.react.latch)
    (fun _ _ h => (recordLevel_latch _ _ _ _).trans h) l s rfl

theorem recordLevel_state (b : Binding) (i : Input) (level : Bool) (s : State) (c : Chan) :
    (vget (recordLevel b i level s).engines c).state = (vget s.engines c).state := by
  cases b with
  | brakeFb d =>
    simp only [recordLevel, vget_vset, State.eng]
    split <;> simp_all
  | none | safeStop | wake => rfl

theorem deliverLevels_state (l : List Input) (s : State) (c : Chan) :
    (vget (deliverLevels l s).engines c).state = (vget s.engines c).state :=
  deliverLevels_induct (fun u => (vget u.engines c).state = (vget s.engines c).state)
    (fun _ _ h => (recordLevel_state _ _ _ _ _).trans h) l s rfl

@[simp] theorem freezePart_consts (s : State) : (freezePart s).consts = s.consts := by
  simp [freezePart, announceStart, startTimer, startSilence, firstRecompute, formRecords]
@[simp] theorem freezePart_pending (s : State) : (freezePart s).pending = s.pending := by
  simp [freezePart, announceStart, startTimer, startSilence, firstRecompute, formRecords]
theorem freezePart_latch (s : State) : (freezePart s).react.latch = s.react.latch := by
  simp [freezePart, announceStart, startTimer, startSilence, firstRecompute, formRecords, deliverLevels_latch]
theorem freezePart_state (s : State) (c : Chan) :
    (vget (freezePart s).engines c).state = (vget s.engines c).state := by
  simp [freezePart, announceStart, startTimer, startSilence, firstRecompute, formRecords, deliverLevels_state]

@[simp] theorem resetTo_consts (kind : ResetKind) (k : Constants) (r : Option SevereFault) (pins : Pins) (s : State) :
    (resetTo kind k r pins s).consts = k := by simp [resetTo, blocksAfterReset]
@[simp] theorem resetTo_pending (kind : ResetKind) (k : Constants) (r : Option SevereFault) (pins : Pins) (s : State) :
    (resetTo kind k r pins s).pending = s.pending := by simp [resetTo, blocksAfterReset]
theorem resetTo_latch (kind : ResetKind) (k : Constants) (r : Option SevereFault) (pins : Pins) (s : State) :
    (resetTo kind k r pins s).react.latch = true := by
  rw [resetTo, deliverLevels_latch]
  rfl
theorem resetTo_state (kind : ResetKind) (k : Constants) (r : Option SevereFault) (pins : Pins) (s : State) (c : Chan) :
    (vget (resetTo kind k r pins s).engines c).state = .off := by
  rw [resetTo, deliverLevels_state]
  simp [blocksAfterReset, State.reset, Engine.initial]

/-! ### A step is a command -/

theorem step_cons {s : State} {i : Instr} {rest : List Instr} (h : s.pending = i :: rest) :
    step s = exec i (s.withQueue rest) := by
  unfold step
  rw [h]

theorem step_nil {s : State} (h : s.pending = []) : step s = .next s := by
  unfold step
  rw [h]

/-- What one command does with the state, a step does: a property of the states before and after. -/
theorem step_of_exec {s t : State} (hs : step s = .next t) :
    t = s ∨ ∃ i rest, s.pending = i :: rest ∧ exec i (s.withQueue rest) = .next t := by
  cases hp : s.pending with
  | nil => exact .inl (by rw [step_nil hp] at hs; cases hs; rfl)
  | cons i rest => exact .inr ⟨i, rest, rfl, by rw [← step_cons hp]; exact hs⟩

/-- A completed command leaves the property that its own write keeps. -/
theorem exec_next_kept {P : State → Prop} {L M : Phase → Prop} (K : Kept P L M) {i : Instr} {s t : State}
    (own : OwnKept P i) (h : P s) (he : exec i s = .next t) : P t := by
  obtain ⟨u, hu, hP⟩ := exec_kept K i own h
  rw [hu] at he
  cases he
  exact hP

/-- Settles O1: by the definition of a step, on the two forms of the queue. -/
theorem stepRunsFrontCommand : Obligations.StepRunsFrontCommand :=
  ⟨fun _ _ _ h => step_cons h, fun _ h => step_nil h⟩

/-- Settles O2: every command is made of writes that leave the queue of commands alone. -/
theorem everyCommandAnswersANextState : Obligations.EveryCommandAnswersANextState := by
  intro i s
  refine exec_kept (keptCounts_pending s.pending).kept i ((keptCounts_pending s.pending).own i fun hi => ?_) rfl
  cases i with
  | writeConstant p => exact fun _ _ _ _ h => h
  | freeze p => exact fun _ _ _ _ h => by simpa using h
  | engage p => exact fun _ l _ _ _ h => by simpa using h
  | confirm p => exact fun _ _ _ _ _ h => h
  | safeRelease p => exact fun _ _ _ h => h
  | powerOn pins | line pins | commanded pins => exact fun _ h => by simpa using h
  | _ => cases hi

theorem exec_powerOn (pins : Pins) (s : State) :
    exec (.powerOn pins) s = .next (resetTo .powerOn Constants.initial none pins s) := rfl

/-- Settles O60: no shared operation writes the constants, so a change of them is WRITE_CONSTANT's own or POWER_ON's. -/
theorem constantsChangeOnlyInConfig : Obligations.ConstantsChangeOnlyInConfig := by
  intro s t hs hne
  rcases step_of_exec hs with rfl | ⟨i, rest, hp, he⟩
  · exact absurd rfl hne
  have K := keptCounts_consts s.consts
  have changed : ¬ OwnKept (fun u => u.consts = s.consts) i := fun own => hne (exec_next_kept K.kept own (s := s.withQueue rest) rfl he)
  have hset : Instr.writesSetup i = true := by
    refine Classical.byContradiction fun hset => ?_
    exact changed (K.own i fun h => absurd h hset)
  rcases Instr.writesSetup_cases hset with
    ⟨p, rfl⟩ | ⟨p, rfl⟩ | ⟨p, rfl⟩ | ⟨p, rfl⟩ | ⟨p, rfl⟩ | ⟨pins, rfl⟩ | ⟨pins, rfl⟩ | ⟨pins, rfl⟩
  · refine .inl ⟨p, rest, hp, ?_⟩
    refine Classical.byContradiction fun hno => ?_
    refine hne (exec_next_kept (K.and (keptCounts_setup s.phase s.safetyPort)).kept ?_ (s := s.withQueue rest) ⟨rfl, rfl, rfl⟩ he).1
    intro u k hsp hc h
    exact absurd ⟨by rw [hsp, h.2.2], by rw [← h.2.1, hc]⟩ hno
  · exact absurd (fun _ _ _ _ h => by simpa using h) changed
  · exact absurd (fun _ l _ _ _ h => by simpa using h) changed
  · exact absurd (fun _ _ _ _ _ h => h) changed
  · exact absurd (fun _ _ _ h => h) changed
  · rw [exec_powerOn, Host.Outcome.next.injEq] at he
    exact .inr ⟨pins, rest, hp, by rw [← he, resetTo_consts]⟩
  · exact absurd (fun _ h => by simpa using h) changed
  · exact absurd (fun _ h => by simpa using h) changed

/-- Settles O58: no shared operation clears the latch, FREEZE keeps it and a reset sets it; what is left is SAFE_RELEASE's
own write, made for the safety port in OPERATING. -/
theorem onlySafeReleaseClearsTheLatch : Obligations.OnlySafeReleaseClearsTheLatch := by
  intro s t hs hlatch hclear
  rcases step_of_exec hs with rfl | ⟨i, rest, hp, he⟩
  · rw [hlatch] at hclear
    cases hclear
  have K := keptCounts_latch
  have cleared : ¬ OwnKept (fun u => u.react.latch = true) i := fun own => by
    have hset := exec_next_kept K.kept own (s := s.withQueue rest) hlatch he
    rw [hclear] at hset
    cases hset
  have hset : Instr.writesSetup i = true := by
    refine Classical.byContradiction fun hset => ?_
    exact cleared (K.own i fun h => absurd h hset)
  rcases Instr.writesSetup_cases hset with
    ⟨p, rfl⟩ | ⟨p, rfl⟩ | ⟨p, rfl⟩ | ⟨p, rfl⟩ | ⟨p, rfl⟩ | ⟨pins, rfl⟩ | ⟨pins, rfl⟩ | ⟨pins, rfl⟩
  · exact absurd (fun _ _ _ _ h => h) cleared
  · exact absurd (fun u _ _ _ h => (freezePart_latch u).trans h) cleared
  · exact absurd (fun _ _ _ _ _ h => by simpa using h) cleared
  · exact absurd (fun _ _ _ _ _ h => h) cleared
  · refine ⟨p, rest, hp, ?_⟩
    refine Classical.byContradiction fun hno => ?_
    have kept := exec_next_kept (K.and (keptCounts_setup s.phase s.safetyPort)).kept (i := .safeRelease p) (fun u hsp hop h =>
      absurd ⟨hsp.trans h.2.2, h.2.1.symm.trans hop⟩ hno) (s := s.withQueue rest) ⟨hlatch, rfl, rfl⟩ he
    rw [hclear] at kept
    cases kept.1
  · exact absurd (fun _ _ => resetTo_latch _ _ _ _ _) cleared
  · exact absurd (fun _ _ => resetTo_latch _ _ _ _ _) cleared
  · exact absurd (fun _ _ => resetTo_latch _ _ _ _ _) cleared

/-- Settles O57: no shared operation moves a channel to RELEASING, FREEZE and the resets neither; ENGAGE does so past its
check of the latch. -/
theorem onlyEngageReleases : Obligations.OnlyEngageReleases := by
  intro s t c hs hbefore hafter
  rcases step_of_exec hs with rfl | ⟨i, rest, hp, he⟩
  · exact absurd hafter hbefore
  have K := keptCounts_notReleasing c
  have released : ¬ OwnKept (fun u => (vget u.engines c).state ≠ .releasing) i :=
    fun own => exec_next_kept K.kept own (s := s.withQueue rest) hbefore he hafter
  have hset : Instr.writesSetup i = true := by
    refine Classical.byContradiction fun hset => ?_
    exact released (K.own i fun h => absurd h hset)
  rcases Instr.writesSetup_cases hset with
    ⟨p, rfl⟩ | ⟨p, rfl⟩ | ⟨p, rfl⟩ | ⟨p, rfl⟩ | ⟨p, rfl⟩ | ⟨pins, rfl⟩ | ⟨pins, rfl⟩ | ⟨pins, rfl⟩
  · exact absurd (fun _ _ _ _ h => h) released
  · exact absurd (fun u _ _ _ h hr => h ((freezePart_state u c).symm.trans hr)) released
  · refine ⟨?_, p, rest, hp⟩
    refine Classical.byContradiction fun hlatch => ?_
    refine (exec_next_kept (K.and keptCounts_latch).kept ?_ (s := s.withQueue rest)
      ⟨hbefore, (Bool.not_eq_false _).mp hlatch⟩ he).1 hafter
    intro u l _ _ hf h
    unfold State.engageFault at hf
    rw [h.2] at hf
    split at hf
    · cases hf
    · split at hf <;> cases hf
  · exact absurd (fun _ _ _ _ _ h => h) released
  · exact absurd (fun _ _ _ h => h) released
  · exact absurd (fun _ _ hr => by rw [resetTo_state] at hr; cases hr) released
  · exact absurd (fun _ _ hr => by rw [resetTo_state] at hr; cases hr) released
  · exact absurd (fun _ _ hr => by rw [resetTo_state] at hr; cases hr) released

/-- The first half of O59: no shared operation writes a guarded value; PROPOSE and SET_OPEN leave them. -/
theorem onlyConfirmChangesTheGuarded (s t : State) (c : Chan) (hs : step s = .next t)
    (hne : (t.env c).guarded ≠ (s.env c).guarded) :
    (∃ p rest, s.pending = .confirm p :: rest ∧ p = s.safetyPort) ∨
    (∃ p rest, s.pending = .freeze p :: rest ∧ s.phase = .config) ∨
    ∃ pins rest, s.pending = .powerOn pins :: rest ∨ s.pending = .line pins :: rest ∨
      s.pending = .commanded pins :: rest := by
  rcases step_of_exec hs with rfl | ⟨i, rest, hp, he⟩
  · exact absurd rfl hne
  have K := keptCounts_guarded c (s.env c).guarded
  have J := K.and (keptCounts_setup s.phase s.safetyPort)
  have changed : ¬ OwnKept (fun u => (vget u.envs c).guarded = (s.env c).guarded) i :=
    fun own => hne (exec_next_kept K.kept own (s := s.withQueue rest) rfl he)
  have hset : Instr.writesSetup i = true := by
    refine Classical.byContradiction fun hset => ?_
    exact changed (K.own i fun h => absurd h hset)
  rcases Instr.writesSetup_cases hset with
    ⟨p, rfl⟩ | ⟨p, rfl⟩ | ⟨p, rfl⟩ | ⟨p, rfl⟩ | ⟨p, rfl⟩ | ⟨pins, rfl⟩ | ⟨pins, rfl⟩ | ⟨pins, rfl⟩
  · exact absurd (fun _ _ _ _ h => h) changed
  · refine .inr (.inl ⟨p, rest, hp, ?_⟩)
    refine Classical.byContradiction fun hno => ?_
    exact hne (exec_next_kept J.kept (i := .freeze p) (fun u _ hc _ h => absurd (h.2.1.symm.trans hc) hno)
      (s := s.withQueue rest) ⟨rfl, rfl, rfl⟩ he).1
  · exact absurd (fun _ _ _ _ _ h => by simpa using h) changed
  · refine .inl ⟨p, rest, hp, ?_⟩
    refine Classical.byContradiction fun hno => ?_
    exact hne (exec_next_kept J.kept (i := .confirm p) (fun u _ _ hsp _ h => absurd (hsp.trans h.2.2) hno)
      (s := s.withQueue rest) ⟨rfl, rfl, rfl⟩ he).1
  · exact absurd (fun _ _ _ h => h) changed
  · exact .inr (.inr ⟨pins, rest, .inl hp⟩)
  · exact .inr (.inr ⟨pins, rest, .inr (.inl hp)⟩)
  · exact .inr (.inr ⟨pins, rest, .inr (.inr hp)⟩)

end Sys2Proof.Machine


namespace Sys2Proof.Machine

/-! ### Deliveries of levels (08, R160) -/

@[simp] theorem deliverLevel_inp (i j : Input) (s : State) : (deliverLevel i s).inp j = s.inp j := by
  simp [deliverLevel, State.inp]

@[simp] theorem deliverLevel_inputConfig (i j : Input) (s : State) :
    (deliverLevel i s).inputConfig j = s.inputConfig j := by
  simp [deliverLevel, State.inputConfig]

/-- A delivery writes the level that its receiver holds for the input, and nothing else of the three receivers. -/
theorem recordLevel_link (b : Binding) (i : Input) (level : Bool) (s : State) : (recordLevel b i level s).link =
    { s.link with wakeLevels := if b = .wake then vset s.link.wakeLevels i level else s.link.wakeLevels } := by
  cases b <;> rfl

theorem recordLevel_react (b : Binding) (i : Input) (level : Bool) (s : State) : (recordLevel b i level s).react =
    { s.react with stopLevels := if b = .safeStop then vset s.react.stopLevels i level else s.react.stopLevels } := by
  cases b <;> rfl

theorem recordLevel_engine (b : Binding) (i : Input) (level : Bool) (s : State) (c : Chan) :
    vget (recordLevel b i level s).engines c = { vget s.engines c with
      feedback := if b = .brakeFb c then vset (vget s.engines c).feedback i level else (vget s.engines c).feedback } := by
  cases b with
  | brakeFb d =>
    simp only [recordLevel, vget_vset, State.eng, Binding.brakeFb.injEq]
    by_cases hd : d = c
    · subst hd
      simp
    · simp [hd]
  | none | safeStop | wake => rfl

theorem deliverLevels_link (l : List Input) (s : State) :
    (deliverLevels l s).link = { s.link with wakeLevels := (deliverLevels l s).link.wakeLevels } :=
  deliverLevels_induct (fun u => u.link = { s.link with wakeLevels := u.link.wakeLevels })
    (fun i u h => by rw [deliverLevel, recordLevel_link, h]) l s rfl

theorem deliverLevels_react (l : List Input) (s : State) :
    (deliverLevels l s).react = { s.react with stopLevels := (deliverLevels l s).react.stopLevels } :=
  deliverLevels_induct (fun u => u.react = { s.react with stopLevels := u.react.stopLevels })
    (fun i u h => by rw [deliverLevel, recordLevel_react, h]) l s rfl

theorem deliverLevels_engine (l : List Input) (s : State) (c : Chan) :
    vget (deliverLevels l s).engines c = { vget s.engines c with feedback := (vget (deliverLevels l s).engines c).feedback } :=
  deliverLevels_induct (fun u => vget u.engines c = { vget s.engines c with feedback := (vget u.engines c).feedback })
    (fun i u h => by rw [deliverLevel, recordLevel_engine, h]) l s rfl

theorem deliverLevels_stopLevels (j : Input) : ∀ (l : List Input) (s : State),
    vget (deliverLevels l s).react.stopLevels j =
      if j ∈ l ∧ (s.inputConfig j).binding = .safeStop then (s.inp j).level else vget s.react.stopLevels j
  | [], s => by simp [deliverLevels]
  | i :: rest, s => by
    rw [deliverLevels, deliverLevels_stopLevels j rest, deliverLevel_inp, deliverLevel_inputConfig, deliverLevel,
      recordLevel_react]
    by_cases hj : i = j <;> by_cases hb : (s.inputConfig j).binding = .safeStop <;> grind [vget_vset]

theorem deliverLevels_wakeLevels (j : Input) : ∀ (l : List Input) (s : State),
    vget (deliverLevels l s).link.wakeLevels j =
      if j ∈ l ∧ (s.inputConfig j).binding = .wake then (s.inp j).level else vget s.link.wakeLevels j
  | [], s => by simp [deliverLevels]
  | i :: rest, s => by
    rw [deliverLevels, deliverLevels_wakeLevels j rest, deliverLevel_inp, deliverLevel_inputConfig, deliverLevel,
      recordLevel_link]
    by_cases hj : i = j <;> by_cases hb : (s.inputConfig j).binding = .wake <;> grind [vget_vset]

theorem deliverLevels_feedback (c : Chan) (j : Input) : ∀ (l : List Input) (s : State),
    vget (vget (deliverLevels l s).engines c).feedback j =
      if j ∈ l ∧ (s.inputConfig j).binding = .brakeFb c then (s.inp j).level else vget (vget s.engines c).feedback j
  | [], s => by simp [deliverLevels]
  | i :: rest, s => by
    rw [deliverLevels, deliverLevels_feedback c j rest, deliverLevel_inp, deliverLevel_inputConfig, deliverLevel,
      recordLevel_engine]
    by_cases hj : i = j <;> by_cases hb : (s.inputConfig j).binding = .brakeFb c <;> grind [vget_vset]

/-! ### What FREEZE leaves (11, R184) -/

@[simp] theorem freezePart_phase (s : State) : (freezePart s).phase = .operating := by
  simp [freezePart, announceStart, startTimer, startSilence, firstRecompute, formRecords]
@[simp] theorem freezePart_safetyPort (s : State) : (freezePart s).safetyPort = s.safetyPort := by
  simp [freezePart, announceStart, startTimer, startSilence, firstRecompute, formRecords]
@[simp] theorem freezePart_signals (s : State) : (freezePart s).signals = s.signals := by
  simp [freezePart, announceStart, startTimer, startSilence, firstRecompute, formRecords]
@[simp] theorem freezePart_retained (s : State) : (freezePart s).retained = s.retained := by
  simp [freezePart, announceStart, startTimer, startSilence, firstRecompute, formRecords]
@[simp] theorem freezePart_resetting (s : State) : (freezePart s).resetting = s.resetting := by
  simp [freezePart, announceStart, startTimer, startSilence, firstRecompute, formRecords]
@[simp] theorem freezePart_pins (s : State) : (freezePart s).pins = s.pins := by
  simp [freezePart, announceStart, startTimer, startSilence, firstRecompute, formRecords]
@[simp] theorem freezePart_inputs (s : State) : (freezePart s).inputs = s.inputs := by
  simp [freezePart, announceStart, startTimer, startSilence, firstRecompute, formRecords]
@[simp] theorem freezePart_wire (s : State) : (freezePart s).wire = s.wire := by
  simp [freezePart, announceStart, startTimer, startSilence, firstRecompute, formRecords]
@[simp] theorem freezePart_period (s : State) : (freezePart s).period = 0 := by
  simp [freezePart, announceStart, startTimer]
@[simp] theorem freezePart_started (s : State) : (freezePart s).started = false := by
  simp [freezePart, announceStart, startTimer]
@[simp] theorem freezePart_auth (s : State) : (freezePart s).auth = Vector.replicate 8 AuthRecord.initial := by
  simp [freezePart, announceStart, startTimer, startSilence, firstRecompute, formRecords]
@[simp] theorem freezePart_queues (s : State) : (freezePart s).queues = Vector.replicate 8 DemandQueue.initial := by
  simp [freezePart, announceStart, startTimer, startSilence, firstRecompute, formRecords]
theorem freezePart_allot (s : State) :
    (freezePart s).allot = { s.allot with budget := 0, grant := grantsOf s.consts 0 s.allot.request } := by
  simp [freezePart, announceStart, startTimer, startSilence, firstRecompute, recompute, formRecords]

theorem freezePart_env (s : State) (c : Chan) :
    vget (freezePart s).envs c = Envelope.formed (s.consts.ceilingOf c) := by
  simp [freezePart, announceStart, startTimer, startSilence, firstRecompute, formRecords, vget_vmap_chans]

theorem freezePart_engines (s : State) :
    (freezePart s).engines = (deliverLevels allInputs (formRecords s)).engines := by
  simp [freezePart, announceStart, startTimer, startSilence, firstRecompute]
theorem freezePart_link (s : State) : (freezePart s).link = (deliverLevels allInputs (formRecords s)).link := by
  simp [freezePart, announceStart, startTimer, startSilence, firstRecompute]
theorem freezePart_react (s : State) : (freezePart s).react = (deliverLevels allInputs (formRecords s)).react := by
  simp [freezePart, announceStart, startTimer, startSilence, firstRecompute]

theorem formRecords_engines (s : State) : (formRecords s).engines = s.engines := rfl

theorem freezePart_engine (s : State) (c : Chan) :
    vget (freezePart s).engines c = { vget s.engines c with feedback := (vget (freezePart s).engines c).feedback } := by
  rw [freezePart_engines]
  exact (deliverLevels_engine allInputs (formRecords s) c).trans (by rw [formRecords_engines])

theorem freezePart_port (s : State) (q : Port) : vget (freezePart s).ports q = { vget s.ports q with
    subscribed := broadcastKinds, summary := (vget s.ports q).summary ||| NoticeKind.started.bit
    silence := if (vget s.ports q).link = .up then
        (if vget s.consts.silenceLimitMs q = 0 then none else some (s.periods (vget s.consts.silenceLimitMs q)))
      else (vget s.ports q).silence } := by
  have subscribes : ∀ b : PortBlock, b.subscribed = broadcastKinds → b.subscribes .started = true := by
    intro b hb
    rw [PortBlock.subscribes, hb]
    rfl
  simp only [freezePart, announceStart, broadcast, startTimer, startSilence, vget_vmap_ports]
  rw [if_pos (subscribes _ rfl)]
  by_cases hl : (vget s.ports q).link = .up <;>
    simp [hl, PortBlock.note, firstRecompute, formRecords, State.silenceStart, State.inConfig, State.periods]

/-! ### What a reset leaves (11, R186, R187) -/

section

variable (kind : ResetKind) (k : Constants) (r : Option SevereFault) (pins : Pins) (s : State)

@[simp] theorem resetTo_phase : (resetTo kind k r pins s).phase = .config := by simp [resetTo, blocksAfterReset, State.reset]
@[simp] theorem resetTo_resetting : (resetTo kind k r pins s).resetting = .none := by
  simp [resetTo, blocksAfterReset, State.reset]
@[simp] theorem resetTo_period : (resetTo kind k r pins s).period = 0 := by simp [resetTo, blocksAfterReset, State.reset]
@[simp] theorem resetTo_started : (resetTo kind k r pins s).started = false := by
  simp [resetTo, blocksAfterReset, State.reset]
@[simp] theorem resetTo_wire : (resetTo kind k r pins s).wire = [] := by simp [resetTo, blocksAfterReset, State.reset]
@[simp] theorem resetTo_retained : (resetTo kind k r pins s).retained = ⟨kind, r⟩ := by simp [resetTo, blocksAfterReset]
@[simp] theorem resetTo_safetyPort : (resetTo kind k r pins s).safetyPort = pins.straps := by
  simp [resetTo, blocksAfterReset]
@[simp] theorem resetTo_signals : (resetTo kind k r pins s).signals = pins.signals := by simp [resetTo, blocksAfterReset]
@[simp] theorem resetTo_pins : (resetTo kind k r pins s).pins = pins.di := by simp [resetTo, blocksAfterReset]
@[simp] theorem resetTo_allot : (resetTo kind k r pins s).allot = Allotment.initial := by
  simp [resetTo, blocksAfterReset, State.reset]
@[simp] theorem resetTo_auth (c : Chan) : vget (resetTo kind k r pins s).auth c = AuthRecord.initial := by
  simp [resetTo, blocksAfterReset, State.reset]
@[simp] theorem resetTo_queue (c : Chan) : vget (resetTo kind k r pins s).queues c = DemandQueue.initial := by
  simp [resetTo, blocksAfterReset, State.reset]
@[simp] theorem resetTo_env (c : Chan) : vget (resetTo kind k r pins s).envs c = Envelope.initial := by
  simp [resetTo, blocksAfterReset, State.reset]

@[simp] theorem resetTo_input (j : Input) :
    vget (resetTo kind k r pins s).inputs j = InputBlock.initial (levelAtReset k pins.di j) := by
  simp [resetTo, blocksAfterReset, vget_vmap_inputs]
@[simp] theorem resetTo_port (p : Port) :
    vget (resetTo kind k r pins s).ports p = PortBlock.initial (vget pins.signals p) := by
  simp [resetTo, blocksAfterReset, vget_vmap_ports]

theorem blocksAfterReset_link (r : Retained) (pins : Pins) (q : List Instr) :
    (blocksAfterReset k r pins q).link = LinkBlock.initial := rfl
theorem blocksAfterReset_react (r : Retained) (pins : Pins) (q : List Instr) :
    (blocksAfterReset k r pins q).react = ReactionBlock.initial := rfl

theorem resetTo_engine (c : Chan) : vget (resetTo kind k r pins s).engines c =
    { Engine.initial with feedback := (vget (resetTo kind k r pins s).engines c).feedback } := by
  rw [resetTo, deliverLevels_engine]
  simp [blocksAfterReset, State.reset]
theorem resetTo_link : (resetTo kind k r pins s).link =
    { LinkBlock.initial with wakeLevels := (resetTo kind k r pins s).link.wakeLevels } := by
  rw [resetTo]
  exact (deliverLevels_link _ _).trans (by rw [blocksAfterReset_link])
theorem resetTo_react : (resetTo kind k r pins s).react =
    { ReactionBlock.initial with stopLevels := (resetTo kind k r pins s).react.stopLevels } := by
  rw [resetTo]
  exact (deliverLevels_react _ _).trans (by rw [blocksAfterReset_react])

end

end Sys2Proof.Machine


namespace Sys2Proof.Machine

/-! ### The checks of FREEZE (11, Table 11-2) -/

theorem vget_mem_toList {α : Type} {n : Nat} (v : Vector α n) (i : Fin n) : vget v i ∈ v.toList := by
  simp [vget]

theorem forall_mem_toList {α : Type} {n : Nat} {p : α → Prop} (v : Vector α n) :
    (∀ x ∈ v.toList, p x) ↔ ∀ i : Fin n, p (vget v i) := by
  refine ⟨fun h i => h _ (vget_mem_toList v i), fun h x hx => ?_⟩
  obtain ⟨i, hi, rfl⟩ := List.getElem_of_mem hx
  simpa [vget] using h ⟨i, by simpa using hi⟩

theorem rankClash_eq_none (k : Constants) :
    k.rankClash = none ↔ ∀ p q : Port, p ≠ q → vget k.rank p = vget k.rank q → vget k.rank p = 0 := by
  simp only [Constants.rankClash, Option.map_eq_none_iff, List.find?_eq_none, Bool.and_eq_true, decide_eq_true_eq,
    List.any_eq_true, not_and, not_exists, mem_allPorts, true_and, forall_const]
  constructor
  · intro h p q hne heq
    refine Classical.byContradiction fun h0 => ?_
    rcases Fin.lt_or_lt_of_ne hne with hlt | hlt
    · exact h q (heq ▸ h0) p hlt heq
    · exact h p h0 q hlt heq.symm
  · intro h p h0 q hlt heq
    exact h0 (h p q (Fin.ne_of_gt hlt) heq.symm)

theorem orderClash_eq_none (k : Constants) : k.orderClash = none ↔ ∀ c : Chan, c ∈ k.order ↔ vget k.present c = true := by
  simp only [Constants.orderClash, Option.map_eq_none_iff, List.find?_eq_none, decide_eq_true_eq, Decidable.not_not, mem_allChans,
    forall_const]
  exact forall_congr' fun c => by rw [Bool.eq_iff_iff, List.contains_iff_mem]

theorem ratingClash_eq_none (k : Constants) : k.ratingClash = none ↔ 1 ≤ k.linkRating ∧ k.reserveSum ≤ k.linkRating := by
  unfold Constants.ratingClash
  split
  · simp_all
  · split
    · simp_all
    · simp only [true_iff]
      omega

theorem tandemClash_eq_none (k : Constants) :
    k.tandemClash = none ↔ ∀ l c : Chan, k.isLeader l = true → c ∈ k.group l → vget k.present c = true := by
  simp only [Constants.tandemClash, Option.map_eq_none_iff, List.find?_eq_none, Bool.and_eq_true, List.any_eq_true,
    Bool.not_eq_true', not_and, not_exists, Bool.not_eq_false, mem_allChans, forall_const]
  exact ⟨fun h l c hl hc => h l hl c hc, fun h l hl c hc => h l c hl hc⟩

theorem routeClash_eq_none (k : Constants) : k.routeClash = none ↔
    ∀ i : Fin 32, (vget k.routes i).valid = true → vget k.present (vget k.routes i).chan = true := by
  rw [Constants.routeClash, List.findIdx?_eq_none_iff]
  refine (forall_mem_toList (p := fun r => (r.valid && !vget k.present r.chan) = false) k.routes).trans ?_
  refine forall_congr' fun i => ?_
  cases (vget k.routes i).valid <;> simp

theorem modeClash_eq_none (k : Constants) : k.modeClash = none ↔
    ∀ i : Input, (vget k.inputs i).binding = .safeStop → (vget k.inputs i).mode = .level := by
  simp only [Constants.modeClash, Option.map_eq_none_iff, List.find?_eq_none, Bool.and_eq_true, decide_eq_true_eq,
    not_and, Decidable.not_not, mem_allInputs, forall_const]

theorem levelClash_eq_none (k : Constants) :
    k.levelClash = none ↔ k.safeLevel < k.failLevel ∧ k.failLevel < k.readyLevel ∧ k.readyLevel < k.highLevel := by
  unfold Constants.levelClash
  split
  · simp only [reduceCtorEq, false_iff]
    omega
  · split
    · simp only [reduceCtorEq, false_iff]
      omega
    · split
      · simp only [reduceCtorEq, false_iff]
        omega
      · simp only [true_iff]
        omega

theorem settleClash_eq_none (k : Constants) : k.settleClash = none ↔ k.settleCode ≤ 4 := by
  unfold Constants.settleClash
  split
  · simp only [reduceCtorEq, false_iff]
    omega
  · simp only [true_iff]
    omega

/-- FREEZE's first failing check is none just when each of the eight finds none. -/
theorem freezeFault_eq_none (k : Constants) : k.freezeFault = none ↔ k.rankClash = none ∧ k.orderClash = none ∧
    k.ratingClash = none ∧ k.tandemClash = none ∧ k.routeClash = none ∧ k.modeClash = none ∧ k.levelClash = none ∧
      k.settleClash = none := by
  simp [Constants.freezeFault, List.findSome?_eq_none_iff]

/-- Settles O28: the checks one by one. -/
theorem freezeChecksAreTheTable : Obligations.FreezeChecksAreTheTable := by
  intro k
  rw [freezeFault_eq_none, rankClash_eq_none, orderClash_eq_none, ratingClash_eq_none, tandemClash_eq_none,
    routeClash_eq_none, modeClash_eq_none, levelClash_eq_none, settleClash_eq_none, Constants.reserveSum]
  simp only [and_assoc]

end Sys2Proof.Machine


namespace Sys2Proof.Machine

/-! ### The limits of the guarded values (06, R116, R122) -/

theorem Constants.mem_group {k : Constants} {l c : Chan} (h : c ∈ k.group l) :
    c = l ∨ (k.isLeader l = true ∧ c = ⟨(l.val + 1) % 8, by omega⟩) := by
  unfold Constants.group at h
  split at h
  · next hl => simpa [hl] using h
  · exact .inl (List.mem_singleton.mp h)

/-- The smallest of a list and a first value: below each, and above what is below all. -/
theorem foldl_min_le (f : Chan → Nat) : ∀ (l : List Chan) (a : Nat),
    l.foldl (fun acc c => min acc (f c)) a ≤ a ∧ ∀ c ∈ l, l.foldl (fun acc c => min acc (f c)) a ≤ f c
  | [], a => ⟨Nat.le_refl _, by simp⟩
  | x :: rest, a => by
    obtain ⟨hle, hall⟩ := foldl_min_le f rest (min a (f x))
    rw [List.foldl_cons]
    refine ⟨Nat.le_trans hle (Nat.min_le_left ..), fun c hc => ?_⟩
    rcases List.mem_cons.mp hc with rfl | hc
    · exact Nat.le_trans hle (Nat.min_le_right ..)
    · exact hall c hc

theorem le_foldl_min (f : Chan → Nat) (m : Nat) : ∀ (l : List Chan) (a : Nat), m ≤ a → (∀ c ∈ l, m ≤ f c) →
    m ≤ l.foldl (fun acc c => min acc (f c)) a
  | [], _, ha, _ => ha
  | x :: rest, a, ha, h => by
    rw [List.foldl_cons]
    exact le_foldl_min f m rest _ (Nat.le_min.mpr ⟨ha, h x List.mem_cons_self⟩)
      fun c hc => h c (List.mem_cons_of_mem _ hc)

theorem ceilingOf_le {k : Constants} {l c : Chan} (h : c ∈ k.group l) : k.ceilingOf l ≤ vget k.ceiling c :=
  (foldl_min_le (fun c => vget k.ceiling c) (k.group l) _).2 c h

theorem le_ceilingOf {k : Constants} {l : Chan} {m : Nat} (h : ∀ c ∈ k.group l, m ≤ vget k.ceiling c) :
    m ≤ k.ceilingOf l :=
  le_foldl_min (fun c => vget k.ceiling c) m (k.group l) _ (h l (mem_group_self k l)) h

/-- The limits read the phase, the constants, the straps and the envelopes' guarded values and proposals. -/
theorem limitsOk_of_envs {s t : State} (hx : t.phase = s.phase) (hk : t.consts = s.consts)
    (hp : t.safetyPort = s.safetyPort) (he : ∀ c, (vget t.envs c).follows (vget s.envs c))
    (h : s.limitsOk) : t.limitsOk := by
  intro hop c
  have values (g : Guarded) (hg : s.valuesOk c g) : t.valuesOk c g := by
    unfold State.valuesOk State.group
    rw [hk]
    exact hg
  obtain ⟨hg, hprop⟩ := h (hx ▸ hop) c
  refine ⟨values _ ((he c).1 ▸ hg), fun x hxp => ?_⟩
  obtain ⟨y, hy, hby, hval⟩ := (he c).2 x hxp
  obtain ⟨hv, hs⟩ := hprop y hy
  exact ⟨values _ (hval ▸ hv), by rw [hby, hp]; exact hs⟩

theorem keptMoves_limits : KeptMoves State.limitsOk where
  free _ _ _ _ _ h := h
  ports _ _ h := h
  line _ _ _ _ h := h
  queues _ _ h := h
  engines _ _ h := h
  envs := by
    intro s v hv h
    exact limitsOk_of_envs (s := s) rfl rfl rfl hv h
  auth _ h := h
  link _ _ h := h
  react _ _ _ h := h
  budget _ h := limitsOk_of_envs (by simp) (by simp) (by simp) (fun c => by simp [Envelope.follows_rfl]) h
  request _ _ _ h := limitsOk_of_envs (by simp) (by simp) (by simp) (fun c => by simp [Envelope.follows_rfl]) h
  move _ _ _ _ h := limitsOk_of_envs (by simp) (by simp) (by simp) (fun c => by simp [Envelope.follows_rfl]) h
  enterLink _ h := limitsOk_of_envs (by simp) (by simp) (by simp) (fun c => by simp [Envelope.follows_rfl]) h

/-- The envelope that FREEZE forms has its values within Table 6-1. -/
theorem valuesOk_formed (s : State) (c : Chan) : s.valuesOk c (Envelope.formed (s.consts.ceilingOf c)).guarded := by
  refine ⟨by simp only [Envelope.formed]; omega, fun d hd => ?_, fun h => ?_, by simp [Envelope.formed]⟩
  · have := ceilingOf_le hd
    simp only [Envelope.formed]
    omega
  · have := le_ceilingOf h
    simp only [Envelope.formed]
    omega

/-- A check that a failed test ends passes just when the test does not fail and the other checks pass. -/
theorem ite_some_eq_none {α : Type} {c : Prop} [Decidable c] {a : α} {x : Option α} :
    (if c then some a else x) = none ↔ ¬ c ∧ x = none := by
  by_cases h : c
  · simp [h]
  · simp [h]

/-- PROPOSE's range checks pass just on values within Table 6-1. -/
theorem valuesOk_proposed {s : State} {c : Chan} {f : ProposeFields} (h : f.outOfRange (s.consts.ceilingOf c) = none) :
    s.valuesOk c f.values := by
  have inside : ∀ lo hi n : Nat, inRange lo hi n = true ↔ lo ≤ n ∧ n ≤ hi := by simp [inRange]
  simp only [ProposeFields.outOfRange, ite_some_eq_none, Bool.not_eq_true', Bool.not_eq_false, inside, not_or,
    and_true] at h
  simp only [State.valuesOk, ProposeFields.values]
  refine ⟨by omega, fun d hd => ?_, fun _ => by omega, by omega, by omega, by omega, by omega, by omega, by omega⟩
  have := ceilingOf_le hd
  omega

theorem limitsOk_own (i : Instr) : OwnKept State.limitsOk i := by
  have same {s t : State} (hx : t.phase = s.phase) (hk : t.consts = s.consts) (hp : t.safetyPort = s.safetyPort)
      (he : t.envs = s.envs) : s.limitsOk → t.limitsOk :=
    limitsOk_of_envs hx hk hp fun c => by rw [he]; exact Envelope.follows_rfl _
  have config {s : State} (h : s.phase = .config) : s.limitsOk := fun hop => by rw [h] at hop; cases hop
  cases i with
  | periodStart order later =>
    refine fun s hop h => keptMoves_limits.kept.periodStart (fun _ _ h => h) order later (fun u _ h => ?_) hop h
    refine limitsOk_of_envs (s := u) (t := advance u) rfl rfl rfl (fun c => ⟨?_, fun x hx => ?_⟩) h
    · simp [advance, Envelope.tick]
    · simp only [advance, vget_vmap_chans, Envelope.tick, Option.map_eq_some_iff] at hx
      obtain ⟨y, hy, rfl⟩ := hx
      exact ⟨y, hy, rfl, rfl⟩
  | writeConstant p => exact fun s k _ hc _ => config (s := { s with consts := k }) hc
  | freeze p =>
    refine fun s _ _ _ _ _ c => ?_
    have values : (freezePart s).valuesOk c (Envelope.formed (s.consts.ceilingOf c)).guarded := by
      have := valuesOk_formed s c
      unfold State.valuesOk State.group at this ⊢
      rwa [freezePart_consts]
    rw [State.env, freezePart_env]
    exact ⟨values, fun x hx => by cases hx⟩
  | claim p => exact fun s l _ _ _ _ h => ⟨keptMoves_limits.changeHolder l _ h, fun old _ => h⟩
  | engage p =>
    exact fun s l _ _ _ h => keptMoves_limits.toReleasing l
      (fun u timer hu => same (by simp) (by simp) (by simp) (by simp) hu) h
  | demand p => exact fun s l es _ _ _ h => h
  | propose p =>
    intro s l f window _ hp hf h hop c
    obtain ⟨hg, hprop⟩ := h hop c
    simp only [State.env, vget_vset]
    split
    · next hc =>
      subst hc
      refine ⟨hg, fun x hx => ?_⟩
      cases hx
      exact ⟨valuesOk_proposed hf, hp⟩
    · exact ⟨hg, hprop⟩
  | confirm p =>
    intro s l x _ hx h hop c
    obtain ⟨hg, hprop⟩ := h hop c
    simp only [State.env, vget_vset]
    split
    · next hc =>
      subst hc
      exact ⟨(hprop x hx).1, hprop⟩
    · exact ⟨hg, hprop⟩
  | safeRelease p => exact fun s _ _ h => h
  | powerOn pins | line pins | commanded pins => exact fun s _ => config (resetTo_phase _ _ _ _ _)
  | _ => trivial

/-- Settles O59: the guarded values change by one command's own write; the limits are kept by every write, FREEZE forms
values within them, and a proposal's have passed PROPOSE's range checks. -/
theorem onlyConfirmChangesTheLimits : Obligations.OnlyConfirmChangesTheLimits :=
  ⟨onlyConfirmChangesTheGuarded,
    fun _ _ h hs => step_kept keptMoves_limits.kept (fun _ _ h => h) (fun i _ _ => limitsOk_own i) h hs⟩

end Sys2Proof.Machine


namespace Sys2Proof.Machine

/-! ### The sum of the grants (05, R113) -/

/-- The sum of a table over the channels. -/
def total (g : Vector Nat 8) : Nat := (allChans.map fun c => vget g c).sum

theorem sum_vset_of_not_mem (g : Vector Nat 8) (c : Chan) (x : Nat) {l : List Chan} (h : c ∉ l) :
    (l.map fun d => vget (vset g c x) d).sum = (l.map fun d => vget g d).sum :=
  congrArg List.sum (List.map_congr_left fun _ hd => vget_vset_ne _ _ fun hc => h (hc ▸ hd))

theorem sum_vset (g : Vector Nat 8) (c : Chan) (x : Nat) : ∀ {l : List Chan}, l.Nodup → c ∈ l →
    (l.map fun d => vget (vset g c x) d).sum + vget g c = (l.map fun d => vget g d).sum + x
  | d :: rest, once, mem => by
    obtain ⟨fresh, once⟩ := List.nodup_cons.mp once
    rw [List.map_cons, List.sum_cons, List.map_cons, List.sum_cons]
    rcases List.mem_cons.mp mem with rfl | mem
    · rw [vget_vset_self, sum_vset_of_not_mem g c x fresh]
      omega
    · have rest_sum := sum_vset g c x once mem
      have other : vget (vset g c x) d = vget g d := vget_vset_ne _ _ fun hc => fresh (hc ▸ mem)
      omega

theorem total_vset (g : Vector Nat 8) (c : Chan) (x : Nat) : total (vset g c x) + vget g c = total g + x :=
  sum_vset g c x nodup_allChans (mem_allChans c)

theorem vget_vset_le {g h : Vector Nat 8} (hg : ∀ d, vget g d ≤ vget h d) (c : Chan) {x : Nat} (hx : x ≤ vget h c)
    (d : Chan) : vget (vset g c x) d ≤ vget h d := by
  rw [vget_vset]
  split
  · next hc => exact hc ▸ hx
  · exact hg d

/-- The first pass takes what it grants from what is left, whatever the order lists. -/
theorem grantFirst_within (k : Constants) (request : Vector Nat 8) : ∀ (l : List Chan) (avail : Nat) (g : Vector Nat 8),
    (∀ d, vget g d ≤ vget request d) →
    (∀ d, vget (grantFirst k request l avail g).2 d ≤ vget request d) ∧
      total (grantFirst k request l avail g).2 + (grantFirst k request l avail g).1 ≤ total g + avail
  | [], _, _, h => ⟨h, Nat.le_refl _⟩
  | c :: rest, avail, g, h => by
    unfold grantFirst
    dsimp only
    have hsum := total_vset g c (min (min (vget request c) (vget k.reserve c)) avail)
    obtain ⟨hreq, htot⟩ := grantFirst_within k request rest (avail - min (min (vget request c) (vget k.reserve c)) avail)
      _ (vget_vset_le h c (x := min (min (vget request c) (vget k.reserve c)) avail) (by omega))
    exact ⟨hreq, by omega⟩

/-- So does the second, which adds to the first's grants. -/
theorem grantSecond_within (request : Vector Nat 8) : ∀ (l : List Chan) (avail : Nat) (g : Vector Nat 8),
    (∀ d, vget g d ≤ vget request d) →
    (∀ d, vget (grantSecond request l avail g).2 d ≤ vget request d) ∧
      total (grantSecond request l avail g).2 + (grantSecond request l avail g).1 ≤ total g + avail
  | [], _, _, h => ⟨h, Nat.le_refl _⟩
  | c :: rest, avail, g, h => by
    unfold grantSecond
    dsimp only
    have hc := h c
    have hsum := total_vset g c (vget g c + min (vget request c - vget g c) avail)
    obtain ⟨hreq, htot⟩ := grantSecond_within request rest (avail - min (vget request c - vget g c) avail)
      _ (vget_vset_le h c (x := vget g c + min (vget request c - vget g c) avail) (by omega))
    exact ⟨hreq, by omega⟩

theorem grantsOf_within (k : Constants) (budget : Nat) (request : Vector Nat 8) :
    (∀ d, vget (grantsOf k budget request) d ≤ vget request d) ∧ total (grantsOf k budget request) ≤ budget := by
  have hfirst := grantFirst_within k request k.order budget (Vector.replicate 8 0) (by simp)
  obtain ⟨hreq, htot⟩ := grantSecond_within request k.order (grantFirst k request k.order budget (Vector.replicate 8 0)).1
    (grantFirst k request k.order budget (Vector.replicate 8 0)).2 hfirst.1
  have hzero : total (Vector.replicate 8 0) = 0 := by decide
  exact ⟨hreq, by simp only [grantsOf]; omega⟩

/-! ### What keeps the grants -/

/-- The grants stand as long as the allotment does and no gate is cut. -/
theorem grantsOk_of_gates {s t : State} (ha : t.allot = s.allot)
    (hg : ∀ c, (vget t.engines c).gateEnable = (vget s.engines c).gateEnable) (h : s.grantsOk) : t.grantsOk := by
  unfold State.grantsOk State.eng
  rw [ha]
  exact ⟨h.1, fun c => ⟨(h.2 c).1, fun hc => (h.2 c).2 ((hg c).symm.trans hc)⟩⟩

/-- A recompute makes the grants right wherever the channels that are cut request nothing. -/
theorem recompute_grantsOk {s : State} (h : ∀ c, (s.eng c).gateEnable = false → vget s.allot.request c = 0) :
    (recompute s).grantsOk := by
  obtain ⟨hreq, htot⟩ := grantsOf_within s.consts s.allot.budget s.allot.request
  exact ⟨htot, fun c => ⟨hreq c, h c⟩⟩

theorem setRequest_grantsOk {s : State} {c : Chan} {r : Nat} (hc : (s.eng c).gateEnable = false → r = 0)
    (h : ∀ d, d ≠ c → (s.eng d).gateEnable = false → vget s.allot.request d = 0) : (setRequest c r s).grantsOk := by
  refine recompute_grantsOk fun d hd => ?_
  by_cases hdc : d = c
  · subst hdc
    simpa using hc hd
  · simpa [vget_vset_ne _ _ (Ne.symm hdc)] using h d hdc hd

theorem gateSync_grantsOk (c : Chan) (s : State) (h : s.grantsOk) : (gateSync c s).grantsOk := by
  have others {u : State} (ha : u.allot = s.allot) (he : ∀ d, d ≠ c → vget u.engines d = vget s.engines d) :
      (setRequest c 0 u).grantsOk :=
    setRequest_grantsOk (fun _ => rfl) fun d hd hg => by
      rw [ha]
      exact (h.2 d).2 (by rw [State.eng, ← he d hd]; exact hg)
  unfold gateSync
  dsimp only
  split
  · exact h
  · split
    · exact others rfl fun d hd => vget_vset_ne _ _ (Ne.symm hd)
    · refine others rfl fun d hd => ?_
      rw [sendGate, vget_vset_ne _ _ (Ne.symm hd), vget_vset_ne _ _ (Ne.symm hd)]

/-- What a move is made of: the leader's state, the gates, a handover's end, CHANNEL_STATE. -/
theorem moveGroup_keeps {P : State → Prop} {l : Chan} {new : ChState} {timer : Option Nat} {s : State}
    (state : P { s with engines := vset s.engines l { s.eng l with state := new, timer := timer, holdFault := false } })
    (sync : ∀ c u, P u → P (gateSync c u)) (drop : ∀ u, P u → P (dropHandover l u))
    (tell : ∀ u, P u → P (broadcast .channelState u)) : P (moveGroup l new timer s) := by
  have synced := gateSyncs_induct P sync (s.group l) _ state
  unfold moveGroup
  dsimp only
  split
  · exact tell _ (drop _ synced)
  · exact tell _ synced

theorem moveGroup_grantsOk (l : Chan) (new : ChState) (timer : Option Nat) (s : State) (h : s.grantsOk) :
    (moveGroup l new timer s).grantsOk := by
  refine moveGroup_keeps (grantsOk_of_gates (s := s) rfl (fun c => ?_) h) gateSync_grantsOk
    (fun _ hu => grantsOk_of_gates rfl (fun _ => rfl) hu) fun _ hu => grantsOk_of_gates rfl (fun _ => rfl) hu
  simp only [vget_vset]
  split
  · next hc => rw [← hc, State.eng]
  · rfl

theorem setBudget_grantsOk (b : Nat) (s : State) (h : s.grantsOk) : (setBudget b s).grantsOk := by
  unfold setBudget
  split
  · exact h
  · exact recompute_grantsOk fun c hc => (h.2 c).2 hc

theorem keptMoves_grants : KeptMoves State.grantsOk where
  free _ _ _ _ _ h := h
  ports _ _ h := h
  line _ _ _ _ h := h
  queues _ _ h := h
  engines := by
    intro s v hv h
    exact grantsOk_of_gates (s := s) rfl (fun c => (hv c).2) h
  envs _ _ h := h
  auth _ h := h
  link _ _ h := h
  react _ _ _ h := h
  budget b h := setBudget_grantsOk b _ h
  request c r hg h := setRequest_grantsOk (fun hc => by rw [hg] at hc; cases hc) fun d _ hd => (h.2 d).2 hd
  move l new timer _ h := moveGroup_grantsOk l new timer _ h
  enterLink := by
    intro s x h
    unfold Machine.enterLink
    exact gateSyncs_induct State.grantsOk gateSync_grantsOk _ _ (grantsOk_of_gates (s := s) rfl (fun _ => rfl) h)

theorem grantsOk_own (i : Instr) : OwnKept State.grantsOk i := by
  have zero (kind : ResetKind) (k : Constants) (r : Option SevereFault) (pins : Pins) (s : State) :
      (resetTo kind k r pins s).grantsOk := by
    unfold State.grantsOk
    rw [resetTo_allot]
    exact ⟨by decide, fun c => ⟨by simp [Allotment.initial], fun _ => by simp [Allotment.initial]⟩⟩
  cases i with
  | periodStart order later =>
    refine fun s hop h => keptMoves_grants.kept.periodStart (fun _ _ h => h) order later (fun u _ h => ?_) hop h
    exact grantsOk_of_gates (s := u) rfl (fun c => by simp [advance]) h
  | writeConstant p => exact fun s k _ _ h => h
  | freeze p =>
    intro s _ _ _ h
    obtain ⟨hreq, htot⟩ := grantsOf_within s.consts 0 s.allot.request
    unfold State.grantsOk State.eng
    rw [freezePart_allot]
    refine ⟨htot, fun c => ⟨hreq c, fun hc => (h.2 c).2 ?_⟩⟩
    rw [freezePart_engine] at hc
    exact hc
  | claim p => exact fun s l _ _ _ _ h => ⟨keptMoves_grants.changeHolder l _ h, fun old _ => h⟩
  | engage p =>
    exact fun s l _ _ _ h => keptMoves_grants.toReleasing l (fun u timer hu => moveGroup_grantsOk l _ timer u hu) h
  | demand p => exact fun s l es _ _ _ h => h
  | propose p => exact fun s l f w _ _ _ h => h
  | confirm p => exact fun s l x _ _ h => h
  | safeRelease p => exact fun s _ _ h => h
  | powerOn pins | line pins | commanded pins => exact fun s _ => zero _ _ _ _ _
  | _ => trivial

/-- Settles O51: a recompute follows every write of the budget and of a request, and a channel that is cut has its
request cleared in the same action. -/
theorem stepsKeepTheGrants : Obligations.StepsKeepTheGrants :=
  fun _ _ h hs => step_kept keptMoves_grants.kept (fun _ _ h => h) (fun i _ _ => grantsOk_own i) h hs

end Sys2Proof.Machine


namespace Sys2Proof.Machine

/-! ### The ports (09, R166 to R171) -/

/-- A port's line under its signal and the phase: what the end of a command does not write. -/
def PortBlock.lineOk (b : PortBlock) (signal : Bool) (x : Phase) : Prop :=
  b.inbound.length ≤ 4 ∧ (b.link = .down ↔ signal = false) ∧ (b.silence ≠ none → b.link = .up) ∧
    (x = .config → b.link ≠ .silent ∧ b.silence = none)

def State.linesOk (s : State) : Prop := ∀ p, (vget s.ports p).lineOk (vget s.signals p) s.phase

theorem portsOk_iff {s : State} : s.portsOk ↔ s.linesOk ∧ ∀ p, (s.port p).settled :=
  ⟨fun h => ⟨fun p => (h p).2, fun p => (h p).1⟩, fun h p => ⟨h.2 p, h.1 p⟩⟩

theorem PortBlock.lineOk_of_sameLine {a b : PortBlock} {signal : Bool} {x : Phase} (hb : b.sameLine a)
    (h : a.lineOk signal x) : b.lineOk signal x := by
  obtain ⟨hlink, hsil, hlen⟩ := hb
  unfold PortBlock.lineOk
  rw [hlink, hsil]
  exact ⟨Nat.le_trans hlen h.1, h.2⟩

theorem linesOk_of_ports {s t : State} (hx : t.phase = s.phase) (hs : t.signals = s.signals)
    (hp : ∀ q, (vget t.ports q).sameLine (vget s.ports q)) (h : s.linesOk) : t.linesOk := by
  intro q
  rw [hx, hs]
  exact PortBlock.lineOk_of_sameLine (hp q) (h q)

theorem broadcast_sameLine (k : NoticeKind) (s : State) (q : Port) :
    (vget (broadcast k s).ports q).sameLine (vget s.ports q) := by
  unfold broadcast
  rw [vget_vmap_ports]
  split
  · exact ⟨rfl, rfl, Nat.le_refl _⟩
  · exact PortBlock.sameLine_rfl _

/-- A port whose line moves keeps it right. -/
theorem lineOk_of_lineMoves {s : State} {p : Port} {b : PortBlock} {signal : Bool} (hb : s.lineMoves p b signal)
    (h : s.linesOk) : b.lineOk signal s.phase := by
  obtain ⟨hlink, hlen, hsil, hsilent⟩ := hb
  obtain ⟨hlen', hlink', -, hconfig⟩ := h p
  refine ⟨by omega, ?_, fun hs => (hsil hs).1, fun hc => ⟨fun hl => ?_, ?_⟩⟩
  · rcases hlink with hlink | ⟨hsig, hdown⟩
    · exact hlink
    · rw [hdown, hlink', hsig]
  · exact hsilent hl (hconfig hc).2
  · refine Classical.byContradiction fun hs => ?_
    have := (hsil hs).2
    rw [hc] at this
    cases this

theorem moveGroup_linesOk (l : Chan) (new : ChState) (timer : Option Nat) (s : State) (h : s.linesOk) :
    (moveGroup l new timer s).linesOk :=
  moveGroup_keeps (by exact h)
    (fun c u hu => linesOk_of_ports (by simp) (by simp) (fun q => by simp [PortBlock.sameLine_rfl]) hu) (fun _ hu => by exact hu)
    fun _ hu => linesOk_of_ports (by simp) (by simp) (broadcast_sameLine _ _) hu

theorem keptMoves_lines : KeptMoves State.linesOk where
  free _ _ _ _ _ h := h
  ports := by
    intro s v hv h
    exact linesOk_of_ports (s := s) rfl rfl hv h
  line := by
    intro s p b signal hb h q
    simp only [vget_vset]
    split
    · exact lineOk_of_lineMoves hb h
    · exact h q
  queues _ _ h := h
  engines _ _ h := h
  envs _ _ h := h
  auth _ h := h
  link _ _ h := h
  react _ _ _ h := h
  budget _ h := linesOk_of_ports (by simp) (by simp) (fun q => by simp [PortBlock.sameLine_rfl]) h
  request _ _ _ h := linesOk_of_ports (by simp) (by simp) (fun q => by simp [PortBlock.sameLine_rfl]) h
  move l new timer _ h := moveGroup_linesOk l new timer _ h
  enterLink _ h := linesOk_of_ports (by simp) (by simp) (fun q => by simp [PortBlock.sameLine_rfl]) h

theorem PortBlock.lineOk_initial (signal : Bool) (x : Phase) : (PortBlock.initial signal).lineOk signal x := by
  cases signal <;> simp [PortBlock.lineOk, PortBlock.initial]

theorem linesOk_own (i : Instr) : OwnKept State.linesOk i := by
  have reset (kind : ResetKind) (k : Constants) (r : Option SevereFault) (pins : Pins) (s : State) :
      (resetTo kind k r pins s).linesOk := fun q => by
    rw [resetTo_port, resetTo_signals]
    exact PortBlock.lineOk_initial _ _
  cases i with
  | periodStart order later =>
    refine fun s hop h => keptMoves_lines.kept.periodStart (fun _ _ h => h) order later (fun u _ h q => ?_) hop h
    obtain ⟨hlen, hlink, hsil, hconfig⟩ := h q
    simp only [advance, vget_vmap_ports, PortBlock.tick, tickCount, PortBlock.lineOk, ne_eq, Option.map_eq_none_iff]
    exact ⟨hlen, hlink, hsil, hconfig⟩
  | writeConstant p => exact fun s k _ _ h => h
  | freeze p =>
    intro s _ _ _ h q
    obtain ⟨hlen, hlink, -, hconfig⟩ := h q
    rw [freezePart_port, freezePart_signals, freezePart_phase]
    refine ⟨hlen, hlink, fun hs => ?_, fun hx => by cases hx⟩
    refine Classical.byContradiction fun hup => ?_
    rw [if_neg hup] at hs
    rename_i hx _
    exact hs (hconfig hx).2
  | claim p => exact fun s l _ _ _ _ h => ⟨keptMoves_lines.changeHolder l _ h, fun old _ => h⟩
  | engage p => exact fun s l _ _ _ h => keptMoves_lines.toReleasing l (fun u timer hu => moveGroup_linesOk l _ timer u hu) h
  | demand p => exact fun s l es _ _ _ h => h
  | propose p => exact fun s l f w _ _ _ h => h
  | confirm p => exact fun s l x _ _ h => h
  | safeRelease p => exact fun s _ _ h => h
  | powerOn pins | line pins | commanded pins => exact fun s _ => reset _ _ _ _ _
  | _ => trivial

/-- A command that completes leaves the state as it was, or settled, or is a reset. -/
theorem exec_ends {i : Instr} {s t : State} (h : exec i s = .next t) :
    t = s ∨ (∃ u, t = settle u) ∨ ∃ kind k r pins, t = resetTo kind k r pins s := by
  have ended {u : State} (h : done u = .next t) : ∃ u, t = settle u := ⟨u, (Host.Outcome.next.inj h).symm⟩
  have idle (h : Host.Outcome.next s = (.next t : Host.Outcome State Fault Refusal)) : t = s :=
    (Host.Outcome.next.inj h).symm
  cases i with
  | powerOn pins => exact .inr (.inr ⟨_, _, _, _, (Host.Outcome.next.inj h).symm⟩)
  | line pins => exact .inr (.inr ⟨_, _, _, _, (Host.Outcome.next.inj h).symm⟩)
  | commanded pins =>
    change execCommanded pins s = _ at h
    unfold execCommanded at h
    split at h
    · exact .inr (.inr ⟨_, _, _, _, (Host.Outcome.next.inj h).symm⟩)
    all_goals exact .inl (idle h)
  | periodStart order later =>
    change execPeriodStart order later s = _ at h
    unfold execPeriodStart at h
    split at h
    · exact .inl (idle h)
    · exact .inr (.inl (ended h))
  | brakeTimerExpiry c =>
    change execBrakeTimerExpiry c s = _ at h
    unfold execBrakeTimerExpiry at h
    split at h
    case h_1 | h_2 => exact .inr (.inl (ended h))
    all_goals exact .inl (idle h)
  | rampCountExpiry c =>
    change execRampCountExpiry c s = _ at h
    unfold execRampCountExpiry at h
    split at h
    · exact .inr (.inl (ended h))
    all_goals exact .inl (idle h)
  | stopCountExpiry c =>
    change execStopCountExpiry c s = _ at h
    unfold execStopCountExpiry at h
    split at h
    · exact .inr (.inl (ended h))
    all_goals exact .inl (idle h)
  | _ => exact .inr (.inl (ended h))

theorem PortBlock.initial_settled (signal : Bool) : (PortBlock.initial signal).settled := by
  cases signal <;> simp [PortBlock.settled, PortBlock.initial]

theorem step_settled {s t : State} (h : ∀ p, (s.port p).settled) (hs : step s = .next t) (q : Port) :
    (t.port q).settled := by
  rcases step_of_exec hs with rfl | ⟨i, rest, -, he⟩
  · exact h q
  rcases exec_ends he with ht | ⟨u, ht⟩ | ⟨kind, k, r, pins, ht⟩
  · rw [ht]
    exact h q
  · rw [ht, State.port, settle_ports_get]
    exact PortBlock.settle_settled _ _ _
  · rw [ht, State.port, resetTo_port]
    exact PortBlock.initial_settled _

theorem step_linesOk {s t : State} (h : s.linesOk) (hs : step s = .next t) : t.linesOk :=
  step_kept keptMoves_lines.kept (fun _ _ h => h) (fun i _ _ => linesOk_own i) h hs

/-- Settles O56: every write keeps a port's line right, and every command that writes ends by settling the ports. -/
theorem stepsKeepThePorts : Obligations.StepsKeepThePorts := by
  intro s t h hs
  obtain ⟨hlines, hsettled⟩ := portsOk_iff.mp h
  exact portsOk_iff.mpr ⟨step_linesOk hlines hs, step_settled hsettled hs⟩

end Sys2Proof.Machine


namespace Sys2Proof.Machine

/-- Equivalent conditions choose alike. -/
theorem ite_of_iff {α : Type} {p q : Prop} [Decidable p] [Decidable q] {a b : α} (h : p ↔ q) :
    (if p then a else b) = if q then a else b := ite_congr (propext h) (fun _ => rfl) fun _ => rfl

/-! ### What moves and changes of holder leave of states, records and queues -/

section

variable (l : Chan) (s : State) (c : Chan)

theorem moveGroup_auth (new : ChState) (timer : Option Nat) : vget (moveGroup l new timer s).auth c =
    if l = c ∧ (s.eng l).state.running = true ∧ new.running = false then { vget s.auth c with handover := none }
    else vget s.auth c := by
  unfold moveGroup
  dsimp only
  rw [broadcast_auth]
  by_cases hrun : (s.eng l).state.running = true ∧ new.running = false
  · rw [if_pos (by simp only [hrun.1, hrun.2]; rfl), dropHandover, vget_vset]
    by_cases hc : l = c
    · subst hc
      rw [if_pos rfl, if_pos ⟨rfl, hrun⟩]
      simp [State.auRec]
    · simp [hc]
  · rw [if_neg (by simpa using hrun), if_neg (fun h => hrun h.2)]
    simp

theorem toOff_state : (vget (toOff l s).engines c).state = if l = c then .off else (vget s.engines c).state := by
  unfold toOff
  rw [moveGroup_state]
  split
  · rfl
  · next h => rw [vget_vset_ne _ _ h]

theorem toHolding_state : (vget (toHolding l s).engines c).state = if l = c then .holding else (vget s.engines c).state := by
  unfold toHolding
  rw [moveGroup_state, flushQueue_engines]

theorem recordStart_state (n : Nat) : (vget (recordStart l n s).engines c).state = (vget s.engines c).state := by
  unfold recordStart
  rw [vget_vset]
  split
  · next h => rw [← h, State.eng]
  · rfl

theorem toRamping_state : (vget (toRamping l s).engines c).state = if l = c then .ramping else (vget s.engines c).state := by
  unfold toRamping
  dsimp only
  rw [moveGroup_state, recordStart_state]

theorem toStopping_state : (vget (toStopping l s).engines c).state = if l = c then .stopping else (vget s.engines c).state := by
  unfold toStopping
  dsimp only
  rw [moveGroup_state, flushQueue_engines, recordStart_state]

omit l in
theorem fillTrips_state (r : TripRecord) : ∀ (g : List Chan) (s : State),
    (vget (fillTrips r g s).engines c).state = (vget s.engines c).state
  | [], _ => rfl
  | d :: rest, s => by
    rw [fillTrips, fillTrips_state r rest, vget_vset]
    split
    · next h => rw [← h, State.eng]
    · rfl

theorem toTripped_state (k : FaultKind) (d : Nat) :
    (vget (toTripped l k d s).engines c).state = if l = c then .tripped else (vget s.engines c).state := by
  unfold toTripped
  dsimp only
  rw [moveGroup_state, flushQueue_engines, fillTrips_state]

omit l in
theorem clearIntegrators_state : ∀ (g : List Chan) (s : State),
    (vget (clearIntegrators g s).engines c).state = (vget s.engines c).state
  | [], _ => rfl
  | d :: rest, s => by
    rw [clearIntegrators, clearIntegrators_state rest, vget_vset]
    split
    · next h => rw [← h, State.eng]
    · rfl

theorem toReleasing_state : (vget (toReleasing l s).engines c).state = if l = c then .releasing else (vget s.engines c).state := by
  unfold toReleasing
  dsimp only
  rw [moveGroup_state, clearIntegrators_state]

/-! ### A change of holder (02, R36) -/

theorem changeHolder_auth (new : Option Port) :
    vget (changeHolder l new s).auth c = if l = c then heldBy s l new else vget s.auth c := by
  unfold changeHolder
  dsimp only
  split
  · next h =>
    simp only [Bool.and_eq_true, decide_eq_true_eq] at h
    rw [toHolding, moveGroup_auth, flushQueue_auth]
    simp only [vget_vset]
    split
    · next hc => rw [if_pos hc.1, h.1, heldBy, nextHandover]
    · rfl
  · rw [vget_vset]

theorem changeHolder_queues (new : Option Port) : (changeHolder l new s).queues = vset s.queues l (s.queue l).passed := by
  unfold changeHolder
  dsimp only
  split
  · rw [toHolding, moveGroup_queues, flushQueue]
    simp [State.queue, DemandQueue.passed]
  · rfl

theorem changeHolder_state (new : Option Port) : (vget (changeHolder l new s).engines c).state =
    if l = c ∧ new = none ∧ (s.eng l).state.running = true then .holding else (vget s.engines c).state := by
  unfold changeHolder
  dsimp only
  split
  · next h =>
    simp only [Bool.and_eq_true, decide_eq_true_eq] at h
    rw [toHolding_state]
    exact ite_of_iff ⟨fun hc => ⟨hc, h⟩, And.left⟩
  · next h =>
    simp only [Bool.and_eq_true, decide_eq_true_eq] at h
    rw [if_neg (fun hc => h hc.2)]

/-- The head of the waiting list, or nobody, becomes holder; the rest stays waiting. -/
theorem installHead_eq : installHead l s = changeHolder l ((s.auRec l).waiting.head?.map (·.port))
    { s with auth := vset s.auth l { s.auRec l with waiting := (s.auRec l).waiting.tail } } := by
  unfold installHead
  split
  · next h =>
    have same : { s.auRec l with waiting := [] } = s.auRec l := by rw [← h]
    rw [h, List.head?_nil, Option.map_none, List.tail_nil, same, State.auRec, vset_vget_self]
  · next x rest h => rw [h, List.head?_cons, Option.map_some, List.tail_cons]

theorem installHead_auth : vget (installHead l s).auth c = if l = c then
      { s.auRec l with
        holder := (s.auRec l).waiting.head?.map (·.port), epoch := (s.auRec l).epoch + 1, lock := none
        holderRank := ((s.auRec l).waiting.head?.map (·.port)).map s.rank, waiting := (s.auRec l).waiting.tail
        handover := nextHandover s l ((s.auRec l).waiting.head?.map (·.port)) }
    else vget s.auth c := by
  rw [installHead_eq, changeHolder_auth]
  split
  · have handover (new : Option Port) : nextHandover
        { s with auth := vset s.auth l { s.auRec l with waiting := (s.auRec l).waiting.tail } } l new = nextHandover s l new := by
      unfold nextHandover
      split
      · rfl
      · simp only [State.auRec, vget_vset_self]
        rfl
    rw [heldBy, handover]
    simp only [State.auRec, vget_vset_self]
    rfl
  · next h => rw [vget_vset_ne _ _ h]

theorem installHead_queues : (installHead l s).queues = vset s.queues l (s.queue l).passed := by
  rw [installHead_eq, changeHolder_queues]
  rfl

theorem installHead_state : (vget (installHead l s).engines c).state =
    if l = c ∧ (s.auRec l).waiting = [] ∧ (s.eng l).state.running = true then .holding
    else (vget s.engines c).state := by
  rw [installHead_eq, changeHolder_state]
  exact ite_of_iff (by simp [State.eng])

end

end Sys2Proof.Machine


namespace Sys2Proof.Machine

/-! ### The phases (11, R182, R184) -/

/-- In OPERATING only the constants count. -/
theorem phaseOk_of_operating {s t : State} (hop : s.phase = .operating) (hx : t.phase = s.phase)
    (hk : t.consts = s.consts) (h : s.phaseOk) : t.phaseOk :=
  ⟨fun _ => by rw [hk]; exact h.1 hop, fun hc => by rw [hx, hop] at hc; cases hc⟩

/-- The phases stand while states and holders do, and waiting claims and entries only leave. -/
theorem phaseOk_of_follows {s t : State} (hx : t.phase = s.phase) (hk : t.consts = s.consts)
    (hst : ∀ c, (vget s.engines c).state = .off → (vget t.engines c).state = .off)
    (hau : ∀ c, (vget t.auth c).holder = (vget s.auth c).holder ∧ (vget t.auth c).waiting.Sublist (vget s.auth c).waiting)
    (hq : ∀ c, (vget t.queues c).entries.Sublist (vget s.queues c).entries)
    (hl : s.link.state = .draining ∨ s.link.state = .discharged → t.link.state = .draining ∨ t.link.state = .discharged)
    (h : s.phaseOk) : t.phaseOk := by
  refine ⟨fun hop => by rw [hk]; exact h.1 (hx ▸ hop), fun hc => ?_⟩
  obtain ⟨hrest, hlink⟩ := h.2 (hx ▸ hc)
  refine ⟨fun c => ?_, hl hlink⟩
  obtain ⟨hoff, hnone, hwait, hempty⟩ := hrest c
  exact ⟨hst c hoff, (hau c).1.trans hnone, List.sublist_nil.mp (hwait ▸ (hau c).2), List.sublist_nil.mp (hempty ▸ hq c)⟩

/-- Something that moves shows that the part operates. -/
theorem phaseOk_live {s : State} (h : s.phaseOk) (hm : s.inMotion) : s.phase = .operating := by
  cases hx : s.phase with
  | operating => rfl
  | config =>
    obtain ⟨hrest, hlink⟩ := h.2 hx
    rcases hm with hop | ⟨c, hc⟩ | ⟨hd, hd'⟩
    · rw [hx] at hop
      cases hop
    · exact absurd (hrest c).1 hc
    · exact absurd hlink (by simp [hd, hd'])

theorem phaseOk_engine {s : State} (h : s.phaseOk) {l : Chan} (hs : (s.eng l).state ≠ .off) : s.phase = .operating :=
  phaseOk_live h (inMotion_of_running hs)

theorem moveGroup_records (l : Chan) (new : ChState) (timer : Option Nat) (s : State) (c : Chan) :
    (vget (moveGroup l new timer s).auth c).holder = (vget s.auth c).holder ∧
      (vget (moveGroup l new timer s).auth c).waiting = (vget s.auth c).waiting := by
  rw [moveGroup_auth]
  split <;> exact ⟨rfl, rfl⟩

theorem toOff_phaseOk (l : Chan) {s : State} (h : s.phaseOk) : (toOff l s).phaseOk := by
  refine phaseOk_of_follows (by simp) (by simp) (fun c hc => ?_) (fun c => ?_) (fun c => ?_) (fun hl => by simpa using hl) h
  · rw [toOff_state]
    split <;> simp [hc]
  · unfold toOff
    obtain ⟨hholder, hwait⟩ := moveGroup_records l .off none
      { s with engines := vset s.engines l { s.eng l with active := (s.eng l).zeroDemand } } c
    exact ⟨hholder, hwait ▸ List.Sublist.refl _⟩
  · simp [toOff_queues]

theorem installHead_phaseOk (l : Chan) {s : State} (h : s.phaseOk) : (installHead l s).phaseOk := by
  refine ⟨fun hop => ?_, fun hc => ?_⟩
  · rw [installHead_consts]
    exact h.1 (by simpa using hop)
  · obtain ⟨hrest, hlink⟩ := h.2 (by simpa using hc)
    obtain ⟨hoff, hnone, hwait, hempty⟩ := hrest l
    refine ⟨fun c => ?_, by simpa using hlink⟩
    obtain ⟨hoffc, hnonec, hwaitc, hemptyc⟩ := hrest c
    rw [State.eng, installHead_state, if_neg (fun hr => by rw [hoff] at hr; exact absurd hr.2.2 (by decide)),
      State.auRec, installHead_auth, hwait, State.queue, installHead_queues, vget_vset]
    refine ⟨hoffc, ?_, ?_, ?_⟩
    · split
      · rfl
      · exact hnonec
    · split
      · rfl
      · exact hwaitc
    · split
      · rfl
      · exact hemptyc

theorem enterLink_state (x : LinkState) (s : State) (c : Chan) :
    (vget (enterLink x s).engines c).state = (vget s.engines c).state := by
  rw [enterLink, gateSyncs_state]

theorem enterLink_linkState (x : LinkState) (s : State) : (enterLink x s).link.state = x := by simp [enterLink]

theorem kept_phase : Kept State.phaseOk (fun x => x = .operating) (fun _ => True) where
  live h hm := phaseOk_live h hm
  reports _ := trivial
  counts _ _ := trivial
  free _ _ _ _ _ h := h
  ports _ _ h := h
  line _ _ _ _ h := h
  queues := by
    intro s v hv h
    exact phaseOk_of_follows (s := s) rfl rfl (fun _ => id) (fun _ => ⟨rfl, List.Sublist.refl _⟩) hv id h
  engines := by
    intro s v hv h
    exact phaseOk_of_follows (s := s) rfl rfl (fun c hc => (hv c).1.trans hc) (fun _ => ⟨rfl, List.Sublist.refl _⟩)
      (fun _ => List.Sublist.refl _) id h
  envs _ _ h := h
  auth := by
    intro s v hv h
    exact phaseOk_of_follows (s := s) rfl rfl (fun _ => id) (fun c => ⟨(hv c).1, (hv c).2.2.1⟩)
      (fun _ => List.Sublist.refl _) id h
  link := by
    intro s b hb h
    exact phaseOk_of_follows (s := s) rfl rfl (fun _ => id) (fun _ => ⟨rfl, List.Sublist.refl _⟩)
      (fun _ => List.Sublist.refl _) (by rw [hb]; exact id) h
  react _ _ h := h
  budget b h := phaseOk_of_follows (by simp) (by simp) (fun _ => by simp) (fun _ => by simp) (fun _ => by simp) (by simp) h
  request c r _ h :=
    phaseOk_of_follows (by simp) (by simp) (fun _ => by simp) (fun _ => by simp) (fun _ => by simp) (by simp) h
  toOff l h := toOff_phaseOk l h
  toRun l hs h := phaseOk_of_operating (phaseOk_engine h (by rw [hs]; decide)) (by simp) (by simp) h
  toHolding l hs h := phaseOk_of_operating (phaseOk_engine h (by rintro ho; rw [ho] at hs; revert hs; decide)) (by simp) (by simp) h
  toRamping l hs h := phaseOk_of_operating (phaseOk_engine h (by rw [hs]; decide)) (by simp) (by simp) h
  toTripped l k d hop h := phaseOk_of_operating hop (by simp) (by simp) h
  installHead l h := installHead_phaseOk l h
  enterLink := by
    intro s x hx _ h
    rcases hx with hop | rfl
    · exact phaseOk_of_operating hop (by simp) (by simp) h
    · exact phaseOk_of_follows (by simp) (by simp) (fun c => by rw [enterLink_state]; exact id) (fun _ => by simp)
        (fun _ => by simp) (fun _ => .inr (enterLink_linkState _ _)) h
  drain := by
    intro s k hop h
    split
    · exact phaseOk_of_operating hop (by simp) (by simp) h
    · exact phaseOk_of_operating hop (by simp) (by simp) h
  stops hop h := phaseOk_of_operating hop (by simp) (by simp) h
  pend _ _ _ _ _ _ h := h
  drop _ _ h := h
  serve _ _ _ _ _ _ h := h
  endLink _ _ h := h
  endStop := by
    intro s e _ h
    exact phaseOk_of_follows (by simp) (by simp) (fun _ => by simp) (fun _ => by simp) (fun _ => by simp) (by simp) h
  holdRepeat _ h := h

/-! ### The gates (01, R5) -/

theorem mem_group_of_lead {k : Constants} {l c : Chan} (h : k.lead c = l) : c ∈ k.group l := by
  unfold Constants.lead at h
  split at h
  · next hf =>
    have leads : ∀ c : Chan, k.isFollower c = true → c ∈ k.group ⟨c.val - 1, by omega⟩ := by
      intro c hf
      match c, hf with
      | 1, hf | 3, hf | 5, hf =>
        unfold Constants.group
        split
        · exact List.mem_cons_of_mem _ List.mem_cons_self
        · next hno => exact absurd hf hno
      | 0, hf | 2, hf | 4, hf | 6, hf | 7, hf => exact absurd hf Bool.false_ne_true
    exact h ▸ leads c hf
  · exact h ▸ mem_group_self k c

theorem gateSync_gateEnable (c d : Chan) (s : State) : (vget (gateSync c s).engines d).gateEnable =
    if c = d then s.gateValue c else (vget s.engines d).gateEnable := by
  rw [gateSync_eq (l := s.consts.lead c) rfl rfl, vget_vset]
  split
  · simp only [Engine.gated, State.gateValue, State.chState, State.lead]
    split
    · next h =>
      rw [Bool.and_eq_true, Bool.not_eq_true'] at h
      exact h.2.symm
    · rfl
  · rfl

theorem gateValue_congr {s t : State} (hk : t.consts = s.consts)
    (hst : ∀ c, (vget t.engines c).state = (vget s.engines c).state) (hl : t.link.state = s.link.state) (c : Chan) :
    t.gateValue c = s.gateValue c := by
  unfold State.gateValue State.chState State.present State.lead State.eng
  rw [hk, hst, hl]

theorem gateSync_gateValue (c d : Chan) (s : State) : (gateSync c s).gateValue d = s.gateValue d :=
  gateValue_congr (by simp) (gateSync_state c · s) (by simp) d

/-- Once the listed gates have followed, every gate that was right or is listed is right. -/
theorem gateSyncs_gatesOk : ∀ (g : List Chan) (s : State), (∀ c, c ∉ g → (s.eng c).gateEnable = s.gateValue c) →
    (gateSyncs g s).gatesOk
  | [], _, h => fun c => h c List.not_mem_nil
  | d :: rest, s, h => by
    refine gateSyncs_gatesOk rest _ fun c hc => ?_
    rw [State.eng, gateSync_gateEnable, gateSync_gateValue]
    split
    · next hd => rw [hd]
    · next hd => exact h c (by simpa using ⟨Ne.symm hd, hc⟩)

theorem gatesOk_of_gates {s t : State} (hk : t.consts = s.consts)
    (hst : ∀ c, (vget t.engines c).state = (vget s.engines c).state)
    (hg : ∀ c, (vget t.engines c).gateEnable = (vget s.engines c).gateEnable)
    (hl : t.link.state = s.link.state) (h : s.gatesOk) : t.gatesOk := fun c => by
  rw [State.eng, hg, gateValue_congr hk hst hl]
  exact h c

theorem moveGroup_engines (l : Chan) (new : ChState) (timer : Option Nat) (s : State) :
    (moveGroup l new timer s).engines = (gateSyncs (s.group l) { s with
      engines := vset s.engines l { s.eng l with state := new, timer := timer, holdFault := false } }).engines := by
  unfold moveGroup
  dsimp only
  rw [broadcast_engines]
  split
  · rw [dropHandover_engines]
  · rfl

theorem moveGroup_gatesOk (l : Chan) (new : ChState) (timer : Option Nat) (s : State) (h : s.gatesOk) :
    (moveGroup l new timer s).gatesOk := by
  have synced : (gateSyncs (s.group l) { s with
      engines := vset s.engines l { s.eng l with state := new, timer := timer, holdFault := false } }).gatesOk := by
    refine gateSyncs_gatesOk _ _ fun c hc => ?_
    have hne : l ≠ s.consts.lead c := fun hl => hc (mem_group_of_lead hl.symm)
    have hlc : l ≠ c := fun hl => hc (hl ▸ mem_group_self s.consts l)
    have := h c
    unfold State.gateValue State.chState State.lead State.eng at this ⊢
    rwa [vget_vset_ne _ _ hlc, vget_vset_ne _ _ hne]
  refine gatesOk_of_gates ?_ (fun c => ?_) (fun c => ?_) ?_ synced
  · rw [moveGroup_consts, gateSyncs_consts]
  · rw [moveGroup_engines]
  · rw [moveGroup_engines]
  · rw [moveGroup_link, gateSyncs_link]

theorem keptMoves_gates : KeptMoves State.gatesOk where
  free _ _ _ _ _ h := h
  ports _ _ h := h
  line _ _ _ _ h := h
  queues _ _ h := h
  engines := by
    intro s v hv h
    exact gatesOk_of_gates (s := s) rfl (fun c => (hv c).1) (fun c => (hv c).2) rfl h
  envs _ _ h := h
  auth _ h := h
  link := by
    intro s b hb h
    exact gatesOk_of_gates (s := s) rfl (fun _ => rfl) (fun _ => rfl) hb h
  react _ _ _ h := h
  budget b h := gatesOk_of_gates (by simp) (fun _ => by simp) (fun _ => by simp) (by simp) h
  request c r _ h := gatesOk_of_gates (by simp) (fun _ => by simp) (fun _ => by simp) (by simp) h
  move l new timer _ h := moveGroup_gatesOk l new timer _ h
  enterLink _ _ := gateSyncs_gatesOk _ _ fun c hc => absurd (mem_allChans c) hc

/-- With every channel in OFF no gate is to be on, whatever the constants. -/
theorem gateValue_off {s : State} (h : ∀ c, (vget s.engines c).state = .off) (c : Chan) : s.gateValue c = false := by
  unfold State.gateValue State.chState State.eng
  rw [h]
  simp [ChState.driving]

theorem phaseOk_own (i : Instr) : OwnKept State.phaseOk i := by
  have fresh (kind : ResetKind) (k : Constants) (r : Option SevereFault) (pins : Pins) (s : State) :
      (resetTo kind k r pins s).phaseOk := by
    refine ⟨fun hop => (by rw [resetTo_phase] at hop; cases hop), fun _ => ⟨fun c => ?_, ?_⟩⟩
    · rw [State.eng, resetTo_state, State.auRec, resetTo_auth, State.queue, resetTo_queue]
      exact ⟨rfl, rfl, rfl, rfl⟩
    · rw [resetTo_link]
      exact .inl rfl
  cases i with
  | periodStart order later =>
    exact fun s hop h => kept_phase.periodStart (fun _ _ h => h) order later
      (fun u hu h => phaseOk_of_operating hu rfl rfl h) hop h
  | writeConstant p => exact fun s k _ hc h => ⟨fun hop => (by rw [hc] at hop; cases hop), h.2⟩
  | freeze p =>
    exact fun s _ _ hf h =>
      ⟨fun _ => (by rw [freezePart_consts]; exact hf), fun hx => (by rw [freezePart_phase] at hx; cases hx)⟩
  | claim p =>
    exact fun s l hr _ _ _ h =>
      ⟨phaseOk_of_operating hr.1 (by simp) (by simp) h, fun old _ => phaseOk_of_operating hr.1 rfl rfl h⟩
  | engage p => exact fun s l hr _ _ h => phaseOk_of_operating hr.1 (by simp) (by simp) h
  | demand p => exact fun s l es hr _ _ h => phaseOk_of_operating hr.1 (by simp) (by simp) h
  | propose p => exact fun s l f w hr _ _ h => phaseOk_of_operating hr.1 rfl rfl h
  | confirm p => exact fun s l x _ _ h => h
  | safeRelease p => exact fun s _ _ h => h
  | powerOn pins | line pins | commanded pins => exact fun s _ => fresh _ _ _ _ _
  | _ => trivial

/-- Settles O49: in CONFIG only resets and refusals can be reached, and the link's discharge; OPERATING is entered past
FREEZE's checks, and the constants stand from there on. -/
theorem stepsKeepThePhases : Obligations.StepsKeepThePhases := fun _ _ h hs =>
  step_kept kept_phase (fun _ _ h => h) (fun i _ _ => phaseOk_own i) h hs

theorem gatesOk_own (i : Instr) : OwnKept (fun s => s.phaseOk ∧ s.gatesOk) i := by
  have fresh (kind : ResetKind) (k : Constants) (r : Option SevereFault) (pins : Pins) (s : State) :
      (resetTo kind k r pins s).gatesOk := fun c => by
    rw [gateValue_off (fun c => resetTo_state _ _ _ _ _ c), State.eng, resetTo_engine]
    rfl
  cases i with
  | periodStart order later =>
    refine fun s hop h => ⟨phaseOk_own (.periodStart order later) s hop h.1,
      keptMoves_gates.kept.periodStart (fun _ _ h => h) order later (fun u hu h => ?_) hop h.2⟩
    exact gatesOk_of_gates (s := u) rfl (fun c => by simp [advance]) (fun c => by simp [advance]) rfl h
  | writeConstant p =>
    intro s k hp hc h
    have hoff : ∀ c, (vget s.engines c).state = .off := fun c => ((h.1.2 hc).1 c).1
    refine ⟨phaseOk_own (.writeConstant p) s k hp hc h.1, fun c => ?_⟩
    rw [gateValue_off (s := { s with consts := k }) hoff]
    exact (h.2 c).trans (gateValue_off hoff c)
  | freeze p =>
    intro s hp hx hf h
    refine ⟨phaseOk_own (.freeze p) s hp hx hf h.1,
      gatesOk_of_gates (freezePart_consts s) (freezePart_state s) (fun c => ?_) ?_ h.2⟩
    · rw [freezePart_engine]
    · rw [freezePart_link, deliverLevels_link]
      rfl
  | claim p =>
    intro s l hr hrank hh hw h
    obtain ⟨hgrant, hwait⟩ := phaseOk_own (.claim p) s l hr hrank hh hw h.1
    exact ⟨⟨hgrant, keptMoves_gates.changeHolder l _ h.2⟩, fun old ho => ⟨hwait old ho, h.2⟩⟩
  | engage p =>
    exact fun s l hr hh hf h => ⟨phaseOk_own (.engage p) s l hr hh hf h.1,
      keptMoves_gates.toReleasing l (fun u timer hu => moveGroup_gatesOk l _ timer u hu) h.2⟩
  | demand p => exact fun s l es hr hh hd h => ⟨phaseOk_own (.demand p) s l es hr hh hd h.1, h.2⟩
  | propose p => exact fun s l f w hr hp hf h => ⟨phaseOk_own (.propose p) s l f w hr hp hf h.1, h.2⟩
  | confirm p => exact fun s l x _ _ h => h
  | safeRelease p => exact fun s _ _ h => h
  | powerOn pins => exact fun s h => ⟨phaseOk_own (.powerOn pins) s h.1, fresh _ _ _ _ _⟩
  | line pins => exact fun s h => ⟨phaseOk_own (.line pins) s h.1, fresh _ _ _ _ _⟩
  | commanded pins => exact fun s h => ⟨phaseOk_own (.commanded pins) s h.1, fresh _ _ _ _ _⟩
  | _ => trivial

theorem kept_phase_gates :
    Kept (fun s => s.phaseOk ∧ s.gatesOk) (fun x => x = .operating ∧ True) (fun _ => True ∧ True) :=
  kept_phase.and keptMoves_gates.kept

/-- Settles O50: each move and each change of link state makes the gates of its channels follow in the same action; in
CONFIG, where the constants are written, no channel drives. -/
theorem stepsKeepTheGates : Obligations.StepsKeepTheGates := fun _ _ hx hg hs =>
  (step_kept kept_phase_gates (fun _ _ h => h) (fun i _ _ => gatesOk_own i) ⟨hx, hg⟩ hs).2

end Sys2Proof.Machine


namespace Sys2Proof.Machine

/-! ### Fields of an engine that no move writes -/

theorem gateSync_field {α : Type} (f : Engine → α) (hf : ∀ e on, f (Engine.gated e on) = f e) (c d : Chan) (s : State) :
    f (vget (gateSync c s).engines d) = f (vget s.engines d) := by
  rw [gateSync_eq (l := s.consts.lead c) rfl rfl, vget_vset]
  split
  · next h => rw [hf, State.eng, h]
  · rfl

theorem gateSyncs_field {α : Type} (f : Engine → α) (hf : ∀ e on, f (Engine.gated e on) = f e) (d : Chan) (l : List Chan)
    (s : State) : f (vget (gateSyncs l s).engines d) = f (vget s.engines d) :=
  gateSyncs_induct (fun u => f (vget u.engines d) = f (vget s.engines d))
    (fun c _ h => (gateSync_field f hf c d _).trans h) l s rfl

theorem moveGroup_field {α : Type} (f : Engine → α) (hf : ∀ e on, f (Engine.gated e on) = f e)
    (hmove : ∀ (e : Engine) (x : ChState) (timer : Option Nat), f { e with state := x, timer := timer, holdFault := false } = f e)
    (l : Chan) (new : ChState) (timer : Option Nat) (s : State) (c : Chan) :
    f (vget (moveGroup l new timer s).engines c) = f (vget s.engines c) := by
  rw [moveGroup_engines, gateSyncs_field f hf, vget_vset]
  split
  · next h => rw [hmove, State.eng, h]
  · rfl

/-! ### The demand a channel holds (01, R8, R12) -/

/-- The states whose active demand carries the id target. -/
def ChState.carriesTarget (x : ChState) : Bool :=
  match x with
  | .off | .releasing | .run | .holding => true
  | .ramping | .stopping | .tripped => false

/-- The active demand of an engine carries the id target. -/
def Engine.onTarget (e : Engine) : Prop := e.active.id = e.idTarget

theorem demandsOk_iff {s : State} :
    s.demandsOk ↔ ∀ c, (vget s.engines c).state.carriesTarget = true → (vget s.engines c).onTarget := by
  refine forall_congr' fun c => ?_
  unfold State.eng Engine.onTarget
  cases (vget s.engines c).state <;> simp [ChState.carriesTarget]

theorem moveGroup_onTarget (l : Chan) (new : ChState) (timer : Option Nat) (s : State) (c : Chan) :
    (vget (moveGroup l new timer s).engines c).onTarget ↔ (vget s.engines c).onTarget := by
  refine Iff.of_eq (moveGroup_field Engine.onTarget (fun e on => ?_) (fun _ _ _ => rfl) l new timer s c)
  unfold Engine.gated
  split <;> rfl

/-- A move keeps the demands where the state it enters needs the target only if the channel is on target. -/
theorem moveGroup_demandsOk (l : Chan) {new : ChState} (timer : Option Nat) {s : State}
    (hl : new.carriesTarget = true → (s.eng l).onTarget) (h : s.demandsOk) : (moveGroup l new timer s).demandsOk := by
  rw [demandsOk_iff] at h ⊢
  intro c hc
  rw [moveGroup_onTarget]
  rw [moveGroup_state] at hc
  split at hc
  · next hlc => exact hlc ▸ hl hc
  · exact h c hc

theorem demandsOk_of_engines {s t : State} (hf : ∀ c, (vget t.engines c).follows (vget s.engines c)) (h : s.demandsOk) :
    t.demandsOk := by
  rw [demandsOk_iff] at h ⊢
  intro c hc
  obtain ⟨hst, -, hdemand⟩ := hf c
  rw [hst] at hc
  unfold Engine.onTarget
  rcases hdemand with ⟨ha, hi⟩ | hon | hr | hr
  · rw [ha, hi]
    exact h c hc
  · exact hon
  · rw [hr] at hc
    cases hc
  · rw [hr] at hc
    cases hc

theorem demandsOk_same {s t : State} (he : t.engines = s.engines) (h : s.demandsOk) : t.demandsOk :=
  demandsOk_of_engines (fun c => by rw [he]; exact Engine.follows_rfl _) h

theorem toOff_demandsOk (l : Chan) {s : State} (h : s.demandsOk) : (toOff l s).demandsOk := by
  refine moveGroup_demandsOk l none (fun _ => by rw [State.eng, vget_vset_self]; rfl) ?_
  refine demandsOk_of_engines (s := s) (rel_vset Engine.follows_rfl _ _ ⟨rfl, rfl, .inr (.inl rfl)⟩) h

theorem toHolding_demandsOk {l : Chan} {s : State} (hs : (s.eng l).state.carriesTarget = true) (h : s.demandsOk) :
    (toHolding l s).demandsOk :=
  moveGroup_demandsOk l _ (fun _ => demandsOk_iff.mp h l hs) (demandsOk_same (by simp) h)

theorem recordStart_demandsOk (l : Chan) (n : Nat) {s : State} (h : s.demandsOk) : (recordStart l n s).demandsOk :=
  demandsOk_of_engines (s := s) (rel_vset Engine.follows_rfl _ _ ⟨rfl, rfl, .inl ⟨rfl, rfl⟩⟩) h

theorem toStopping_demandsOk (l : Chan) {s : State} (h : s.demandsOk) : (toStopping l s).demandsOk :=
  moveGroup_demandsOk l _ (fun hc => by cases hc) (demandsOk_same (flushQueue_engines _ _) (recordStart_demandsOk l _ h))

theorem fillTrips_demandsOk (r : TripRecord) : ∀ (g : List Chan) {s : State}, s.demandsOk → (fillTrips r g s).demandsOk
  | [], _, h => h
  | _ :: rest, s, h => fillTrips_demandsOk r rest
      (demandsOk_of_engines (s := s) (rel_vset Engine.follows_rfl _ _ ⟨rfl, rfl, .inl ⟨rfl, rfl⟩⟩) h)

theorem toTripped_demandsOk (l : Chan) (k : FaultKind) (d : Nat) {s : State} (h : s.demandsOk) :
    (toTripped l k d s).demandsOk :=
  moveGroup_demandsOk l _ (fun hc => by cases hc) (demandsOk_same (flushQueue_engines _ _) (fillTrips_demandsOk _ _ h))

theorem running_carriesTarget {x : ChState} (h : x.running = true) : x.carriesTarget = true := by
  cases x <;> first | rfl | cases h

theorem changeHolder_demandsOk (l : Chan) (new : Option Port) {s : State} (h : s.demandsOk) :
    (changeHolder l new s).demandsOk := by
  unfold changeHolder
  dsimp only
  split
  · next hc =>
    rw [Bool.and_eq_true] at hc
    exact toHolding_demandsOk (running_carriesTarget hc.2) (demandsOk_same (s := s) rfl h)
  · exact demandsOk_same (s := s) rfl h

theorem installHead_demandsOk (l : Chan) {s : State} (h : s.demandsOk) : (installHead l s).demandsOk := by
  rw [installHead_eq]
  exact changeHolder_demandsOk l _ (demandsOk_same (s := s) rfl h)

theorem enterLink_demandsOk (x : LinkState) {s : State} (h : s.demandsOk) : (enterLink x s).demandsOk := by
  rw [demandsOk_iff] at h ⊢
  intro c hc
  rw [enterLink_state] at hc
  refine (Iff.of_eq (gateSyncs_field Engine.onTarget (fun e on => ?_) c allChans _)).mpr (h c hc)
  unfold Engine.gated
  split <;> rfl

theorem assertStops_demandsOk {s : State} (h : s.demandsOk) : (assertStops allChans (setLatch true s)).demandsOk := by
  refine assertStops_induct State.demandsOk (fun l u hu _ => ?_) _ _ (demandsOk_same (by simp) h)
  unfold assertStopOn
  split
  case h_5 | h_6 | h_7 => exact hu
  all_goals
    split
    · exact toOff_demandsOk l hu
    · exact toStopping_demandsOk l hu

theorem kept_demands : Kept State.demandsOk (fun _ => True) (fun _ => True) where
  live _ _ := trivial
  reports _ := trivial
  counts _ _ := trivial
  free _ _ _ _ _ h := h
  ports _ _ h := h
  line _ _ _ _ h := h
  queues _ _ h := h
  engines := by
    intro s v hv h
    exact demandsOk_of_engines (s := s) hv h
  envs _ _ h := h
  auth _ _ h := h
  link _ _ h := h
  react _ _ h := h
  budget b h := demandsOk_same (by simp) h
  request c r _ h := demandsOk_same (by simp) h
  toOff l h := toOff_demandsOk l h
  toRun l hs h := moveGroup_demandsOk l none (fun _ => demandsOk_iff.mp h l (by rw [← State.eng, hs]; rfl)) h
  toHolding l hs h := toHolding_demandsOk (hs.elim running_carriesTarget fun hs => by rw [hs]; rfl) h
  toRamping l _ h := moveGroup_demandsOk l _ (fun hc => by cases hc) (recordStart_demandsOk l _ h)
  toTripped l k d _ h := toTripped_demandsOk l k d h
  installHead l h := installHead_demandsOk l h
  enterLink x _ _ h := enterLink_demandsOk x h
  drain := by
    intro s k _ h
    split
    · exact tripDriving_induct State.demandsOk k (fun l u hu _ _ => toTripped_demandsOk l k _ hu) _ _ (enterLink_demandsOk _ h)
    · exact enterLink_demandsOk _ h
  stops _ h := assertStops_demandsOk h
  pend _ _ _ _ _ _ h := h
  drop _ _ h := h
  serve _ _ _ _ _ _ h := h
  endLink _ _ h := h
  endStop := by
    intro s e _ h
    exact demandsOk_same (by simp) h
  holdRepeat _ h := h

theorem clearIntegrators_onTarget (c : Chan) : ∀ (g : List Chan) (s : State),
    (vget (clearIntegrators g s).engines c).onTarget ↔ (vget s.engines c).onTarget
  | [], _ => Iff.rfl
  | d :: rest, s => by
    rw [clearIntegrators, clearIntegrators_onTarget c rest, vget_vset]
    split
    · next h => rw [← h]; rfl
    · rfl

theorem clearIntegrators_demandsOk : ∀ (g : List Chan) {s : State}, s.demandsOk → (clearIntegrators g s).demandsOk
  | [], _, h => h
  | _ :: rest, s, h => clearIntegrators_demandsOk rest
      (demandsOk_of_engines (s := s) (rel_vset Engine.follows_rfl _ _ ⟨rfl, rfl, .inl ⟨rfl, rfl⟩⟩) h)

/-- ENGAGE's checks pass in OFF, with the link READY and the latch clear. -/
theorem engageFault_eq_none {s : State} {l : Chan} (h : s.engageFault l = none) :
    s.link.state = .ready ∧ s.react.latch = false ∧ (s.eng l).state = .off := by
  unfold State.engageFault at h
  split at h
  · cases h
  split at h
  · cases h
  next hl =>
  split at h
  · cases h
  next hlatch =>
  split at h
  · cases h
  next hoff =>
  refine ⟨?_, by simpa using hlatch, by simpa using hoff⟩
  revert hl
  cases s.link.state <;> simp [LinkState.engageStatus]

theorem demandsOk_own (i : Instr) : OwnKept State.demandsOk i := by
  have fresh (kind : ResetKind) (k : Constants) (r : Option SevereFault) (pins : Pins) (s : State) :
      (resetTo kind k r pins s).demandsOk := fun c _ => by
    rw [State.eng, resetTo_engine]
    rfl
  cases i with
  | periodStart order later =>
    refine fun s hop h => kept_demands.periodStart (fun _ _ h => h) order later (fun u hu h => ?_) hop h
    exact demandsOk_of_engines (s := u) (fun c => by simp only [advance, vget_vmap_chans]; exact ⟨rfl, rfl, .inl ⟨rfl, rfl⟩⟩) h
  | writeConstant p => exact fun s k _ _ h => h
  | freeze p =>
    refine fun s _ _ _ h => demandsOk_of_engines (fun c => ?_) h
    rw [freezePart_engine]
    exact ⟨rfl, rfl, .inl ⟨rfl, rfl⟩⟩
  | claim p => exact fun s l _ _ _ _ h => ⟨changeHolder_demandsOk l _ h, fun old _ => h⟩
  | engage p =>
    intro s l _ _ hf h
    refine moveGroup_demandsOk l _ (fun _ => ?_) (demandsOk_same (s := clearIntegrators (s.group l) s) rfl (clearIntegrators_demandsOk _ h))
    exact (clearIntegrators_onTarget l _ s).mpr (demandsOk_iff.mp h l (by rw [← State.eng, (engageFault_eq_none hf).2.2]; rfl))
  | demand p => exact fun s l es _ _ _ h => h
  | propose p => exact fun s l f w _ _ _ h => h
  | confirm p => exact fun s l x _ _ h => h
  | safeRelease p => exact fun s _ _ h => h
  | powerOn pins | line pins | commanded pins => exact fun s _ => fresh _ _ _ _ _
  | _ => trivial

theorem step_demandsOk {s t : State} (h : s.demandsOk) (hs : step s = .next t) : t.demandsOk :=
  step_kept kept_demands (fun _ _ h => h) (fun i _ _ => demandsOk_own i) h hs

end Sys2Proof.Machine


namespace Sys2Proof.Machine

/-! ### What drives is safe (01, R18; 02, R36; 05, R95; 07, R140) -/

/-- From one state to another without entering the driving states: the channel stays, stops driving, or goes on among the
states that a safe-stop assertion ends, none of them running unless it ran. -/
def ChState.drivesOn (a b : ChState) : Prop :=
  b = a ∨ b.driving = false ∨ (a.stoppable = true ∧ (b.running = true → a.running = true))

theorem ChState.driving_of_stoppable {x : ChState} (h : x.stoppable = true) : x.driving = true := by
  cases x <;> first | rfl | cases h

theorem ChState.driving_of_running {x : ChState} (h : x.running = true) : x.driving = true := by
  cases x <;> first | rfl | cases h

/-- Such moves, with holders that stay where a channel runs, keep what drives safe. -/
theorem drivingOk_of_moves {s t : State} (hk : t.consts = s.consts) (hl : t.link.state = s.link.state)
    (hlatch : t.react.latch = true → s.react.latch = true)
    (hm : ∀ c, (vget s.engines c).state.drivesOn (vget t.engines c).state)
    (hh : ∀ c, (vget t.engines c).state.running = true → (vget s.auth c).holder ≠ none → (vget t.auth c).holder ≠ none)
    (h : s.drivingOk) : t.drivingOk := by
  have served (c : Chan) : t.served c = s.served c := by rw [State.served, State.served, State.present, State.present, hk]
  intro c
  obtain ⟨hdrive, hrun, hstop⟩ := h c
  unfold State.eng State.auRec at *
  rw [served, hl]
  rcases hm c with he | hno | ⟨hs, hr⟩
  · rw [he]
    exact ⟨hdrive, fun hr => hh c (he ▸ hr) (hrun hr), fun hla => hstop (hlatch hla)⟩
  · refine ⟨fun hd => ?_, fun hr => ?_, fun _ => ?_⟩
    · rw [hno] at hd
      cases hd
    · rw [ChState.driving_of_running hr] at hno
      cases hno
    · refine Classical.byContradiction fun hst => ?_
      rw [ChState.driving_of_stoppable (by simpa using hst)] at hno
      cases hno
  · refine ⟨fun _ => hdrive (ChState.driving_of_stoppable hs), fun hrt => hh c hrt (hrun (hr hrt)), fun hla => ?_⟩
    rw [hstop (hlatch hla)] at hs
    cases hs

/-- Nothing drives. -/
def State.noneDrives (s : State) : Prop := ∀ c, (vget s.engines c).state.driving = false

theorem drivingOk_of_noneDrives {s : State} (h : s.noneDrives) : s.drivingOk := by
  intro c
  have still : ¬ (s.eng c).state.driving = true := by
    rw [State.eng, h c]
    exact Bool.false_ne_true
  exact ⟨fun hd => absurd hd still, fun hr => absurd (ChState.driving_of_running hr) still,
    fun _ => Bool.eq_false_iff.mpr fun hs => still (ChState.driving_of_stoppable hs)⟩

theorem moveGroup_drivingOk (l : Chan) {new : ChState} (timer : Option Nat) {s : State}
    (hm : (s.eng l).state.drivesOn new) (h : s.drivingOk) : (moveGroup l new timer s).drivingOk := by
  refine drivingOk_of_moves (by simp) (by simp) (by simp) (fun c => ?_) (fun c _ hh => ?_) h
  · rw [moveGroup_state]
    split
    · next hc => exact hc ▸ hm
    · exact .inl rfl
  · rwa [(moveGroup_records l new timer s c).1]

/-- The same channels are in the same states under the same holders. -/
theorem drivingOk_same {s t : State} (hk : t.consts = s.consts) (hl : t.link.state = s.link.state)
    (hlatch : t.react.latch = s.react.latch) (he : ∀ c, (vget t.engines c).state = (vget s.engines c).state)
    (hh : ∀ c, (vget t.auth c).holder = (vget s.auth c).holder) (h : s.drivingOk) : t.drivingOk :=
  drivingOk_of_moves hk hl (by rw [hlatch]; exact id) (fun c => .inl (he c)) (fun c _ hs => by rwa [hh]) h

theorem toOff_drivingOk (l : Chan) {s : State} (h : s.drivingOk) : (toOff l s).drivingOk := by
  refine moveGroup_drivingOk l none (.inr (.inl rfl)) (drivingOk_same (s := s) rfl rfl rfl (fun c => ?_) (fun _ => rfl) h)
  simp only [vget_vset]
  split
  · next hc => rw [← hc, State.eng]
  · rfl

theorem flushQueue_drivingOk (l : Chan) {s : State} (h : s.drivingOk) : (flushQueue l s).drivingOk :=
  drivingOk_same (s := s) rfl rfl rfl (fun _ => rfl) (fun _ => rfl) h

theorem toHolding_drivingOk {l : Chan} {s : State} (hs : (s.eng l).state.running = true ∨ (s.eng l).state = .holding)
    (h : s.drivingOk) : (toHolding l s).drivingOk := by
  refine moveGroup_drivingOk l _ ?_ (flushQueue_drivingOk l h)
  rw [State.eng, flushQueue_engines, ← State.eng]
  rcases hs with hs | hs
  · exact .inr (.inr ⟨by revert hs; cases (s.eng l).state <;> simp [ChState.running, ChState.stoppable], fun hr => by cases hr⟩)
  · exact .inl hs.symm

theorem recordStart_drivingOk (l : Chan) (n : Nat) {s : State} (h : s.drivingOk) : (recordStart l n s).drivingOk :=
  drivingOk_same (s := s) rfl rfl rfl (recordStart_state l s · n) (fun _ => rfl) h

theorem toRamping_drivingOk {l : Chan} {s : State} (hs : (s.eng l).state = .holding) (h : s.drivingOk) :
    (toRamping l s).drivingOk := by
  refine moveGroup_drivingOk l _ (.inr (.inr ?_)) (recordStart_drivingOk l _ h)
  rw [State.eng, recordStart_state, ← State.eng, hs]
  exact ⟨rfl, fun hr => by cases hr⟩

theorem fillTrips_drivingOk (r : TripRecord) (g : List Chan) {s : State} (h : s.drivingOk) : (fillTrips r g s).drivingOk :=
  drivingOk_same (by simp) (by simp) (by simp) (fillTrips_state · r g s) (fun _ => by simp) h

theorem toTripped_drivingOk (l : Chan) (k : FaultKind) (d : Nat) {s : State} (h : s.drivingOk) :
    (toTripped l k d s).drivingOk :=
  moveGroup_drivingOk l _ (.inr (.inl rfl)) (flushQueue_drivingOk l (fillTrips_drivingOk _ _ h))

theorem installHead_drivingOk (l : Chan) {s : State} (h : s.drivingOk) : (installHead l s).drivingOk := by
  refine drivingOk_of_moves (by simp) (by simp) (by simp) (fun c => ?_) (fun c hrun hh => ?_) h
  · rw [installHead_state]
    split
    · next hc =>
      obtain ⟨rfl, -, hr⟩ := hc
      exact .inr (.inr ⟨by revert hr; rw [State.eng]; cases (vget s.engines l).state <;> simp [ChState.running, ChState.stoppable],
        fun hr => by cases hr⟩)
    · exact .inl rfl
  · rw [installHead_auth]
    rw [installHead_state] at hrun
    split
    · next hc =>
      subst hc
      cases hw : (s.auRec l).waiting with
      | nil =>
        rw [hw] at hrun
        split at hrun
        · cases hrun
        · next hno => exact absurd ⟨rfl, rfl, hrun⟩ hno
      | cons x rest => exact Option.some_ne_none _
    · exact hh

/-! ### Changes of link state (05, R95) -/

/-- With the link out of READY, or every present channel idle, nothing drives. -/
theorem noneDrives_of_link {s : State} (h : s.drivingOk) (hl : s.link.state ≠ .ready ∨ s.allIdle = true) : s.noneDrives := by
  intro c
  refine Classical.byContradiction fun hd => ?_
  rw [Bool.not_eq_false] at hd
  obtain ⟨hserved, hready⟩ := (h c).1 hd
  rcases hl with hl | hl
  · exact hl hready
  · rw [State.served, Bool.and_eq_true, Bool.not_eq_true'] at hserved
    unfold State.allIdle at hl
    rw [List.all_eq_true] at hl
    have hidle := hl c (mem_allChans c)
    rw [hserved.1, State.chState, State.lead, Constants.lead, if_neg (by rw [hserved.2]; exact Bool.false_ne_true),
      State.eng, hd] at hidle
    cases hidle

theorem enterLink_noneDrives (x : LinkState) {s : State} (h : s.noneDrives) : (enterLink x s).noneDrives := fun c => by
  rw [enterLink_state]
  exact h c

/-- After the trips of a link fault nothing drives: each driving channel is served, and is tripped in its turn. -/
theorem tripDriving_noneDrives (k : FaultKind) : ∀ (l : List Chan) (s : State),
    (∀ c, (vget s.engines c).state.driving = true → s.served c = true ∧ c ∈ l) → (tripDriving k l s).noneDrives
  | [], s, h => fun c => Bool.eq_false_iff.mpr fun hd => List.not_mem_nil (h c hd).2
  | d :: rest, s, h => by
    refine tripDriving_noneDrives k rest _ fun c hd => ?_
    split at hd
    · next hs =>
      rw [toTripped_state] at hd
      split at hd
      · cases hd
      · next hne =>
        obtain ⟨hserved, hmem⟩ := h c hd
        rw [if_pos hs]
        refine ⟨?_, (List.mem_cons.mp hmem).resolve_left (Ne.symm hne)⟩
        rwa [State.served, State.present, toTripped_consts]
    · next hs =>
      obtain ⟨hserved, hmem⟩ := h c hd
      rw [if_neg hs]
      refine ⟨hserved, (List.mem_cons.mp hmem).resolve_left fun hc => hs ?_⟩
      rw [Bool.and_eq_true, ← hc]
      exact ⟨hserved, hd⟩

theorem drain_drivingOk (k : FaultKind) {s : State} (h : s.drivingOk) :
    (if s.link.state = .ready then tripDriving k allChans (enterLink .draining s) else enterLink .draining s).drivingOk := by
  split
  · refine drivingOk_of_noneDrives (tripDriving_noneDrives k _ _ fun c hd => ?_)
    rw [enterLink_state] at hd
    refine ⟨?_, mem_allChans c⟩
    rw [State.served, State.present, enterLink_consts]
    exact ((h c).1 hd).1
  · next hl => exact drivingOk_of_noneDrives (enterLink_noneDrives _ (noneDrives_of_link h (.inl hl)))

/-! ### The assertion of a safe stop (07, R140, R141) -/

theorem assertStopOn_state (l : Chan) (s : State) (c : Chan) :
    (vget (assertStopOn l s).engines c).state = (vget s.engines c).state ∨
      ((vget s.engines c).state.stoppable = true ∧ ((vget (assertStopOn l s).engines c).state = .off ∨
        (vget (assertStopOn l s).engines c).state = .stopping)) := by
  have ended (hs : (s.eng l).state.stoppable = true) (u : State)
      (hu : u = match s.consts.category with | .immediate => toOff l s | .ramped => toStopping l s) :
      (vget u.engines c).state = (vget s.engines c).state ∨ ((vget s.engines c).state.stoppable = true ∧
        ((vget u.engines c).state = .off ∨ (vget u.engines c).state = .stopping)) := by
    subst hu
    by_cases hc : l = c
    · subst hc
      refine .inr ⟨hs, ?_⟩
      split
      · exact .inl (by rw [toOff_state, if_pos rfl])
      · exact .inr (by rw [toStopping_state, if_pos rfl])
    · refine .inl ?_
      split
      · rw [toOff_state, if_neg hc]
      · rw [toStopping_state, if_neg hc]
  unfold assertStopOn
  split
  case h_5 | h_6 | h_7 => exact .inl rfl
  all_goals
    next hs => exact ended (by rw [hs]) _ rfl

/-- The asserted channel is in none of the states that the assertion ends. -/
theorem assertStopOn_self (l : Chan) (s : State) : (vget (assertStopOn l s).engines l).state.stoppable = false := by
  have ended : (vget (match s.consts.category with | .immediate => toOff l s | .ramped => toStopping l s).engines l).state.stoppable
      = false := by
    split
    · rw [toOff_state, if_pos rfl]
    · rw [toStopping_state, if_pos rfl]
  unfold assertStopOn
  split
  case h_5 hs | h_6 hs | h_7 hs => rw [← State.eng, hs]
  all_goals exact ended

/-- After the assertion no channel is in RELEASING, RUN, HOLDING or RAMPING, and what drives is served under a READY link. -/
theorem assertStops_stopped : ∀ (l : List Chan) (s : State),
    (∀ c, ((vget s.engines c).state.driving = true → s.served c = true ∧ s.link.state = .ready) ∧
      ((vget s.engines c).state.stoppable = true → c ∈ l)) →
    ∀ c, ((vget (assertStops l s).engines c).state.driving = true → s.served c = true ∧ s.link.state = .ready) ∧
      (vget (assertStops l s).engines c).state.stoppable = false
  | [], s, h => fun c => ⟨(h c).1, Bool.eq_false_iff.mpr fun hs => List.not_mem_nil ((h c).2 hs)⟩
  | d :: rest, s, h => by
    have later := assertStops_stopped rest (if s.served d then assertStopOn d s else s) fun c => ?_
    · intro c
      have hc := later c
      split at hc
      · rw [State.served, State.present, assertStopOn_consts, assertStopOn_link] at hc
        rw [assertStops]
        split
        · exact hc
        · contradiction
      · rw [assertStops]
        split
        · contradiction
        · exact hc
    · split
      · next hs =>
        rw [State.served, State.present, assertStopOn_consts, assertStopOn_link]
        rcases assertStopOn_state d s c with he | ⟨hst, hoff⟩
        · rw [he]
          refine ⟨(h c).1, fun hst => (List.mem_cons.mp ((h c).2 hst)).resolve_left fun hc => ?_⟩
          subst hc
          rw [← he, assertStopOn_self] at hst
          cases hst
        · refine ⟨fun _ => (h c).1 (ChState.driving_of_stoppable hst), fun hno => ?_⟩
          rcases hoff with hoff | hoff <;> rw [hoff] at hno <;> cases hno
      · next hs =>
        refine ⟨(h c).1, fun hst => (List.mem_cons.mp ((h c).2 hst)).resolve_left fun hc => hs ?_⟩
        exact hc ▸ ((h c).1 (ChState.driving_of_stoppable hst)).1

theorem ChState.stoppable_of_running {x : ChState} (h : x.running = true) : x.stoppable = true := by
  cases x <;> first | rfl | cases h

theorem stops_drivingOk {s : State} (h : s.drivingOk) : (assertStops allChans (setLatch true s)).drivingOk := by
  have before (d : Chan) : ((vget (setLatch true s).engines d).state.driving = true →
      (setLatch true s).served d = true ∧ (setLatch true s).link.state = .ready) ∧
      ((vget (setLatch true s).engines d).state.stoppable = true → d ∈ allChans) := by
    rw [State.served, State.present, setLatch_consts, setLatch_link, setLatch_engines]
    exact ⟨(h d).1, fun _ => mem_allChans d⟩
  have after := assertStops_stopped allChans (setLatch true s) before
  generalize ht : assertStops allChans (setLatch true s) = t at after
  have hk : t.consts = s.consts := by rw [← ht, assertStops_consts, setLatch_consts]
  have hl : t.link.state = s.link.state := by rw [← ht, assertStops_link, setLatch_link]
  intro c
  obtain ⟨hdrive, hstop⟩ := after c
  refine ⟨fun hd => ?_, fun hr => ?_, fun _ => hstop⟩
  · rw [State.served, State.present, hk, hl]
    exact hdrive hd
  · rw [State.eng] at hr
    rw [ChState.stoppable_of_running hr] at hstop
    cases hstop

theorem kept_driving : Kept State.drivingOk (fun _ => True) (fun _ => True) where
  live _ _ := trivial
  reports _ := trivial
  counts _ _ := trivial
  free _ _ _ _ _ h := h
  ports _ _ h := h
  line _ _ _ _ h := h
  queues _ _ h := h
  engines := by
    intro s v hv h
    exact drivingOk_same (s := s) rfl rfl rfl (fun c => (hv c).1) (fun _ => rfl) h
  envs _ _ h := h
  auth := by
    intro s v hv h
    exact drivingOk_same (s := s) rfl rfl rfl (fun _ => rfl) (fun c => (hv c).1) h
  link := by
    intro s b hb h
    exact drivingOk_same (s := s) rfl hb rfl (fun _ => rfl) (fun _ => rfl) h
  react := by
    intro s r hr h
    exact drivingOk_same (s := s) rfl rfl hr.2.2.2.1 (fun _ => rfl) (fun _ => rfl) h
  budget b h := drivingOk_same (by simp) (by simp) (by simp) (by simp) (by simp) h
  request c r _ h := drivingOk_same (by simp) (by simp) (by simp) (by simp) (by simp) h
  toOff l h := toOff_drivingOk l h
  toRun l hs h := moveGroup_drivingOk l none (.inr (.inr (by rw [hs]; exact ⟨rfl, fun _ => rfl⟩))) h
  toHolding l hs h := toHolding_drivingOk hs h
  toRamping l hs h := toRamping_drivingOk hs h
  toTripped l k d _ h := toTripped_drivingOk l k d h
  installHead l h := installHead_drivingOk l h
  enterLink x _ hl h := drivingOk_of_noneDrives (enterLink_noneDrives x (noneDrives_of_link h hl))
  drain k _ h := drain_drivingOk k h
  stops _ h := stops_drivingOk h
  pend _ _ _ _ _ _ h := h
  drop _ _ h := h
  serve _ _ _ _ _ _ h := h
  endLink _ _ h := h
  endStop := by
    intro s e _ h
    refine drivingOk_same (by simp) (by simp) ?_ (by simp) (by simp) h
    unfold endSafeStop releaseHeld
    split <;> rfl
  holdRepeat _ h := h

/-- What a port's route leads to is present once FREEZE's checks have passed (11, Table 11-2, check 5). -/
theorem present_of_lookup {k : Constants} {tag : Nat} {p : Port} {l : Chan} (hf : k.freezeFault = none)
    (h : k.lookup tag p = some l) : vget k.present l = true := by
  have hroute := (routeClash_eq_none k).mp ((freezeFault_eq_none k).mp hf).2.2.2.2.1
  unfold Constants.lookup at h
  obtain ⟨r, hr, rfl⟩ := Option.map_eq_some_iff.mp h
  have hvalid : r.valid = true := by
    have := List.find?_some hr
    simp only [Bool.and_eq_true] at this
    exact this.1.1
  exact (forall_mem_toList (p := fun r => r.valid = true → vget k.present r.chan = true) k.routes).mpr hroute r
    (List.mem_of_find?_eq_some hr) hvalid

theorem served_of_routesTo {s : State} {p : Port} {l : Chan} (hx : s.phaseOk) (hr : s.routesTo p l) : s.served l = true := by
  obtain ⟨hop, ⟨tag, hlook⟩, hlead⟩ := hr
  rw [State.served, State.present, present_of_lookup (hx.1 hop) hlook, hlead]
  rfl

theorem clearIntegrators_holder (g : List Chan) (s : State) (c : Chan) :
    (vget (clearIntegrators g s).auth c).holder = (vget s.auth c).holder := by simp

/-- ENGAGE makes a served channel with a holder drive, under a READY link with the latch clear. -/
theorem toReleasing_drivingOk {l : Chan} {s : State} (hserved : s.served l = true) (hh : (s.auRec l).holder ≠ none)
    (hf : s.engageFault l = none) (h : s.drivingOk) : (toReleasing l s).drivingOk := by
  obtain ⟨hready, hlatch, -⟩ := engageFault_eq_none hf
  have holder (c : Chan) : (vget (toReleasing l s).auth c).holder = (vget s.auth c).holder := by
    unfold toReleasing
    dsimp only
    rw [(moveGroup_records l _ _ _ c).1]
    simp
  intro c
  obtain ⟨hdrive, hrun, -⟩ := h c
  rw [State.eng, toReleasing_state, State.auRec, holder, State.served, State.present, toReleasing_consts, toReleasing_link,
    toReleasing_react]
  split
  · next hc =>
    subst hc
    exact ⟨fun _ => ⟨hserved, hready⟩, fun _ => hh, fun hla => by rw [hlatch] at hla; cases hla⟩
  · exact ⟨hdrive, hrun, fun hla => by rw [hlatch] at hla; cases hla⟩

theorem drivingOk_own (i : Instr) : OwnKept (fun s => s.phaseOk ∧ s.drivingOk) i := by
  have idle {s t : State} (hs : ∀ c, (vget s.engines c).state = .off)
      (he : ∀ c, (vget t.engines c).state = (vget s.engines c).state) : t.drivingOk :=
    drivingOk_of_noneDrives fun c => by rw [he, hs]; rfl
  have off {s : State} (h : s.phaseOk) (hc : s.phase = .config) (c : Chan) : (vget s.engines c).state = .off := ((h.2 hc).1 c).1
  have fresh (kind : ResetKind) (k : Constants) (r : Option SevereFault) (pins : Pins) (s : State) :
      (resetTo kind k r pins s).drivingOk := drivingOk_of_noneDrives fun c => by rw [resetTo_state]; rfl
  cases i with
  | periodStart order later =>
    refine fun s hop h => ⟨phaseOk_own (.periodStart order later) s hop h.1,
      kept_driving.periodStart (fun _ _ h => h) order later (fun u hu h => ?_) hop h.2⟩
    exact drivingOk_same (s := u) rfl rfl rfl (fun c => by simp [advance]) (fun c => by simp [advance, AuthRecord.tick]) h
  | writeConstant p => exact fun s k hp hc h => ⟨phaseOk_own (.writeConstant p) s k hp hc h.1, idle (off h.1 hc) fun _ => rfl⟩
  | freeze p => exact fun s hp hx hf h => ⟨phaseOk_own (.freeze p) s hp hx hf h.1, idle (off h.1 hx) (freezePart_state s)⟩
  | claim p =>
    intro s l hr hrank hh hw h
    obtain ⟨hgrant, hwait⟩ := phaseOk_own (.claim p) s l hr hrank hh hw h.1
    refine ⟨⟨hgrant, ?_⟩, fun old ho => ⟨hwait old ho, ?_⟩⟩
    · refine drivingOk_of_moves (by simp) (by simp) (by simp) (fun c => ?_) (fun c _ hs => ?_) h.2
      · rw [changeHolder_state, if_neg (fun hc => by cases hc.2.1)]
        exact .inl rfl
      · rw [changeHolder_auth]
        split
        · exact Option.some_ne_none _
        · exact hs
    · refine drivingOk_same (s := s) rfl rfl rfl (fun _ => rfl) (fun c => ?_) h.2
      simp only [queueClaim, vget_vset]
      split
      · next hc => rw [← hc, State.auRec]
      · rfl
  | engage p =>
    exact fun s l hr hh hf h => ⟨phaseOk_own (.engage p) s l hr hh hf h.1,
      toReleasing_drivingOk (served_of_routesTo h.1 hr) (by rw [hh]; exact Option.some_ne_none _) hf h.2⟩
  | demand p => exact fun s l es hr hh hd h => ⟨phaseOk_own (.demand p) s l es hr hh hd h.1, h.2⟩
  | propose p => exact fun s l f w hr hp hf h => ⟨phaseOk_own (.propose p) s l f w hr hp hf h.1, h.2⟩
  | confirm p => exact fun s l x _ _ h => h
  | safeRelease p =>
    exact fun s _ _ h => ⟨h.1, drivingOk_of_moves (s := s) rfl rfl (fun hla => by cases hla) (fun _ => .inl rfl)
      (fun _ _ => id) h.2⟩
  | powerOn pins => exact fun s h => ⟨phaseOk_own (.powerOn pins) s h.1, fresh _ _ _ _ _⟩
  | line pins => exact fun s h => ⟨phaseOk_own (.line pins) s h.1, fresh _ _ _ _ _⟩
  | commanded pins => exact fun s h => ⟨phaseOk_own (.commanded pins) s h.1, fresh _ _ _ _ _⟩
  | _ => trivial

theorem step_drivingOk {s t : State} (hx : s.phaseOk) (h : s.drivingOk) (hs : step s = .next t) : t.drivingOk :=
  (step_kept (kept_phase.and kept_driving) (fun _ _ h => h) (fun i _ _ => drivingOk_own i) ⟨hx, h⟩ hs).2

/-- Settles O55: only ENGAGE makes a channel drive, past its checks; a link change comes with nothing driving, or trips
what drives, and a safe-stop assertion ends what it finds. An entry to OFF writes the id target into the demand. -/
theorem stepsKeepDrivingSafe : Obligations.StepsKeepDrivingSafe :=
  ⟨fun _ _ hx h hs => step_drivingOk hx h hs, fun _ _ h hs => step_demandsOk h hs⟩

end Sys2Proof.Machine


namespace Sys2Proof.Machine

/-! ### Waiting lists (02, R25, R27) -/

/-- A record's claims under the ports' ranks. -/
def AuthRecord.claimsOk (rank : Port → Nat) (r : AuthRecord) : Prop :=
  r.waiting.length ≤ 3 ∧ r.waiting.Pairwise (fun x y => y.rank < x.rank ∧ x.port ≠ y.port) ∧
    (∀ x ∈ r.waiting, some x.port ≠ r.holder ∧ x.rank = rank x.port ∧ x.rank ≠ 0) ∧
    (r.holder = none → r.waiting = []) ∧ r.holderRank = r.holder.map rank ∧ (∀ p, r.holder = some p → rank p ≠ 0)

theorem waitingOk_iff {s : State} : s.waitingOk ↔ ∀ c, (vget s.auth c).claimsOk s.rank := Iff.rfl

/-- A record that keeps its holder, and claims only leave, stays right. -/
theorem AuthRecord.claimsOk_of_follows {rank : Port → Nat} {a r : AuthRecord} (hh : a.holder = r.holder)
    (hr : a.holderRank = r.holderRank) (hw : a.waiting.Sublist r.waiting) (h : r.claimsOk rank) : a.claimsOk rank := by
  obtain ⟨hlen, hpair, hmem, hempty, hrank, hnz⟩ := h
  unfold AuthRecord.claimsOk
  rw [hh, hr]
  exact ⟨Nat.le_trans hw.length_le hlen, hpair.sublist hw, fun x hx => hmem x (hw.subset hx),
    fun hn => List.sublist_nil.mp (hempty hn ▸ hw), hrank, hnz⟩

theorem waitingOk_of_auth {s t : State} (hk : t.consts = s.consts)
    (ha : ∀ c, (vget t.auth c).holder = (vget s.auth c).holder ∧ (vget t.auth c).holderRank = (vget s.auth c).holderRank ∧
      (vget t.auth c).waiting.Sublist (vget s.auth c).waiting) (h : s.waitingOk) : t.waitingOk := by
  rw [waitingOk_iff] at h ⊢
  have hrank : t.rank = s.rank := by funext p; rw [State.rank, State.rank, hk]
  intro c
  obtain ⟨hh, hr, hw⟩ := ha c
  rw [hrank]
  exact AuthRecord.claimsOk_of_follows hh hr hw (h c)

theorem waitingOk_same {s t : State} (hk : t.consts = s.consts) (ha : t.auth = s.auth) (h : s.waitingOk) : t.waitingOk :=
  waitingOk_of_auth hk (fun c => by rw [ha]; exact ⟨rfl, rfl, List.Sublist.refl _⟩) h

theorem moveGroup_waitingOk (l : Chan) (new : ChState) (timer : Option Nat) {s : State} (h : s.waitingOk) :
    (moveGroup l new timer s).waitingOk := by
  refine waitingOk_of_auth (by simp) (fun c => ?_) h
  rw [moveGroup_auth]
  split <;> exact ⟨rfl, rfl, List.Sublist.refl _⟩

/-- The head of the list becomes holder under its rank; its port is in no other claim. -/
theorem AuthRecord.claimsOk_head {rank : Port → Nat} {r a : AuthRecord} {x : Claim} {rest : List Claim}
    (hw : r.waiting = x :: rest) (h : r.claimsOk rank) (hh : a.holder = some x.port)
    (hr : a.holderRank = some (rank x.port)) (ha : a.waiting = rest) : a.claimsOk rank := by
  obtain ⟨hlen, hpair, hmem, -, -, -⟩ := h
  rw [hw] at hlen hpair hmem
  rw [List.pairwise_cons] at hpair
  obtain ⟨-, hxrank, hxnz⟩ := hmem x List.mem_cons_self
  unfold AuthRecord.claimsOk
  rw [hh, hr, ha]
  refine ⟨?_, hpair.2, fun y hy => ?_, fun hn => (by cases hn), rfl, fun p hp => ?_⟩
  · rw [List.length_cons] at hlen
    omega
  · obtain ⟨-, hyrank, hynz⟩ := hmem y (List.mem_cons_of_mem _ hy)
    exact ⟨fun he => (hpair.1 y hy).2 (Option.some.inj he).symm, hyrank, hynz⟩
  · obtain rfl := Option.some.inj hp
    rwa [← hxrank]

theorem AuthRecord.claimsOk_free {rank : Port → Nat} {a : AuthRecord} (hh : a.holder = none) (hr : a.holderRank = none)
    (ha : a.waiting = []) : a.claimsOk rank := by
  unfold AuthRecord.claimsOk
  rw [hh, hr, ha]
  exact ⟨by decide, List.Pairwise.nil, fun x hx => absurd hx List.not_mem_nil, fun _ => rfl, rfl, fun p hp => by cases hp⟩

theorem installHead_waitingOk (l : Chan) {s : State} (h : s.waitingOk) : (installHead l s).waitingOk := by
  rw [waitingOk_iff] at h ⊢
  have hrank : (installHead l s).rank = s.rank := by funext p; rw [State.rank, State.rank, installHead_consts]
  intro c
  rw [installHead_auth, hrank]
  split
  · cases hw : (s.auRec l).waiting with
    | nil => exact AuthRecord.claimsOk_free rfl rfl rfl
    | cons x rest => exact AuthRecord.claimsOk_head hw (h l) rfl rfl rfl
  · exact h c

theorem kept_waiting : Kept State.waitingOk (fun _ => True) (fun _ => True) where
  live _ _ := trivial
  reports _ := trivial
  counts _ _ := trivial
  free _ _ _ _ _ h := h
  ports _ _ h := h
  line _ _ _ _ h := h
  queues _ _ h := h
  engines _ _ h := h
  envs _ _ h := h
  auth := by
    intro s v hv h
    exact waitingOk_of_auth (s := s) rfl (fun c => ⟨(hv c).1, (hv c).2.1, (hv c).2.2.1⟩) h
  link _ _ h := h
  react _ _ h := h
  budget b h := waitingOk_same (by simp) (by simp) h
  request c r _ h := waitingOk_same (by simp) (by simp) h
  toOff l h := moveGroup_waitingOk l _ _ (waitingOk_same rfl rfl h)
  toRun l _ h := moveGroup_waitingOk l _ _ h
  toHolding l _ h := moveGroup_waitingOk l _ _ (waitingOk_same rfl rfl h)
  toRamping l _ h := moveGroup_waitingOk l _ _ (waitingOk_same rfl rfl h)
  toTripped l k d _ h := moveGroup_waitingOk l _ _ (waitingOk_same (by simp) (by simp) h)
  installHead l h := installHead_waitingOk l h
  enterLink x _ _ h := waitingOk_same (by simp) (by simp) h
  drain := by
    intro s k _ h
    have entered : (Machine.enterLink .draining s).waitingOk := waitingOk_same (by simp) (by simp) h
    split
    · exact tripDriving_induct State.waitingOk k (fun l u hu _ _ =>
        moveGroup_waitingOk l _ _ (waitingOk_same (by simp) (by simp) hu)) _ _ entered
    · exact entered
  stops := by
    intro s _ h
    refine assertStops_induct State.waitingOk (fun l u hu _ => ?_) _ _ (waitingOk_same rfl rfl h)
    unfold assertStopOn
    split
    case h_5 | h_6 | h_7 => exact hu
    all_goals
      split
      · exact moveGroup_waitingOk l _ _ (waitingOk_same rfl rfl hu)
      · exact moveGroup_waitingOk l _ _ (waitingOk_same rfl rfl hu)
  pend _ _ _ _ _ _ h := h
  drop _ _ h := h
  serve _ _ _ _ _ _ h := h
  endLink _ _ h := h
  endStop := by
    intro s e _ h
    exact waitingOk_same (by simp) (by simp) h
  holdRepeat _ h := h

/-! ### A claim that joins the list (02, R33, R35) -/

theorem waitPosition_eq_none (p : Port) : ∀ l : List Claim, waitPosition p l = none ↔ ∀ x ∈ l, x.port ≠ p
  | [] => by simp [waitPosition]
  | y :: rest => by
    unfold waitPosition
    split
    · next h => simp [h]
    · next h => simp [h, waitPosition_eq_none p rest]

theorem mem_insertClaim {x y : Claim} : ∀ {l : List Claim}, y ∈ insertClaim x l ↔ y = x ∨ y ∈ l
  | [] => by simp [insertClaim]
  | z :: rest => by
    unfold insertClaim
    split
    · simp
    · rw [List.mem_cons, mem_insertClaim, List.mem_cons, or_left_comm]

theorem length_insertClaim (x : Claim) : ∀ l : List Claim, (insertClaim x l).length = l.length + 1
  | [] => rfl
  | z :: rest => by
    unfold insertClaim
    split
    · rfl
    · rw [List.length_cons, length_insertClaim x rest, List.length_cons]

/-- A claim of a port and a rank that no other has joins the list at its place. -/
theorem pairwise_insertClaim {x : Claim} : ∀ {l : List Claim},
    l.Pairwise (fun x y => y.rank < x.rank ∧ x.port ≠ y.port) → (∀ y ∈ l, y.rank ≠ x.rank ∧ y.port ≠ x.port) →
    (insertClaim x l).Pairwise (fun x y => y.rank < x.rank ∧ x.port ≠ y.port)
  | [], _, _ => by simp [insertClaim]
  | z :: rest, hp, hx => by
    obtain ⟨hz, hrest⟩ := List.pairwise_cons.mp hp
    obtain ⟨hzrank, hzport⟩ := hx z List.mem_cons_self
    unfold insertClaim
    split
    · next hlt =>
      refine List.pairwise_cons.mpr ⟨fun y hy => ?_, hp⟩
      obtain ⟨-, hyport⟩ := hx y hy
      rcases List.mem_cons.mp hy with rfl | hy
      · exact ⟨hlt, Ne.symm hyport⟩
      · exact ⟨Nat.lt_trans (hz y hy).1 hlt, Ne.symm hyport⟩
    · next hge =>
      refine List.pairwise_cons.mpr ⟨fun y hy => ?_, pairwise_insertClaim hrest fun y hy => hx y (List.mem_cons_of_mem _ hy)⟩
      rcases mem_insertClaim.mp hy with rfl | hy
      · exact ⟨by omega, hzport⟩
      · exact hz y hy

theorem length_allPorts : allPorts.length = 4 := by decide

/-- Four ports are all there are: with a holder outside, at most two claims leave room for a third. -/
theorem waiting_length {old p : Port} {l : List Claim} (hne : p ≠ old)
    (hpair : l.Pairwise (fun x y => y.rank < x.rank ∧ x.port ≠ y.port)) (hold : ∀ x ∈ l, x.port ≠ old)
    (hp : ∀ x ∈ l, x.port ≠ p) : l.length ≤ 2 := by
  have nodup : (p :: old :: l.map (·.port)).Nodup := by
    refine List.nodup_cons.mpr ⟨?_, List.nodup_cons.mpr ⟨?_, ?_⟩⟩
    · simp only [List.mem_cons, List.mem_map, not_or, not_exists, not_and]
      exact ⟨hne, hp⟩
    · simp only [List.mem_map, not_exists, not_and]
      exact hold
    · exact List.pairwise_map.mpr (hpair.imp And.right)
  have four := nodup.length_le_of_subset fun q _ => mem_allPorts q
  simp only [List.length_cons, List.length_map, length_allPorts] at four
  omega

theorem AuthRecord.claimsOk_insert {rank : Port → Nat} (hdist : ∀ p q : Port, p ≠ q → rank p = rank q → rank p = 0)
    {r : AuthRecord} {p old : Port} (hold : r.holder = some old) (hne : p ≠ old) (hp : ∀ x ∈ r.waiting, x.port ≠ p)
    (hnz : rank p ≠ 0) (h : r.claimsOk rank) : ({ r with waiting := insertClaim ⟨p, rank p⟩ r.waiting }).claimsOk rank := by
  obtain ⟨-, hpair, hmem, -, hrank, hhold⟩ := h
  have others : ∀ y ∈ r.waiting, y.rank ≠ rank p ∧ y.port ≠ p := fun y hy => by
    obtain ⟨-, hyrank, hynz⟩ := hmem y hy
    exact ⟨fun he => hynz (hyrank.trans (hdist _ _ (hp y hy) (hyrank ▸ he))), hp y hy⟩
  refine ⟨?_, pairwise_insertClaim hpair others, fun y hy => ?_, fun hn => ?_, hrank, hhold⟩
  · have := waiting_length hne hpair (fun x hx he => (hmem x hx).1 (by rw [he, hold])) hp
    rw [length_insertClaim]
    omega
  · rcases mem_insertClaim.mp hy with rfl | hy
    · exact ⟨fun he => hne (Option.some.inj (he.trans hold)), rfl, hnz⟩
    · exact hmem y hy
  · rw [show r.holder = none from hn] at hold
    cases hold

theorem waitingOk_own (i : Instr) : OwnKept (fun s => s.phaseOk ∧ s.waitingOk) i := by
  have fresh {s : State} (h : ∀ c, vget s.auth c = AuthRecord.initial) : s.waitingOk := fun c => by
    rw [State.auRec, h]
    exact AuthRecord.claimsOk_free rfl rfl rfl
  cases i with
  | periodStart order later =>
    refine fun s hop h => ⟨phaseOk_own (.periodStart order later) s hop h.1,
      kept_waiting.periodStart (fun _ _ h => h) order later (fun u hu h => ?_) hop h.2⟩
    exact waitingOk_of_auth (s := u) rfl (fun c => by simp [advance, AuthRecord.tick]) h
  | writeConstant p =>
    intro s k hp hc h
    refine ⟨phaseOk_own (.writeConstant p) s k hp hc h.1, fun c => ?_⟩
    obtain ⟨-, hnone, hwait, -⟩ := (h.1.2 hc).1 c
    obtain ⟨-, -, -, -, hrank, -⟩ := h.2 c
    exact AuthRecord.claimsOk_free hnone (hrank.trans (by rw [hnone]; rfl)) hwait
  | freeze p => exact fun s hp hx hf h => ⟨phaseOk_own (.freeze p) s hp hx hf h.1, fresh fun c => by simp⟩
  | claim p =>
    intro s l hr hrank hh hw h
    obtain ⟨hgrant, hwait⟩ := phaseOk_own (.claim p) s l hr hrank hh hw h.1
    have free := (waitPosition_eq_none p _).mp hw
    refine ⟨⟨hgrant, fun c => ?_⟩, fun old ho => ⟨hwait old ho, fun c => ?_⟩⟩
    · have hranks : (changeHolder l (some p) s).rank = s.rank := by funext q; rw [State.rank, State.rank, changeHolder_consts]
      rw [State.auRec, changeHolder_auth, hranks]
      split
      · obtain ⟨hlen, hpair, hmem, -, -, -⟩ := h.2 l
        refine ⟨hlen, hpair, fun x hx => ⟨fun he => free x hx (Option.some.inj he), (hmem x hx).2⟩, fun hn => (by cases hn), rfl,
          fun q hq => ?_⟩
        obtain rfl := Option.some.inj hq
        exact hrank
      · exact h.2 c
    · rw [State.auRec, queueClaim, vget_vset]
      split
      · refine AuthRecord.claimsOk_insert ?_ ho (fun he => hh (by rw [ho, he])) free hrank (h.2 l)
        exact (rankClash_eq_none _).mp ((freezeFault_eq_none _).mp (h.1.1 hr.1)).1
      · exact h.2 c
  | engage p =>
    refine fun s l hr hh hf h => ⟨phaseOk_own (.engage p) s l hr hh hf h.1, moveGroup_waitingOk l _ _ ?_⟩
    exact waitingOk_same (by simp) (by simp) h.2
  | demand p => exact fun s l es hr hh hd h => ⟨phaseOk_own (.demand p) s l es hr hh hd h.1, h.2⟩
  | propose p => exact fun s l f w hr hp hf h => ⟨phaseOk_own (.propose p) s l f w hr hp hf h.1, h.2⟩
  | confirm p => exact fun s l x _ _ h => h
  | safeRelease p => exact fun s _ _ h => h
  | powerOn pins => exact fun s h => ⟨phaseOk_own (.powerOn pins) s h.1, fresh fun c => by simp⟩
  | line pins => exact fun s h => ⟨phaseOk_own (.line pins) s h.1, fresh fun c => by simp⟩
  | commanded pins => exact fun s h => ⟨phaseOk_own (.commanded pins) s h.1, fresh fun c => by simp⟩
  | _ => trivial

theorem step_waitingOk {s t : State} (hx : s.phaseOk) (h : s.waitingOk) (hs : step s = .next t) : t.waitingOk :=
  (step_kept (kept_phase.and kept_waiting) (fun _ _ h => h) (fun i _ _ => waitingOk_own i) ⟨hx, h⟩ hs).2

/-- Settles O53: a claim joins at its rank's place, where no other has its rank or its port; a head that becomes holder
leaves the list. -/
theorem stepsKeepTheWaitingLists : Obligations.StepsKeepTheWaitingLists := fun _ _ hx h hs => step_waitingOk hx h hs

end Sys2Proof.Machine


namespace Sys2Proof.Machine

/-! ### The pending set in its order (07, R134, R137) -/

theorem Scope.number_lt (sc : Scope) : sc.number < 16 := by
  cases sc <;> simp only [Scope.number] <;> omega

/-- Keys are ordered by kind, then by scope. -/
theorem keyOrder_lt {k k' : FaultKind} {sc sc' : Scope} : keyOrder k sc < keyOrder k' sc' ↔
    k.index < k'.index ∨ (k.index = k'.index ∧ sc.number < sc'.number) := by
  have h := sc.number_lt
  have h' := sc'.number_lt
  unfold keyOrder
  omega

theorem FaultKind.index_inj {k k' : FaultKind} (h : k.index = k'.index) : k = k' := by
  cases k <;> cases k' <;> first | rfl | cases h

/-- A kind's scopes are all of one sort, so that their numbers tell them apart. -/
theorem scope_of_number {k : FaultKind} {sc sc' : Scope} (hf : scopeFits k sc = true) (hf' : scopeFits k sc' = true)
    (h : sc.number = sc'.number) : sc = sc' := by
  cases sc <;> cases sc'
  case channel.channel c c' => exact congrArg Scope.channel (Fin.ext h)
  case port.port p p' => exact congrArg Scope.port (Fin.ext h)
  case link.link | all.all => rfl
  all_goals cases k <;> first | exact absurd hf Bool.false_ne_true | exact absurd hf' Bool.false_ne_true

/-- Two keys of the same place are one, each scope being of its kind. -/
theorem keyOrder_inj {k k' : FaultKind} {sc sc' : Scope} (hf : scopeFits k sc = true) (hf' : scopeFits k' sc' = true)
    (h : keyOrder k sc = keyOrder k' sc') : k = k' ∧ sc = sc' := by
  have hn := sc.number_lt
  have hn' := sc'.number_lt
  unfold keyOrder at h
  obtain rfl : k = k' := FaultKind.index_inj (by omega)
  exact ⟨rfl, scope_of_number hf hf' (by omega)⟩

/-- The order of two entries by their keys. -/
def PendingEntry.before (x y : PendingEntry) : Prop := keyOrder x.kind x.scope < keyOrder y.kind y.scope

/-- An entry as the set holds it: no trip kind, its scope its kind's, and 1 to 255 reports. -/
def PendingEntry.wellMade (x : PendingEntry) : Prop :=
  scopeFits x.kind x.scope = true ∧ x.kind.isTrip = false ∧ 1 ≤ x.count ∧ x.count ≤ 255

/-- The entries after a report are its own or the others, with their keys. -/
theorem insertPending_key {x y : PendingEntry} : ∀ {l : List PendingEntry}, y ∈ insertPending x l →
    (y.kind = x.kind ∧ y.scope = x.scope) ∨ ∃ z ∈ l, y.kind = z.kind ∧ y.scope = z.scope
  | [], h => .inl (by rw [List.mem_singleton.mp h]; exact ⟨rfl, rfl⟩)
  | z :: rest, h => by
    unfold insertPending at h
    split at h
    · rcases List.mem_cons.mp h with rfl | h
      · exact .inr ⟨z, List.mem_cons_self, rfl, rfl⟩
      · exact .inr ⟨y, List.mem_cons_of_mem _ h, rfl, rfl⟩
    · split at h
      · rcases List.mem_cons.mp h with rfl | h
        · exact .inl ⟨rfl, rfl⟩
        · exact .inr ⟨y, h, rfl, rfl⟩
      · rcases List.mem_cons.mp h with rfl | h
        · exact .inr ⟨y, List.mem_cons_self, rfl, rfl⟩
        · rcases insertPending_key h with hx | ⟨w, hw, hk⟩
          · exact .inl hx
          · exact .inr ⟨w, List.mem_cons_of_mem _ hw, hk⟩

theorem insertPending_wellMade {x : PendingEntry} (hx : x.wellMade) : ∀ {l : List PendingEntry}, (∀ y ∈ l, y.wellMade) →
    ∀ y ∈ insertPending x l, y.wellMade
  | [], _, y, hy => List.mem_singleton.mp hy ▸ hx
  | z :: rest, h, y, hy => by
    have hz := h z List.mem_cons_self
    have hrest : ∀ y ∈ rest, y.wellMade := fun y hy => h y (List.mem_cons_of_mem _ hy)
    unfold insertPending at hy
    split at hy
    · rcases List.mem_cons.mp hy with rfl | hy
      · obtain ⟨hfit, htrip, hlow, -⟩ := hz
        refine ⟨hfit, htrip, ?_, Nat.min_le_left _ _⟩
        obtain ⟨-, -, hxlow, -⟩ := hx
        show 1 ≤ min 255 (z.count + x.count)
        omega
      · exact hrest y hy
    · split at hy
      · rcases List.mem_cons.mp hy with rfl | hy
        · exact hx
        · exact h y hy
      · rcases List.mem_cons.mp hy with rfl | hy
        · exact hz
        · exact insertPending_wellMade hx hrest y hy

theorem insertPending_pairwise {x : PendingEntry} (hx : x.wellMade) : ∀ {l : List PendingEntry}, (∀ y ∈ l, y.wellMade) →
    l.Pairwise PendingEntry.before → (insertPending x l).Pairwise PendingEntry.before
  | [], _, _ => List.pairwise_singleton _ _
  | z :: rest, hw, hp => by
    obtain ⟨hz, hrest⟩ := List.pairwise_cons.mp hp
    have hwz := hw z List.mem_cons_self
    unfold insertPending
    split
    · exact List.pairwise_cons.mpr ⟨hz, hrest⟩
    · next hkey =>
      split
      · next hlt =>
        refine List.pairwise_cons.mpr ⟨fun y hy => ?_, hp⟩
        rcases List.mem_cons.mp hy with rfl | hy
        · exact hlt
        · exact Nat.lt_trans hlt (hz y hy)
      · next hge =>
        have hzx : z.before x := by
          refine Nat.lt_of_le_of_ne (Nat.le_of_not_lt hge) fun he => hkey ?_
          exact keyOrder_inj hwz.1 hx.1 he
        refine List.pairwise_cons.mpr
          ⟨fun y hy => ?_, insertPending_pairwise hx (fun y hy => hw y (List.mem_cons_of_mem _ hy)) hrest⟩
        unfold PendingEntry.before at hzx hz ⊢
        rcases insertPending_key hy with ⟨hk, hsc⟩ | ⟨w, hmem, hk, hsc⟩ <;> rw [hk, hsc]
        · exact hzx
        · exact hz w hmem

theorem insertPending_length (x : PendingEntry) : ∀ l : List PendingEntry, (insertPending x l).length ≤ l.length + 1
  | [] => Nat.le_refl _
  | z :: rest => by
    unfold insertPending
    split
    · exact Nat.le_succ _
    · split
      · exact Nat.le_refl _
      · exact Nat.succ_le_succ (insertPending_length x rest)

/-! ### The Reaction Controller's block (07, R134, R136) -/

/-- The pending set in order and well made, a lasting reaction in service, a repeat held only behind SAFE_STOP. -/
def ReactionBlock.ordered (r : ReactionBlock) : Prop :=
  r.pendingSet.Pairwise PendingEntry.before ∧ (∀ x ∈ r.pendingSet, x.wellMade) ∧
    (∀ i, r.inService = some i → i.kind.isLink = true ∨ i.kind = .safeStop) ∧
    (∀ h, r.held = some h → 1 ≤ h.count ∧ h.count ≤ 255 ∧ r.inService.map (·.kind) = some .safeStop)

theorem reactionsOk_iff {s : State} : s.reactionsOk ↔ s.react.ordered := Iff.rfl

theorem ReactionBlock.ordered_of_eq {a r : ReactionBlock} (hp : a.pendingSet = r.pendingSet) (hi : a.inService = r.inService)
    (hh : a.held = r.held) (h : r.ordered) : a.ordered := by
  unfold ReactionBlock.ordered
  rw [hp, hi, hh]
  exact h

theorem ReactionBlock.ordered_pend {r : ReactionBlock} {x : PendingEntry} (hx : x.wellMade) (h : r.ordered) :
    ({ r with pendingSet := insertPending x r.pendingSet }).ordered := by
  obtain ⟨hpair, hmade, hrest⟩ := h
  exact ⟨insertPending_pairwise hx hmade hpair, insertPending_wellMade hx hmade, hrest⟩

theorem ReactionBlock.ordered_sublist {r : ReactionBlock} {l : List PendingEntry} (hl : l.Sublist r.pendingSet)
    (h : r.ordered) : ({ r with pendingSet := l }).ordered := by
  obtain ⟨hpair, hmade, hrest⟩ := h
  exact ⟨hpair.sublist hl, fun x hx => hmade x (hl.subset hx), hrest⟩

/-- With nothing in service, or a link reaction, no repeat is held. -/
theorem ReactionBlock.held_eq_none {r : ReactionBlock} (h : r.ordered)
    (hi : r.inService.map (·.kind) ≠ some .safeStop) : r.held = none := by
  obtain ⟨-, -, -, hheld⟩ := h
  cases hh : r.held with
  | none => rfl
  | some x => exact absurd (hheld x hh).2.2 hi

theorem FaultKind.isLink_ne_safeStop {k : FaultKind} (h : k.isLink = true) : k ≠ .safeStop := by
  rintro rfl
  cases h

theorem endSafeStop_reactionsOk (e : ReactionEnd) {s : State} (h : s.reactionsOk) : (endSafeStop e s).reactionsOk := by
  rw [reactionsOk_iff] at h ⊢
  obtain ⟨hpair, hmade, -, hheld⟩ := h
  unfold endSafeStop releaseHeld
  split
  · next hn => exact ⟨hpair, hmade, fun i hi => (by cases hi), fun x hx => by rw [hn] at hx; cases hx⟩
  · next x hx =>
    obtain ⟨hlow, hhigh, -⟩ := hheld x hx
    have made : (⟨.safeStop, .all, x.first, x.count, none⟩ : PendingEntry).wellMade := ⟨rfl, rfl, hlow, hhigh⟩
    exact ⟨insertPending_pairwise made hmade hpair, insertPending_wellMade made hmade, fun i hi => (by cases hi),
      fun y hy => by cases hy⟩

theorem keptReactions_same {s t : State} (hr : t.react = s.react) (h : s.reactionsOk) : t.reactionsOk := by
  rw [reactionsOk_iff] at h ⊢
  rw [hr]
  exact h

theorem assertStopOn_reactionsOk (l : Chan) {s : State} (h : s.reactionsOk) : (assertStopOn l s).reactionsOk := by
  unfold assertStopOn
  split
  case h_5 | h_6 | h_7 => exact h
  all_goals
    split
    · exact keptReactions_same (by simp) h
    · exact keptReactions_same (by simp) h

theorem kept_reactions : Kept State.reactionsOk (fun _ => True) (fun _ => True) where
  live _ _ := trivial
  reports _ := trivial
  counts _ _ := trivial
  free _ _ _ _ _ h := h
  ports _ _ h := h
  line _ _ _ _ h := h
  queues _ _ h := h
  engines _ _ h := h
  envs _ _ h := h
  auth _ _ h := h
  link _ _ h := h
  react r hr h := ReactionBlock.ordered_of_eq hr.1 hr.2.1 hr.2.2.1 h
  budget b h := keptReactions_same (by simp) h
  request c r _ h := keptReactions_same (by simp) h
  toOff l h := keptReactions_same (by simp) h
  toRun l _ h := keptReactions_same (by simp) h
  toHolding l _ h := keptReactions_same (by simp) h
  toRamping l _ h := keptReactions_same (by simp) h
  toTripped l k d _ h := keptReactions_same (by simp) h
  installHead l h := keptReactions_same (by simp) h
  enterLink x _ _ h := keptReactions_same (by simp) h
  drain := by
    intro s k _ h
    have entered : (Machine.enterLink .draining s).reactionsOk := keptReactions_same (by simp) h
    split
    · exact tripDriving_induct State.reactionsOk k (fun l u hu _ _ => keptReactions_same (by simp) hu) _ _ entered
    · exact entered
  stops := by
    intro s _ h
    exact assertStops_induct State.reactionsOk (fun l u hu _ => assertStopOn_reactionsOk l hu) _ _
      (ReactionBlock.ordered_of_eq (a := (setLatch true s).react) rfl rfl rfl h)
  pend := by
    intro s k sc e hsc hk _ h
    exact ReactionBlock.ordered_pend (r := s.react) (x := ⟨k, sc, s.period, 1, e⟩) ⟨hsc, hk, Nat.le_refl _, Nat.le_of_ble_eq_true rfl⟩ h
  drop l hl h := ReactionBlock.ordered_sublist hl h
  serve := by
    intro s x l hl hx hi hk h
    obtain ⟨hpair, hmade, -, -⟩ := reactionsOk_iff.mp h
    have hheld : s.react.held = none := ReactionBlock.held_eq_none h (by rw [hi]; decide)
    refine reactionsOk_iff.mpr ⟨hpair.sublist hl, fun y hy => hmade y (hl.subset hy), fun i hi => ?_, fun y hy => ?_⟩
    · obtain rfl := Option.some.inj hi
      exact hk
    · have hy' : s.react.held = some y := hy
      rw [hheld] at hy'
      cases hy'
  endLink := by
    intro s k hi h
    obtain ⟨hpair, hmade, -, -⟩ := reactionsOk_iff.mp h
    obtain ⟨i, hi, hlink⟩ := hi
    have hheld : s.react.held = none := ReactionBlock.held_eq_none h (by
      rw [hi]
      exact fun he => FaultKind.isLink_ne_safeStop hlink (Option.some.inj he))
    refine reactionsOk_iff.mpr ⟨hpair, hmade, fun i hi => (by cases hi), fun y hy => ?_⟩
    have hy' : s.react.held = some y := hy
    rw [hheld] at hy'
    cases hy'
  endStop e _ h := endSafeStop_reactionsOk e h
  holdRepeat := by
    intro s hi h
    obtain ⟨hpair, hmade, hserve, hheld⟩ := reactionsOk_iff.mp h
    obtain ⟨i, hi, hstop⟩ := hi
    refine reactionsOk_iff.mpr ⟨hpair, hmade, hserve, fun y hy => ?_⟩
    have served : s.react.inService.map (·.kind) = some .safeStop := by rw [hi, Option.map_some, hstop]
    have hy' : (match s.react.held with
      | none => some (⟨s.period, 1⟩ : HeldRepeat)
      | some h => some { h with count := min 255 (h.count + 1) }) = some y := hy
    split at hy'
    · obtain rfl := Option.some.inj hy'
      exact ⟨Nat.le_refl _, Nat.le_of_ble_eq_true rfl, served⟩
    · obtain rfl := Option.some.inj hy'
      refine ⟨?_, Nat.min_le_left _ _, served⟩
      simp only
      omega

theorem reactionsOk_own (i : Instr) : OwnKept State.reactionsOk i := by
  have fresh {s : State} (hp : s.react.pendingSet = []) (hi : s.react.inService = none) (hh : s.react.held = none) :
      s.reactionsOk := reactionsOk_iff.mpr (by
    unfold ReactionBlock.ordered
    rw [hp, hi, hh]
    exact ⟨List.Pairwise.nil, fun x hx => absurd hx List.not_mem_nil, fun i hi => (by cases hi), fun x hx => by cases hx⟩)
  cases i with
  | periodStart order later =>
    exact fun s hop h => kept_reactions.periodStart (fun _ _ h => h) order later (fun u hu h => h) hop h
  | writeConstant p => exact fun s k _ _ h => h
  | freeze p =>
    refine fun s _ _ _ h => ReactionBlock.ordered_of_eq ?_ ?_ ?_ (reactionsOk_iff.mp h) <;>
      rw [freezePart_react, deliverLevels_react] <;> rfl
  | claim p => exact fun s l _ _ _ _ h => ⟨keptReactions_same (by simp) h, fun old _ => h⟩
  | engage p => exact fun s l _ _ _ h => keptReactions_same (by simp) h
  | demand p => exact fun s l es _ _ _ h => h
  | propose p => exact fun s l f w _ _ _ h => h
  | confirm p => exact fun s l x _ _ h => h
  | safeRelease p => exact fun s _ _ h => ReactionBlock.ordered_of_eq rfl rfl rfl (reactionsOk_iff.mp h)
  | powerOn pins | line pins | commanded pins =>
    exact fun s _ => fresh (by rw [resetTo_react]; rfl) (by rw [resetTo_react]; rfl) (by rw [resetTo_react]; rfl)
  | _ => trivial

theorem step_reactionsOk {s t : State} (h : s.reactionsOk) (hs : step s = .next t) : t.reactionsOk :=
  step_kept kept_reactions (fun _ _ h => h) (fun i _ _ => reactionsOk_own i) h hs

end Sys2Proof.Machine


namespace Sys2Proof.Machine

/-! ### The taking (07, R137) -/

/-- A reaction is in service, or no pending entry is takeable. -/
def State.quiet (s : State) : Prop :=
  s.react.inService.isSome = true ∨ ∀ x ∈ s.react.pendingSet, s.takeable x = false

theorem takeFirst_eq_none {test : PendingEntry → Bool} : ∀ {l : List PendingEntry},
    takeFirst test l = none ↔ ∀ x ∈ l, test x = false
  | [] => by simp [takeFirst]
  | x :: rest => by
    unfold takeFirst
    split
    · next h => simp [h]
    · next h =>
      have ih := takeFirst_eq_none (test := test) (l := rest)
      split
      · next hn => simpa [h] using ih.mp hn
      · next hn =>
        simp only [reduceCtorEq, List.mem_cons, forall_eq_or_imp, false_iff, not_and]
        exact fun _ hall => by rw [ih.mpr hall] at hn; cases hn

theorem takeFirst_append {test : PendingEntry → Bool} {x : PendingEntry} {after : List PendingEntry} (hx : test x = true) :
    ∀ {before : List PendingEntry}, (∀ y ∈ before, test y = false) →
      takeFirst test (before ++ x :: after) = some (x, before ++ after)
  | [], _ => by simp [takeFirst, hx]
  | y :: rest, h => by
    rw [List.cons_append, takeFirst, if_neg (by rw [h y List.mem_cons_self]; exact Bool.false_ne_true),
      takeFirst_append hx fun z hz => h z (List.mem_cons_of_mem _ hz)]
    rfl

theorem takeUpTo_of_quiet {s : State} (h : s.quiet) (n : Nat) : takeUpTo n s = s := by
  cases n with
  | zero => rfl
  | succ n =>
    unfold takeUpTo
    cases hi : s.react.inService with
    | some i => rfl
    | none =>
      rcases h with h | h
      · rw [hi] at h
        cases h
      · simp only [takeFirst_eq_none.mpr h]

theorem takeReactions_of_quiet {s : State} (h : s.quiet) : takeReactions s = s := takeUpTo_of_quiet h _

/-- What a taking has before it: the pending entries, and a held repeat that may join them. -/
def State.burden (s : State) : Nat := s.react.pendingSet.length + if s.react.held.isSome then 1 else 0

theorem burden_of_react {s t : State} (hp : t.react.pendingSet = s.react.pendingSet) (hh : t.react.held = s.react.held) :
    t.burden = s.burden := by rw [State.burden, State.burden, hp, hh]

theorem endSafeStop_burden (e : ReactionEnd) (s : State) : (endSafeStop e s).burden ≤ s.burden := by
  unfold endSafeStop releaseHeld
  split
  · exact Nat.le_refl _
  · next h hh =>
    have hheld : s.react.held = some h := hh
    have := insertPending_length ⟨.safeStop, .all, h.first, h.count, none⟩ s.react.pendingSet
    unfold State.burden
    rw [hheld]
    exact this

/-- No reaction adds to what the taking has before it. -/
theorem performReaction_burden (x : PendingEntry) (s : State) : (performReaction x s).burden ≤ s.burden := by
  have link : (beginLinkReaction x s).burden ≤ s.burden := by
    refine Nat.le_of_eq (burden_of_react ?_ ?_) <;>
    · unfold beginLinkReaction
      dsimp only
      split <;> simp [endLinkReaction, endInService, putInService]
  have stop : (beginSafeStop x s).burden ≤ s.burden := by
    have begun : (writeSevere .safeStop .all (broadcast .safeState (flushAll (putInService x s)))).burden = s.burden :=
      burden_of_react (by simp [putInService]) (by simp [putInService])
    unfold beginSafeStop
    dsimp only
    split
    · exact Nat.le_trans (endSafeStop_burden _ _) (Nat.le_of_eq begun)
    · exact Nat.le_of_eq begun
  have same {t : State} (hr : t.react = s.react) : t.burden ≤ s.burden :=
    Nat.le_of_eq (burden_of_react (by rw [hr]) (by rw [hr]))
  unfold performReaction
  split
  · exact stop
  · exact same (by simp)
  · exact same (by simp)
  · exact same (by simp)
  · exact same (by simp)
  · exact link
  · exact link
  · exact link
  · exact link
  · exact link
  · exact Nat.le_refl _

theorem takeFirst_length {test : PendingEntry → Bool} {l others : List PendingEntry} {x : PendingEntry}
    (h : takeFirst test l = some (x, others)) : others.length + 1 = l.length := by
  induction l generalizing others with
  | nil => cases h
  | cons y rest ih =>
    unfold takeFirst at h
    split at h
    · cases h
      rfl
    · split at h
      · cases h
      · next z more ht =>
        cases h
        rw [List.length_cons, ih ht, List.length_cons]

/-- Each taking leaves less before it. -/
theorem taken_burden {s : State} {x : PendingEntry} {others : List PendingEntry}
    (h : takeFirst s.takeable s.react.pendingSet = some (x, others)) :
    (performReaction x (withPending others s)).burden < s.burden := by
  refine Nat.lt_of_le_of_lt (performReaction_burden x _) ?_
  have := takeFirst_length h
  have held : (withPending others s).react.held = s.react.held := rfl
  have pending : (withPending others s).react.pendingSet = others := rfl
  unfold State.burden
  rw [held, pending]
  omega

theorem takeUpTo_quiet : ∀ (n : Nat) (s : State), s.burden < n → (takeUpTo n s).quiet
  | 0, _, h => absurd h (Nat.not_lt_zero _)
  | n + 1, s, h => by
    unfold takeUpTo
    split
    · next i hi => exact .inl (by rw [hi]; rfl)
    · split
      · next ht => exact .inr (takeFirst_eq_none.mp ht)
      · next x others ht => exact takeUpTo_quiet n _ (Nat.lt_of_lt_of_le (taken_burden ht) (Nat.le_of_lt_succ h))

/-- More rounds than are needed change nothing. -/
theorem takeUpTo_enough : ∀ (n m : Nat) (s : State), s.burden < n → s.burden < m → takeUpTo n s = takeUpTo m s
  | 0, _, _, h, _ => absurd h (Nat.not_lt_zero _)
  | _ + 1, 0, _, _, h => absurd h (Nat.not_lt_zero _)
  | n + 1, m + 1, s, hn, hm => by
    unfold takeUpTo
    split
    · rfl
    · split
      · rfl
      · next x others ht =>
        exact takeUpTo_enough n m _ (Nat.lt_of_lt_of_le (taken_burden ht) (Nat.le_of_lt_succ hn))
          (Nat.lt_of_lt_of_le (taken_burden ht) (Nat.le_of_lt_succ hm))

theorem burden_lt_fuel (s : State) : s.burden < s.react.pendingSet.length + 2 := by
  unfold State.burden
  split <;> omega

theorem takeReactions_quieted (s : State) : (takeReactions s).quiet := takeUpTo_quiet _ s (burden_lt_fuel s)

/-- With nothing in service the first takeable entry is taken, and the taking goes on. -/
theorem takeReactions_taken {s : State} {x : PendingEntry} {others : List PendingEntry} (hi : s.react.inService = none)
    (ht : takeFirst s.takeable s.react.pendingSet = some (x, others)) :
    takeReactions s = takeReactions (performReaction x (withPending others s)) := by
  have first : takeReactions s = takeUpTo (s.react.pendingSet.length + 1) (performReaction x (withPending others s)) := by
    show takeUpTo (s.react.pendingSet.length + 1 + 1) s = _
    rw [takeUpTo]
    simp only [hi, ht]
  rw [first]
  have := taken_burden ht
  have := burden_lt_fuel s
  exact takeUpTo_enough _ _ _ (by omega) (burden_lt_fuel _)

/-! ### What a taking may take depends on -/

/-- Holders, handovers, masks and waits are as they were. -/
def State.sameHold (s t : State) : Prop :=
  t.consts = s.consts ∧ t.react.mask = s.react.mask ∧ t.react.untilTake = s.react.untilTake ∧
    ∀ c, (vget t.auth c).holder = (vget s.auth c).holder ∧
      (vget t.auth c).handover.isSome = (vget s.auth c).handover.isSome

theorem takeable_of_sameHold {s t : State} (h : s.sameHold t) (x : PendingEntry) : t.takeable x = s.takeable x := by
  obtain ⟨hk, hm, hu, ha⟩ := h
  have holds (l : Chan) : t.handoverHolds l = s.handoverHolds l := by
    unfold State.handoverHolds State.auRec
    rw [(ha l).2, hu]
  have deferred : t.deferred x.scope = s.deferred x.scope := by
    unfold State.deferred State.lead State.auRec
    simp only [holds, hk, (ha _).1]
  unfold State.takeable
  rw [hm, deferred]

theorem quiet_of_sameHold {s t : State} (hi : t.react.inService = s.react.inService)
    (hp : t.react.pendingSet = s.react.pendingSet) (hh : s.sameHold t) (h : s.quiet) : t.quiet := by
  unfold State.quiet
  rw [hi, hp]
  exact h.imp_right fun h x hx => (takeable_of_sameHold hh x).trans (h x hx)

theorem quiet_same {s t : State} (hk : t.consts = s.consts) (hr : t.react = s.react)
    (ha : ∀ c, (vget t.auth c).holder = (vget s.auth c).holder ∧
      (vget t.auth c).handover.isSome = (vget s.auth c).handover.isSome) (h : s.quiet) : t.quiet :=
  quiet_of_sameHold (by rw [hr]) (by rw [hr]) ⟨hk, by rw [hr], by rw [hr], ha⟩ h

/-- What leaves the constants, the records and the reactions alone leaves the Reaction Controller quiet. -/
theorem quiet_frame {s t : State} (hk : t.consts = s.consts) (hr : t.react = s.react) (ha : t.auth = s.auth) (h : s.quiet) :
    t.quiet := quiet_same hk hr (fun c => by rw [ha]; exact ⟨rfl, rfl⟩) h

theorem quiet_of_inService {s : State} {i : InService} (h : s.react.inService = some i) : s.quiet := .inl (by rw [h]; rfl)

theorem quiet_of_empty {s : State} (h : s.react.pendingSet = []) : s.quiet := .inr (by rw [h]; simp)

end Sys2Proof.Machine


namespace Sys2Proof.Machine

/-! ### Every operation leaves the Reaction Controller quiet (07, R137)

An operation that changes a holder, ends a handover, or pends a report ends in a taking; the others leave what may be
taken as it was. -/

theorem reportOrdinary_quieted (k : FaultKind) (sc : Scope) (e : Option W16) (s : State) : (reportOrdinary k sc e s).quiet :=
  takeReactions_quieted _

theorem reportLink_quieted (k : FaultKind) (s : State) : (reportLink k s).quiet := by
  unfold reportLink
  split
  · next i hi =>
    split
    · exact takeReactions_quieted _
    · exact quiet_of_inService (i := i) hi
  · exact takeReactions_quieted _

theorem broadcast_quiet (k : NoticeKind) {s : State} (h : s.quiet) : (broadcast k s).quiet :=
  quiet_frame (by simp) (by simp) (by simp) h

theorem handTo_quiet (p : Port) (k : NoticeKind) {s : State} (h : s.quiet) : (handTo p k s).quiet :=
  quiet_frame (by simp) (by simp) (by simp) h

theorem tripReaction_quiet (k : FaultKind) (c : Chan) {s : State} (h : s.quiet) : (tripReaction k c s).quiet :=
  quiet_frame (by simp) (by simp) (by simp) h

theorem reportDeparture_quiet {s : State} (h : s.quiet) : (reportDeparture s).quiet := by
  unfold reportDeparture
  split
  · split
    · exact takeReactions_quieted _
    · exact h
  · exact h

theorem reportDischarged_quiet {s : State} (h : s.quiet) : (reportDischarged s).quiet := by
  unfold reportDischarged
  split
  · split
    · exact takeReactions_quieted _
    · exact h
  · exact h

theorem detectTrip_quiet (k : FaultKind) (c : Chan) (d : Nat) {s : State} (h : s.quiet) : (detectTrip k c d s).quiet := by
  have taken (u : State) : (tripReaction k c (takeReactions u)).quiet := tripReaction_quiet k c (takeReactions_quieted u)
  unfold detectTrip
  dsimp only
  split
  · exact h
  · split
    · exact tripReaction_quiet k c (reportDeparture_quiet (takeReactions_quieted _))
    · exact reportDeparture_quiet (taken _)
  all_goals exact taken _

theorem handleStopReport_quieted (s : State) : (handleStopReport s).1.quiet := by
  unfold handleStopReport
  split
  · exact takeReactions_quieted _
  · next i hi =>
    split
    · exact quiet_of_inService (i := i) hi
    · exact quiet_of_inService (i := i) hi

theorem detectSafeStop_quieted (s : State) : (detectSafeStop s).1.quiet := handleStopReport_quieted _

/-- A move out of no running state, or into one, ends no handover. -/
theorem moveGroup_quiet (l : Chan) {new : ChState} (timer : Option Nat) {s : State}
    (hr : (s.eng l).state.running = false ∨ new.running = true) (h : s.quiet) : (moveGroup l new timer s).quiet := by
  refine quiet_same (by simp) (by simp) (fun c => ?_) h
  have ends : ¬(l = c ∧ (s.eng l).state.running = true ∧ new.running = false) := by
    rintro ⟨_, hl, hn⟩
    rcases hr with hr | hr
    · exact Bool.false_ne_true (hr.symm.trans hl)
    · exact Bool.false_ne_true (hn.symm.trans hr)
  rw [moveGroup_auth, if_neg ends]
  exact ⟨rfl, rfl⟩

/-! ### The link -/

theorem handLinkState_quiet {s : State} (h : s.quiet) : (handLinkState s).quiet := by
  have budget (b : Nat) {u : State} (hu : u.quiet) : (setBudget b u).quiet := quiet_frame (by simp) (by simp) (by simp) hu
  unfold handLinkState
  dsimp only
  split
  · exact h
  · split
    · exact budget _ (reportDischarged_quiet (broadcast_quiet _ h))
    · exact budget _ (broadcast_quiet _ h)

theorem changeLink_quiet (x : LinkState) {s : State} (h : s.quiet) : (changeLink x s).quiet :=
  handLinkState_quiet (quiet_frame (by simp) (by simp) (by simp) h)

theorem judgeWake_quiet {s : State} (h : s.quiet) : (judgeWake s).quiet := by
  unfold judgeWake
  split
  · exact changeLink_quiet _ h
  · exact h

theorem wakeLink_quiet {s : State} (h : s.quiet) : (wakeLink s).quiet := by
  unfold wakeLink
  split
  · exact judgeWake_quiet (changeLink_quiet _ h)
  · exact h

theorem linkFault_quieted (k : FaultKind) (s : State) : (linkFault k s).quiet := by
  unfold linkFault
  split
  · exact reportLink_quieted _ _
  · exact reportLink_quieted _ _

theorem levelTest_quiet (v : Nat) {s : State} (h : s.quiet) : (levelTest v s).quiet := by
  have tested (c : Prop) [Decidable c] (x : LinkState) : (if c then changeLink x s else s).quiet := by
    split
    · exact changeLink_quiet x h
    · exact h
  unfold levelTest
  split
  · exact tested _ _
  · exact tested _ _
  · exact tested _ _
  all_goals exact h

theorem supplyStep4_quiet (before : Option SupplyData) (d : SupplyData) {s : State} (h : s.quiet) :
    (supplyStep4 before d s).quiet := by
  have handed : (if s.link.state = .ready then setBudget (min s.consts.linkRating d.available) s else s).quiet := by
    split
    · exact quiet_frame (by simp) (by simp) (by simp) h
    · exact h
  unfold supplyStep4
  dsimp only
  split
  · split
    · exact broadcast_quiet _ handed
    · exact handed
  · exact handed

theorem receiveSupply_quiet (bytes : List Byte) {s : State} (h : s.quiet) : (receiveSupply bytes s).quiet := by
  have taken (d : SupplyData) : (takeSupply d s).quiet := by
    have kept : (keepSupply d s).quiet := quiet_frame (by simp) (by simp) (by simp) h
    unfold takeSupply
    dsimp only
    split
    · exact levelTest_quiet _ kept
    · split
      · exact linkFault_quieted _ _
      · exact supplyStep4_quiet _ _ (levelTest_quiet _ kept)
  unfold receiveSupply
  split
  · exact h
  · split
    · exact h
    · exact taken _

theorem supplyCheck_quiet (first : Bool) {s : State} (h : s.quiet) : (supplyCheck first s).quiet := by
  have marked (b : LinkBlock) : ({ s with link := b } : State).quiet := quiet_frame (s := s) rfl rfl rfl h
  unfold supplyCheck
  dsimp only
  split
  · exact marked _
  · split
    · split
      · exact linkFault_quieted _ _
      · exact marked _
    · exact marked _

theorem chargeExpiry_quiet {s : State} (h : s.quiet) : (chargeExpiry s).quiet := by
  unfold chargeExpiry
  split
  · exact linkFault_quieted _ _
  · exact h

theorem settleExpiry_quiet {s : State} (h : s.quiet) : (settleExpiry s).quiet := by
  unfold settleExpiry
  split
  · exact changeLink_quiet _ h
  · exact h

theorem wakeExpiry_quiet {s : State} (h : s.quiet) : (wakeExpiry s).quiet := by
  unfold wakeExpiry
  split
  · exact linkFault_quieted _ _
  · exact h

theorem linkTimerExpiry_quiet {s : State} (h : s.quiet) : (linkTimerExpiry s).quiet := by
  unfold linkTimerExpiry
  split
  · exact chargeExpiry_quiet h
  · exact settleExpiry_quiet h
  · exact wakeExpiry_quiet h
  all_goals exact h

/-! ### Inputs -/

theorem recordLevel_quiet (b : Binding) (i : Input) (level : Bool) {s : State} (h : s.quiet) :
    (recordLevel b i level s).quiet :=
  quiet_of_sameHold (by rw [recordLevel_react]) (by rw [recordLevel_react])
    ⟨by simp, by rw [recordLevel_react], by rw [recordLevel_react], fun c => by simp⟩ h

theorem actOnActive_quiet (b : Binding) {s : State} (h : s.quiet) : (actOnActive b s).quiet := by
  unfold actOnActive
  split
  · split
    · exact h
    · exact detectSafeStop_quieted s
  · exact wakeLink_quiet h
  all_goals exact h

theorem changeLevel_quiet (i : Input) (level : Bool) {s : State} (h : s.quiet) : (changeLevel i level s).quiet := by
  have changed (v : Vector InputBlock 16) : ({ s with inputs := v } : State).quiet := quiet_frame (s := s) rfl rfl rfl h
  have recorded (b : Bool) (v : Vector InputBlock 16) : (recordLevel (s.inputConfig i).binding i level
      (if b then broadcast .input { s with inputs := v } else { s with inputs := v })).quiet := by
    refine recordLevel_quiet _ _ _ ?_
    split
    · exact broadcast_quiet _ (changed v)
    · exact changed v
  unfold changeLevel
  dsimp only
  split
  · exact actOnActive_quiet _ (recorded _ _)
  · exact recorded _ _

theorem qualify_quiet (i : Input) {s : State} (h : s.quiet) : (qualify i s).quiet := by
  unfold qualify
  dsimp only
  split
  · exact quiet_frame (by simp) (by simp) (by simp) h
  · split
    · exact changeLevel_quiet _ _ h
    · exact quiet_frame (by simp) (by simp) (by simp) h

theorem changePin_quiet (i : Input) (high : Bool) {s : State} (h : s.quiet) : (changePin i high s).quiet := by
  unfold changePin
  split
  · exact h
  · exact qualify_quiet i (quiet_frame (s := s) rfl rfl rfl h)

theorem debounceExpiry_quiet (i : Input) {s : State} (h : s.quiet) : (debounceExpiry i s).quiet := by
  unfold debounceExpiry
  split
  · exact changeLevel_quiet _ _ h
  · exact h

/-! ### Ports -/

theorem reportSilent_quiet (p : Port) {s : State} (h : s.quiet) : (reportSilent p s).quiet := by
  unfold reportSilent
  split
  · exact h
  · exact reportOrdinary_quieted _ _ _ _

theorem loseSignal_quiet (p : Port) (mid : Bool) {s : State} (h : s.quiet) : (loseSignal p mid s).quiet := by
  have lost (signals : Vector Bool 4) (ports : Vector PortBlock 4) :
      (resetIfLost p { s with signals := signals, ports := ports }).quiet :=
    quiet_frame (s := s) (by simp) (by simp) (by simp) h
  unfold loseSignal
  dsimp only
  split
  · exact h
  · split
    · exact reportSilent_quiet p (lost _ _)
    · exact lost _ _

theorem silenceExpiry_quiet (p : Port) {s : State} (h : s.quiet) : (silenceExpiry p s).quiet := by
  unfold silenceExpiry
  dsimp only
  split
  · exact reportOrdinary_quieted _ _ _ _
  · exact h

/-! ### Samples -/

theorem noteReadiness_quiet (c : Chan) (a b : Bool) {s : State} (h : s.quiet) : (noteReadiness c a b s).quiet := by
  unfold noteReadiness
  split
  · exact h
  · exact judgeWake_quiet (quiet_frame (s := s) rfl rfl rfl h)

theorem sampleChecks_quiet (c : Chan) (d : SampleData) {s : State} (h : s.quiet) : (sampleChecks c d s).quiet := by
  have tripped : (if tripLevel (vget s.consts.ceiling c) < largestPhase d.ia d.ib then
      detectTrip .overcurrent c (largestPhase d.ia d.ib) s else s).quiet := by
    split
    · exact detectTrip_quiet _ _ _ h
    · exact h
  unfold sampleChecks
  dsimp only
  split
  · exact detectTrip_quiet _ _ _ tripped
  · exact tripped

theorem chargeHeat_quiet (c : Chan) (heat : Nat) (above : Bool) {s : State} (h : s.quiet) :
    (chargeHeat c heat above s).quiet := by
  unfold chargeHeat
  dsimp only
  split
  · exact reportOrdinary_quieted _ _ _ _
  · exact quiet_frame (s := s) rfl rfl rfl h

theorem takeSample_quiet (c : Chan) (d : SampleData) {s : State} (h : s.quiet) : (takeSample c d s).quiet := by
  have kept : ({ s with engines := vset s.engines c ((s.eng c).keepSample d) } : State).quiet :=
    quiet_frame (s := s) rfl rfl rfl h
  have heated (heat : Nat) (above : Bool) := chargeHeat_quiet c heat above
    (sampleChecks_quiet c d (noteReadiness_quiet c (s.eng c).moduleReady d.ready kept))
  unfold takeSample
  exact quiet_frame (loopAndRecord_consts ..) (loopAndRecord_react ..) (loopAndRecord_auth ..)
    (quiet_frame (clearThermal_consts ..) (clearThermal_react ..) (clearThermal_auth ..) (heated _ _))

theorem receiveSample_quiet (c : Chan) (bytes : List Byte) {s : State} (h : s.quiet) : (receiveSample c bytes s).quiet := by
  unfold receiveSample
  split
  · exact h
  · split
    · exact takeSample_quiet _ _ h
    · exact h

/-! ### One engine's handling of a period start -/

theorem missStep_quiet (first : Bool) (c : Chan) {s : State} (h : s.quiet) : (missStep first c s).quiet := by
  unfold missStep
  dsimp only
  split
  · exact detectTrip_quiet _ _ _ (quiet_frame (s := s) rfl rfl rfl h)
  · exact quiet_frame (s := s) rfl rfl rfl h

theorem reportBrakes_quiet (wrong : Feedback) (l : List Chan) {s : State} (h : s.quiet) : (reportBrakes wrong l s).quiet :=
  reportBrakes_induct State.quiet wrong (fun _ _ _ => reportOrdinary_quieted _ _ _ _) l s h

/-- The end of a ramp or a stop enters OFF from a state that is not running. -/
theorem toOff_quiet (l : Chan) {s : State} (hs : (s.eng l).state.running = false) (h : s.quiet) : (toOff l s).quiet :=
  moveGroup_quiet l none (.inl (by rw [State.eng, vget_vset_self]; exact hs)) (quiet_frame (s := s) rfl rfl rfl h)

theorem rampStep_eng_state (l : Chan) (s : State) : ((rampStep l s).eng l).state = (s.eng l).state := by
  unfold rampStep
  dsimp only
  split
  · rfl
  · rw [State.eng, vget_vset_self]

theorem timerStep_quiet (l : Chan) {s : State} (h : s.quiet) : (timerStep l s).quiet := by
  have ramped : (rampStep l s).quiet := quiet_frame (by simp) (by simp) (by simp) h
  unfold timerStep
  dsimp only
  split
  · split
    · exact takeReactions_quieted _
    · split
      · exact takeReactions_quieted _
      · exact h
  · next hs =>
    split
    · exact h
    · split
      · refine moveGroup_quiet l _ (.inl ?_) (quiet_frame (by simp) (by simp) (by simp) h)
        rw [State.eng, recordStart_state, ← State.eng, hs]
        rfl
      · split
        · exact reportBrakes_quiet _ _ (quiet_frame (s := s) rfl rfl rfl h)
        · exact h
  · next hs =>
    split
    · exact toOff_quiet l (by rw [rampStep_eng_state, hs]; rfl) ramped
    · exact ramped
  · next hs =>
    split
    · exact reportDeparture_quiet (toOff_quiet l (by rw [rampStep_eng_state, hs]; rfl) ramped)
    · exact ramped
  all_goals exact h

theorem takeEntry_quiet (l : Chan) (x : Entry) {s : State} (h : s.quiet) : (takeEntry l x s).quiet := by
  unfold takeEntry closeHandover
  dsimp only
  split
  · exact takeReactions_quieted _
  · exact quiet_frame (s := s) (by simp) (by simp) (by simp) h

theorem countGap_quiet (l : Chan) {s : State} (h : s.quiet) : (countGap l s).quiet := by
  unfold countGap
  dsimp only
  split
  · exact reportOrdinary_quieted _ _ _ _
  · exact quiet_frame (s := s) rfl rfl rfl h

theorem queueStep_quiet (l : Chan) {s : State} (h : s.quiet) : (queueStep l s).quiet := by
  have running : (match s.headAt l with
      | some x => takeEntry l x s
      | none => if (s.auRec l).handover.isSome then s else countGap l s).quiet := by
    split
    · exact takeEntry_quiet l _ h
    · split
      · exact h
      · exact countGap_quiet l h
  unfold queueStep
  split
  · exact running
  · exact running
  · split
    · exact quiet_frame (s := s) rfl rfl rfl h
    · exact h
  all_goals exact h

theorem laterSteps_quiet (l : Chan) {s : State} (h : s.quiet) : (laterSteps l s).quiet :=
  queueStep_quiet l (timerStep_quiet l h)

theorem missSteps_quiet (first : Bool) (l : List Chan) {s : State} (h : s.quiet) : (missSteps first l s).quiet :=
  missSteps_induct State.quiet first (fun c _ hu => missStep_quiet first c hu) l s h

theorem engineStart_quiet (first : Bool) (l : Chan) {s : State} (h : s.quiet) : (engineStart first l s).quiet :=
  quiet_frame (substitutes_consts ..) (substitutes_react ..) (substitutes_auth ..) (laterSteps_quiet l (missSteps_quiet first _ h))

/-! ### The counts -/

theorem lockExpiryOf_quiet (l : Chan) {s : State} (h : s.quiet) : (lockExpiryOf l s).quiet := by
  unfold lockExpiryOf
  dsimp only
  split
  · exact takeReactions_quieted _
  · exact h

theorem handoverExpiryOf_quiet (l : Chan) {s : State} (h : s.quiet) : (handoverExpiryOf l s).quiet := by
  unfold handoverExpiryOf
  split
  · split
    · exact reportOrdinary_quieted _ _ _ _
    · exact h
  · exact h

theorem proposalExpiryOf_quiet (l : Chan) {s : State} (h : s.quiet) : (proposalExpiryOf l s).quiet :=
  quiet_frame (by simp) (by simp) (by simp) h

theorem pacingExpiry_quiet (p : Port) {s : State} (h : s.quiet) : (pacingExpiry p s).quiet :=
  quiet_frame (by simp) (by simp) (by simp) h

theorem overdueEngine_quiet (l : Chan) {s : State} (h : s.quiet) : (overdueEngine l s).quiet := by
  unfold overdueEngine
  split
  · exact laterSteps_quiet l h
  · exact h

theorem overdueWork_quiet (w : Work) {s : State} (h : s.quiet) : (overdueWork w s).quiet := by
  cases w with
  | engine c => exact overdueEngine_quiet c h
  | supply => exact h
  | lock c => exact lockExpiryOf_quiet c h
  | handover c => exact handoverExpiryOf_quiet c h
  | proposal c => exact proposalExpiryOf_quiet c h
  | linkTimer => exact linkTimerExpiry_quiet h
  | silence p => exact silenceExpiry_quiet p h
  | pacing p => exact pacingExpiry_quiet p h
  | debounce i => exact debounceExpiry_quiet i h

theorem takeHeld_quiet (l : Chan) {s : State} (h : s.quiet) : (takeHeld l s).quiet := by
  unfold takeHeld
  split
  · exact takeReactions_quieted _
  · exact h

/-- A wait for a take holds reactions back, and frees none. -/
theorem untilTake_quiet (l : Chan) {s : State} (h : s.quiet) :
    ({ s with react := { s.react with untilTake := vset s.react.untilTake l true } } : State).quiet := by
  refine h.imp id fun h x hx => ?_
  have free := h x hx
  have holds (c : Chan) : s.handoverHolds c = true →
      ({ s with react := { s.react with untilTake := vset s.react.untilTake l true } } : State).handoverHolds c = true := by
    unfold State.handoverHolds
    simp only [vget_vset, Bool.or_eq_true]
    rintro (hh | hu)
    · exact .inl hh
    · exact .inr (by split <;> simp [hu])
  unfold State.takeable at free ⊢
  simp only [Bool.or_eq_false_iff, Bool.and_eq_false_iff, Bool.not_eq_false'] at free ⊢
  refine ⟨free.1, free.2.imp_right fun hd => ?_⟩
  unfold State.deferred at hd ⊢
  cases hsc : x.scope
  · rw [hsc] at hd
    exact holds _ hd
  · rw [hsc] at hd
    simp only [List.any_eq_true] at hd ⊢
    obtain ⟨c, hc, hh⟩ := hd
    rw [Bool.and_eq_true] at hh
    exact ⟨c, hc, by rw [Bool.and_eq_true]; exact ⟨hh.1, holds c hh.2⟩⟩
  · rw [hsc] at hd
    exact hd
  · rw [hsc] at hd
    exact hd

theorem handoverAtStart_quiet (l : Chan) {s : State} (h : s.quiet) : (handoverAtStart l s).quiet := by
  unfold handoverAtStart
  split
  · exact handoverExpiryOf_quiet l (untilTake_quiet l h)
  · exact handoverExpiryOf_quiet l h

theorem runWork_quiet (first : Bool) (w : Work) {s : State} (h : s.quiet) : (runWork first w s).quiet := by
  cases w with
  | engine c =>
    refine takeHeld_quiet c ?_
    split
    · exact engineStart_quiet first c h
    · exact h
  | supply => exact supplyCheck_quiet first h
  | lock c => exact lockExpiryOf_quiet c h
  | handover c => exact handoverAtStart_quiet c h
  | proposal c => exact proposalExpiryOf_quiet c h
  | linkTimer => exact linkTimerExpiry_quiet h
  | silence p => exact silenceExpiry_quiet p h
  | pacing p => exact pacingExpiry_quiet p h
  | debounce i => exact debounceExpiry_quiet i h

theorem leaveWork_quiet (first : Bool) (w : Work) {s : State} (h : s.quiet) : (leaveWork first w s).quiet := by
  cases w with
  | engine c =>
    refine takeHeld_quiet c ?_
    split
    · split
      · exact missSteps_quiet first _ h
      · exact engineStart_quiet first c h
    · exact h
  | supply => exact supplyCheck_quiet first h
  | lock _ | handover _ | proposal _ | linkTimer | silence _ | pacing _ | debounce _ => exact h

theorem settle_quiet {s : State} (h : s.quiet) : (settle s).quiet := quiet_frame (by simp) (by simp) (by simp) h

theorem advance_quiet {s : State} (h : s.quiet) : (advance s).quiet :=
  quiet_same (s := s) rfl rfl (fun c => by simp [advance, AuthRecord.tick]) h

theorem periodStart_quiet (order later : List Work) {s : State} (h : s.quiet) : (periodStart order later s).quiet := by
  have overdue := overdueWorks_induct State.quiet (fun w _ hu => overdueWork_quiet w hu) (fun _ => settle_quiet) allWorks s h
  have begun : (sendMarks allChans (advance (overdueWorks allWorks s))).quiet :=
    quiet_frame (by simp) (by simp) (by simp) (advance_quiet overdue)
  have ran := runWorks_induct State.quiet (!s.started) (fun w _ hu => runWork_quiet _ w hu) (fun _ => settle_quiet)
    (worksInOrder order later) _ begun
  have left := leaveWorks_induct State.quiet (!s.started) (fun w _ hu => leaveWork_quiet _ w hu) (fun _ => settle_quiet)
    (later.eraseDups.filter fun w => !order.contains w) _ ran
  exact takeHelds_induct State.quiet (fun c _ hu => takeHeld_quiet c hu) allChans _ left

end Sys2Proof.Machine


namespace Sys2Proof.Machine

/-! ### Requests leave the Reaction Controller quiet -/

/-- The service of a request keeps what its owner keeps on the state with the request taken. -/
theorem serve_keeps {α : Type} {P : State → Prop} {p : Port} {code : Nat} {parse : List Byte → Option α}
    {owner : α → State → State × Reply} {s : State} (hput : ∀ n r u, P u → P (putAnswer p n false r u)) (h : P s)
    (hpop : P (popRequest p s)) (hown : ∀ a, P (owner a (popRequest p s)).1) : P (serve p code parse owner s) := by
  unfold serve
  split
  · exact h
  · split
    · exact h
    · split
      · exact hput _ _ _ hpop
      · exact hput _ _ _ (hown _)

theorem popRequest_quiet (p : Port) {s : State} (h : s.quiet) : (popRequest p s).quiet :=
  quiet_frame (by simp) (by simp) (by simp) h

theorem putAnswer_quiet (p : Port) (n : W16) (b : Bool) (r : Reply) {s : State} (h : s.quiet) : (putAnswer p n b r s).quiet :=
  quiet_frame (by simp) (by simp) (by simp) h

theorem serve_quiet {α : Type} {p : Port} {code : Nat} {parse : List Byte → Option α} {owner : α → State → State × Reply}
    {s : State} (h : s.quiet) (hown : ∀ a, (owner a (popRequest p s)).1.quiet) : (serve p code parse owner s).quiet :=
  serve_keeps (fun _ _ _ hu => putAnswer_quiet _ _ _ _ hu) h (popRequest_quiet p h) hown

/-- In CONFIG, where nothing is pending, a constant changes nothing that may be taken. -/
theorem writeConstantOwner_quiet (p : Port) (f : ConstFields) {s : State}
    (hrest : s.phase = .config → s.react.pendingSet = []) (h : s.quiet) : (writeConstantOwner p f s).1.quiet := by
  have stored (x : ConstName) (b : Binding) (i : Input) (k : Constants) (hc : s.inConfig = true) :
      (afterWrite x i b { s with consts := k }).quiet := by
    have empty : ({ s with consts := k } : State).quiet := quiet_of_empty (hrest (inConfig_eq_true.mp hc))
    unfold afterWrite
    split
    · exact qualify_quiet i empty
    · split
      · exact empty
      · exact recordLevel_quiet _ _ _ empty
    · exact empty
  unfold writeConstantOwner
  split
  · exact h
  · split
    · exact h
    · next hc =>
      split
      · exact h
      · split
        · exact h
        · split
          · exact h
          · exact stored _ _ _ _ (by simpa using hc)

theorem freezePart_pendingSet (s : State) : (freezePart s).react.pendingSet = s.react.pendingSet := by
  rw [freezePart_react, deliverLevels_react]
  rfl

theorem freezePart_inService (s : State) : (freezePart s).react.inService = s.react.inService := by
  rw [freezePart_react, deliverLevels_react]
  rfl

theorem freezePart_untilTake (s : State) : (freezePart s).react.untilTake = s.react.untilTake := by
  rw [freezePart_react, deliverLevels_react]
  rfl

theorem freezeOwner_quiet (p : Port) {s : State} (hrest : s.phase = .config → s.react.pendingSet = []) (h : s.quiet) :
    (freezeOwner p () s).1.quiet := by
  unfold freezeOwner
  split
  · exact h
  · split
    · exact h
    · next hc =>
      split
      · exact h
      · exact quiet_of_empty (by rw [freezePart_pendingSet, hrest (inConfig_eq_true.mp (by simpa using hc))])

/-- A claim's record, lock or waiting list changes no holder and ends no handover. -/
theorem record_quiet {l : Chan} {r : AuthRecord} {s : State} (hh : r.holder = (s.auRec l).holder)
    (ho : r.handover = (s.auRec l).handover) (h : s.quiet) : ({ s with auth := vset s.auth l r } : State).quiet :=
  quiet_same (s := s) rfl rfl
    (rel_vset (R := fun a b : AuthRecord => a.holder = b.holder ∧ a.handover.isSome = b.handover.isSome)
      (fun _ => ⟨rfl, rfl⟩) s.auth l ⟨hh, congrArg _ ho⟩) h

theorem claimOn_quiet (p : Port) (wait : Bool) (l : Chan) {s : State} (h : s.quiet) : (claimOn p wait l s).1.quiet := by
  unfold claimOn
  dsimp only
  split
  · exact h
  · split
    · exact h
    · split
      · exact h
      · exact takeReactions_quieted _
      · split
        · exact takeReactions_quieted _
        · split
          · exact record_quiet rfl rfl h
          · exact h

theorem claimOwner_quiet (p : Port) (f : Nat × Bool) {s : State} (h : s.quiet) : (claimOwner p f s).1.quiet := by
  have claimed := routed_keeps p f.1 (claimOn p f.2) h fun l _ => claimOn_quiet p f.2 l h
  unfold claimOwner
  dsimp only
  split
  · exact wakeLink_quiet claimed
  · exact claimed

theorem cancelOn_quiet (p : Port) (l : Chan) {s : State} (h : s.quiet) : (cancelOn p l s).1.quiet := by
  unfold cancelOn
  dsimp only
  split
  · exact h
  · exact record_quiet rfl rfl h

theorem releaseOn_quiet (p : Port) (l : Chan) {s : State} (h : s.quiet) : (releaseOn p l s).1.quiet := by
  unfold releaseOn
  split
  · exact takeReactions_quieted _
  · exact h

theorem lockOn_quiet (p : Port) (ms : Nat) (l : Chan) {s : State} (h : s.quiet) : (lockOn p ms l s).1.quiet := by
  unfold lockOn
  split
  · split
    · exact record_quiet rfl rfl h
    · exact h
  · exact h

theorem unlockOn_quiet (p : Port) (l : Chan) {s : State} (h : s.quiet) : (unlockOn p l s).1.quiet := by
  unfold unlockOn
  split
  · split
    · exact takeReactions_quieted _
    · exact h
  · exact h

theorem toReleasing_quiet (l : Chan) {s : State} (h : s.quiet) : (toReleasing l s).quiet :=
  moveGroup_quiet l _ (.inr rfl) (quiet_frame (by simp) (by simp) (by simp) h)

theorem engageOn_quiet (p : Port) (l : Chan) {s : State} (h : s.quiet) : (engageOn p l s).1.quiet := by
  unfold engageOn
  split
  · split
    · dsimp only
      split
      · exact wakeLink_quiet h
      · exact h
    · exact toReleasing_quiet l h
  · exact h

theorem disengageOn_quiet (p : Port) (l : Chan) {s : State} (h : s.quiet) : (disengageOn p l s).1.quiet := by
  unfold disengageOn
  split
  · split
    · exact takeReactions_quieted _
    · exact h
  · exact h

theorem toRamping_quiet {l : Chan} {s : State} (hs : (s.eng l).state = .holding) (h : s.quiet) : (toRamping l s).quiet := by
  refine moveGroup_quiet l _ (.inl ?_) (quiet_frame (by simp) (by simp) (by simp) h)
  rw [State.eng, recordStart_state, ← State.eng, hs]
  rfl

theorem forceRampOn_quiet (p : Port) (l : Chan) {s : State} (h : s.quiet) : (forceRampOn p l s).1.quiet := by
  unfold forceRampOn
  split
  · split
    · next hs => exact toRamping_quiet hs h
    · exact h
  · exact h

theorem clearTrips_quiet : ∀ (g : List Chan) {s : State}, s.quiet → (clearTrips g s).quiet
  | [], _, h => h
  | _ :: rest, s, h => clearTrips_quiet rest (quiet_frame (s := s) rfl rfl rfl h)

theorem clearMarks_quiet : ∀ (g : List Chan) {s : State}, s.quiet → (clearMarks g s).quiet
  | [], _, h => h
  | _ :: rest, s, h => clearMarks_quiet rest (quiet_frame (s := s) rfl rfl rfl h)

theorem clearTrips_state : ∀ (g : List Chan) (s : State) (c : Chan),
    ((clearTrips g s).eng c).state = (s.eng c).state
  | [], _, _ => rfl
  | d :: rest, s, c => by
    unfold clearTrips
    refine (clearTrips_state rest _ c).trans ?_
    simp only [State.eng, vget_vset]
    split
    · next hd => rw [hd]
    · rfl

theorem restoreOn_quiet (p : Port) (l : Chan) {s : State} (h : s.quiet) : (restoreOn p l s).1.quiet := by
  unfold restoreOn
  split
  · split
    · exact h
    · split
      · next hs =>
        split
        · exact h
        · exact toOff_quiet l (by rw [clearTrips_state, hs]; rfl) (clearTrips_quiet _ h)
      · exact clearMarks_quiet _ h
      all_goals exact h
  · exact h

theorem safeReleaseOn_quiet {s : State} (h : s.quiet) : (safeReleaseOn s).1.quiet := by
  unfold safeReleaseOn
  split
  · exact h
  · split
    · exact h
    · split
      · exact broadcast_quiet _ (quiet_of_sameHold (s := s) rfl rfl ⟨rfl, rfl, rfl, fun _ => ⟨rfl, rfl⟩⟩ h)
      · exact h

theorem setMaskOn_quiet (ns : List Nat) {s : State} (h : s.quiet) : (setMaskOn ns s).1.quiet := by
  unfold setMaskOn
  split
  · exact h
  · split
    · exact takeReactions_quieted _
    · exact h

theorem linkUpOn_quiet {s : State} (h : s.quiet) : (linkUpOn s).1.quiet := by
  unfold linkUpOn
  split
  · exact h
  · split
    · rw [withLinkState_fst]
      exact changeLink_quiet _ h
    · rw [withLinkState_fst]
      exact wakeLink_quiet h
    all_goals exact h

/-- A request that only an idle part obeys. -/
theorem whenIdle_quiet {s : State} (x : LinkState) (h : s.quiet) :
    (if s.allIdle then withLinkState (changeLink x s) else (s, .bare .state)).1.quiet := by
  split
  · rw [withLinkState_fst]
    exact changeLink_quiet _ h
  · exact h

theorem linkParkOn_quiet {s : State} (h : s.quiet) : (linkParkOn s).1.quiet := by
  unfold linkParkOn
  split
  case h_1 | h_2 => exact whenIdle_quiet _ h
  all_goals exact h

theorem linkDownOn_quiet {s : State} (h : s.quiet) : (linkDownOn s).1.quiet := by
  unfold linkDownOn
  split
  case h_6 | h_7 => exact h
  all_goals exact whenIdle_quiet _ h

theorem ackInputs_quiet : ∀ (l : List Input) {s : State}, s.quiet → (ackInputs l s).1.quiet
  | [], _, h => h
  | _ :: rest, s, h => ackInputs_quiet rest (quiet_frame (s := s) rfl rfl rfl h)

theorem inputAckOn_quiet (ns : List Nat) {s : State} (h : s.quiet) : (inputAckOn ns s).1.quiet := by
  unfold inputAckOn
  split
  · exact h
  · split
    · exact h
    · exact ackInputs_quiet _ h

theorem subscribeOwner_quiet (p : Port) (ns : List Nat) {s : State} (h : s.quiet) : (subscribeOwner p ns s).1.quiet := by
  unfold subscribeOwner
  split
  · exact h
  · split
    · exact quiet_frame (s := s) rfl rfl rfl h
    · exact h

theorem setPacingOwner_quiet (p : Port) (ms : Nat) {s : State} (h : s.quiet) : (setPacingOwner p ms s).1.quiet := by
  unfold setPacingOwner
  split
  · exact h
  · split
    · exact quiet_frame (s := s) rfl rfl rfl h
    · exact h

theorem demandOn_quiet (es : List RawEntry) (l : Chan) {s : State} (h : s.quiet) : (demandOn es l s).1.quiet := by
  unfold demandOn
  split
  · exact quiet_frame (s := s) rfl rfl rfl h
  · exact h

/-! ### Envelopes -/

theorem endProposal_quiet (l : Chan) (e : ProposalEnd) {s : State} (h : s.quiet) : (endProposal l e s).quiet :=
  quiet_frame (by simp) (by simp) (by simp) h

theorem setOpenOn_quiet (p : Port) (f : SetOpenFields) (l : Chan) {s : State} (h : s.quiet) : (setOpenOn p f l s).1.quiet := by
  have opened (v : Vector Envelope 8) : ({ s with envs := v } : State).quiet := quiet_frame (s := s) rfl rfl rfl h
  unfold setOpenOn
  dsimp only
  split
  · exact h
  · split
    · exact h
    · split
      · exact h
      · split
        · exact h
        · exact opened _

theorem proposeOn_quiet (p : Port) (f : ProposeFields) (l : Chan) {s : State} (h : s.quiet) : (proposeOn p f l s).1.quiet := by
  have proposed (v : Vector Envelope 8) : ({ s with envs := v } : State).quiet := quiet_frame (s := s) rfl rfl rfl h
  unfold proposeOn
  dsimp only
  split
  · exact h
  · split
    · exact h
    · split
      · exact h
      · split
        · exact h
        · split
          · exact h
          · exact handTo_quiet _ _ (proposed _)

theorem cancelProposalOn_quiet (p : Port) (l : Chan) {s : State} (h : s.quiet) : (cancelProposalOn p l s).1.quiet := by
  unfold cancelProposalOn
  split
  · split
    · exact endProposal_quiet _ _ h
    · exact h
  · exact h

theorem commitProposal_quiet (l : Chan) (x : Proposal) {s : State} (h : s.quiet) : (commitProposal l x s).quiet :=
  endProposal_quiet l .confirmed (quiet_frame (s := s) rfl rfl rfl h)

theorem serveUnknown_quiet (p : Port) {s : State} (h : s.quiet) : (serveUnknown p s).quiet := by
  unfold serveUnknown
  split
  · exact h
  · split
    · exact putAnswer_quiet _ _ _ _ (popRequest_quiet _ h)
    · exact h

theorem serveReset_quiet (p : Port) {s : State} (h : s.quiet) : (serveReset p s).quiet := by
  have popped := popRequest_quiet p h
  have armed : (armReset p (popRequest p s)).quiet := quiet_frame (s := popRequest p s) rfl rfl rfl popped
  unfold serveReset
  split
  · exact h
  · split
    · exact h
    · split
      · exact putAnswer_quiet _ _ _ _ popped
      · split
        · exact putAnswer_quiet _ _ _ _ armed
        · exact putAnswer_quiet _ _ _ _ popped

/-! ### Every command -/

theorem resetTo_quiet (kind : ResetKind) (k : Constants) (r : Option SevereFault) (pins : Pins) (s : State) :
    (resetTo kind k r pins s).quiet := quiet_of_empty (by rw [resetTo_react]; rfl)

/-- Every command leaves a reaction in service or no pending entry takeable. -/
theorem exec_quiet {i : Instr} {s t : State} (hrest : s.phase = .config → s.react.pendingSet = []) (h : s.quiet)
    (he : exec i s = .next t) : t.quiet := by
  have ended {u : State} (he : done u = .next t) (hu : u.quiet) : t.quiet := by
    rw [← Host.Outcome.next.inj he]
    exact settle_quiet hu
  have idle (he : Host.Outcome.next s = (.next t : Host.Outcome State Fault Refusal)) : t.quiet := by
    rw [← Host.Outcome.next.inj he]
    exact h
  have popped (p : Port) := popRequest_quiet p h
  have rests (p : Port) : (popRequest p s).phase = .config → (popRequest p s).react.pendingSet = [] := by
    rw [popRequest_phase, popRequest_react]
    exact hrest
  have routed (p : Port) (tag : Nat) (own : Chan → State → State × Reply)
      (hown : ∀ l, (own l (popRequest p s)).1.quiet) := routed_keeps p tag own (popped p) fun l _ => hown l
  cases i with
  | periodStart order later =>
    change execPeriodStart order later s = _ at he
    unfold execPeriodStart at he
    split at he
    · exact idle he
    · exact ended he (periodStart_quiet order later h)
  | brakeTimerExpiry c =>
    change execBrakeTimerExpiry c s = _ at he
    unfold execBrakeTimerExpiry at he
    split at he
    case h_1 | h_2 => exact ended he (overdueEngine_quiet c h)
    all_goals exact idle he
  | rampCountExpiry c =>
    change execRampCountExpiry c s = _ at he
    unfold execRampCountExpiry at he
    split at he
    · exact ended he (overdueEngine_quiet c h)
    all_goals exact idle he
  | stopCountExpiry c =>
    change execStopCountExpiry c s = _ at he
    unfold execStopCountExpiry at he
    split at he
    · exact ended he (overdueEngine_quiet c h)
    all_goals exact idle he
  | lockExpiry c => exact ended he (lockExpiryOf_quiet c h)
  | handoverDeadline c => exact ended he (handoverExpiryOf_quiet c h)
  | proposalExpiry c => exact ended he (proposalExpiryOf_quiet c h)
  | chargeTimerExpiry => exact ended he (chargeExpiry_quiet h)
  | settleTimerExpiry => exact ended he (settleExpiry_quiet h)
  | wakeTimerExpiry => exact ended he (wakeExpiry_quiet h)
  | sampleRecord c bytes => exact ended he (receiveSample_quiet c bytes h)
  | supplyRecord bytes => exact ended he (receiveSupply_quiet bytes h)
  | frameReceived p bytes => exact ended he (quiet_frame (receiveFrame_consts ..) (receiveFrame_react ..) (receiveFrame_auth ..) h)
  | linkSignalGained p => exact ended he (quiet_frame (gainSignal_consts ..) (gainSignal_react ..) (gainSignal_auth ..) h)
  | linkSignalLost p mid => exact ended he (loseSignal_quiet p mid h)
  | silenceTimerExpiry p => exact ended he (silenceExpiry_quiet p h)
  | transmissionComplete p => exact ended he (quiet_frame (completeSend_consts ..) (completeSend_react ..) (completeSend_auth ..) h)
  | pacingTimerExpiry p => exact ended he (pacingExpiry_quiet p h)
  | pinChange j high => exact ended he (changePin_quiet j high h)
  | debounceCountExpiry j => exact ended he (debounceExpiry_quiet j h)
  | unknownRequest p => exact ended he (serveUnknown_quiet p h)
  | queryPart p => exact ended he (serve_quiet h fun _ => popped p)
  | writeConstant p => exact ended he (serve_quiet h fun f => writeConstantOwner_quiet p f (rests p) (popped p))
  | readConstant p => exact ended he (serve_quiet h fun f => readConstantOwner_keeps p f (popped p))
  | freeze p => exact ended he (serve_quiet h fun _ => freezeOwner_quiet p (rests p) (popped p))
  | resetPart p => exact ended he (serveReset_quiet p h)
  | claim p => exact ended he (serve_quiet h fun f => claimOwner_quiet p f (popped p))
  | cancelClaim p => exact ended he (serve_quiet h fun tag => routed p tag (cancelOn p) fun l => cancelOn_quiet p l (popped p))
  | release p => exact ended he (serve_quiet h fun tag => routed p tag (releaseOn p) fun l => releaseOn_quiet p l (popped p))
  | lock p => exact ended he (serve_quiet h fun f => routed p f.1 (lockOn p f.2) fun l => lockOn_quiet p f.2 l (popped p))
  | unlock p => exact ended he (serve_quiet h fun tag => routed p tag (unlockOn p) fun l => unlockOn_quiet p l (popped p))
  | queryAuthority p => exact ended he (serve_quiet h fun tag => routed p tag _ fun _ => popped p)
  | engage p => exact ended he (serve_quiet h fun tag => routed p tag (engageOn p) fun l => engageOn_quiet p l (popped p))
  | disengage p => exact ended he (serve_quiet h fun tag => routed p tag (disengageOn p) fun l => disengageOn_quiet p l (popped p))
  | forceRamp p => exact ended he (serve_quiet h fun tag => routed p tag (forceRampOn p) fun l => forceRampOn_quiet p l (popped p))
  | restore p => exact ended he (serve_quiet h fun tag => routed p tag (restoreOn p) fun l => restoreOn_quiet p l (popped p))
  | queryChannel p => exact ended he (serve_quiet h fun tag => routed p tag _ fun _ => popped p)
  | demand p =>
    exact ended he (serve_quiet h fun f => routed p f.tag (asHolder p f.epoch (demandOn f.entries)) fun l =>
      asHolder_keeps p f.epoch _ l (popped p) fun _ => demandOn_quiet f.entries l (popped p))
  | retract p =>
    exact ended he (serve_quiet h fun f => routed p f.tag (asHolder p f.epoch (retractOn f.stamp)) fun l =>
      asHolder_keeps p f.epoch _ l (popped p) fun _ => quiet_frame (s := popRequest p s) rfl rfl rfl (popped p))
  | flush p =>
    exact ended he (serve_quiet h fun f => routed p f.1 (asHolder p (BitVec.ofNat 16 f.2) flushOn) fun l =>
      asHolder_keeps p _ flushOn l (popped p) fun _ => quiet_frame (s := popRequest p s) rfl rfl rfl (popped p))
  | queryQueue p => exact ended he (serve_quiet h fun tag => routed p tag _ fun _ => popped p)
  | setOpen p => exact ended he (serve_quiet h fun f => routed p f.tag (setOpenOn p f) fun l => setOpenOn_quiet p f l (popped p))
  | propose p => exact ended he (serve_quiet h fun f => routed p f.tag (proposeOn p f) fun l => proposeOn_quiet p f l (popped p))
  | cancelProposal p =>
    exact ended he (serve_quiet h fun tag => routed p tag (cancelProposalOn p) fun l => cancelProposalOn_quiet p l (popped p))
  | confirm p =>
    exact ended he (serve_quiet h fun f => routed p f.1 (confirmOn p f.2) fun l => answering_keeps p f.2 _ l (popped p)
      fun x _ _ => commitProposal_quiet l x (popped p))
  | reject p =>
    exact ended he (serve_quiet h fun f => routed p f.1 (rejectOn p f.2) fun l => answering_keeps p f.2 _ l (popped p)
      fun _ _ _ => endProposal_quiet l .rejected (popped p))
  | queryEnvelope p => exact ended he (serve_quiet h fun tag => routed p tag _ fun _ => popped p)
  | linkUp p => exact ended he (serve_quiet h fun _ => fromRanked_keeps (own := linkUpOn) (popped p) fun _ => linkUpOn_quiet (popped p))
  | linkPark p => exact ended he (serve_quiet h fun _ => fromRanked_keeps (own := linkParkOn) (popped p) fun _ => linkParkOn_quiet (popped p))
  | linkDown p => exact ended he (serve_quiet h fun _ => fromRanked_keeps (own := linkDownOn) (popped p) fun _ => linkDownOn_quiet (popped p))
  | queryLink p => exact ended he (serve_quiet h fun _ => frozenRead_keeps (popped p))
  | safeStop p =>
    refine ended he (serve_quiet h fun _ => fromSafety_keeps (own := safeStopOn) (popped p) fun _ _ => ?_)
    rw [safeStopOn_fst]
    exact detectSafeStop_quieted _
  | safeRelease p =>
    exact ended he (serve_quiet h fun _ => fromSafety_keeps (own := safeReleaseOn) (popped p) fun _ _ => safeReleaseOn_quiet (popped p))
  | setMask p =>
    exact ended he (serve_quiet h fun ns => fromSafety_keeps (own := setMaskOn ns) (popped p) fun _ _ => setMaskOn_quiet ns (popped p))
  | queryFaults p => exact ended he (serve_quiet h fun _ => frozenRead_keeps (popped p))
  | inputAck p =>
    exact ended he (serve_quiet h fun ns => fromRanked_keeps (own := inputAckOn ns) (popped p) fun _ => inputAckOn_quiet ns (popped p))
  | queryInputs p => exact ended he (serve_quiet h fun _ => frozenRead_keeps (popped p))
  | subscribe p => exact ended he (serve_quiet h fun ns => subscribeOwner_quiet p ns (popped p))
  | setPacing p => exact ended he (serve_quiet h fun ms => setPacingOwner_quiet p ms (popped p))
  | powerOn pins | line pins =>
    rw [← Host.Outcome.next.inj he]
    exact resetTo_quiet ..
  | commanded pins =>
    change execCommanded pins s = _ at he
    unfold execCommanded at he
    split at he
    · rw [← Host.Outcome.next.inj he]
      exact resetTo_quiet ..
    all_goals exact idle he

end Sys2Proof.Machine


namespace Sys2Proof.Machine

/-! ### Nothing is pending and nothing counts in CONFIG (07, R156; 02, R30; 09, R167) -/

def State.idleInConfig (s : State) : Prop :=
  s.phase = .config → s.react.inService = none ∧ s.react.pendingSet = [] ∧ (∀ c, (s.auRec c).handover = none) ∧
    ∀ p, (s.port p).silence = none

theorem idleInConfig_of_operating {s : State} (hop : s.phase = .operating) : s.idleInConfig := fun hc => by
  rw [hop] at hc
  cases hc

theorem idleInConfig_of_follows {s t : State} (hx : t.phase = s.phase)
    (hi : s.react.inService = none → t.react.inService = none) (hp : s.react.pendingSet = [] → t.react.pendingSet = [])
    (ha : ∀ c, (vget s.auth c).handover = none → (vget t.auth c).handover = none)
    (hs : ∀ p, (vget s.ports p).silence = none → (vget t.ports p).silence = none) (h : s.idleInConfig) : t.idleInConfig :=
  fun hc => by
    obtain ⟨serve, pending, handover, silence⟩ := h (hx ▸ hc)
    exact ⟨hi serve, hp pending, fun c => ha c (handover c), fun p => hs p (silence p)⟩

/-- Something in service, pending or counting shows that the part operates. -/
theorem operating_of_idleInConfig {s : State} (h : s.idleInConfig)
    (ha : (∃ i, s.react.inService = some i) ∨ (∃ x, x ∈ s.react.pendingSet) ∨ s.countsDown) : s.phase = .operating := by
  cases hx : s.phase with
  | operating => rfl
  | config =>
    obtain ⟨serve, pending, handover, silence⟩ := h hx
    rcases ha with ⟨i, hi⟩ | ⟨x, hx⟩ | ⟨c, hc⟩ | ⟨p, hp⟩
    · rw [serve] at hi
      cases hi
    · rw [pending] at hx
      cases hx
    · exact absurd (handover c) hc
    · exact absurd (silence p) hp

theorem idleInConfig_same {s t : State} (hx : t.phase = s.phase) (hr : t.react = s.react) (ha : t.auth = s.auth)
    (hp : t.ports = s.ports) (h : s.idleInConfig) : t.idleInConfig :=
  idleInConfig_of_follows hx (by rw [hr]; exact id) (by rw [hr]; exact id) (by rw [ha]; exact fun _ => id)
    (by rw [hp]; exact fun _ => id) h

theorem broadcast_idleInConfig (k : NoticeKind) {s : State} (h : s.idleInConfig) : (broadcast k s).idleInConfig :=
  idleInConfig_of_follows (by simp) (by simp) (by simp) (by simp) (fun p => (broadcast_sameLine k s p).2.1.trans) h

theorem toOff_idleInConfig (l : Chan) {s : State} (h : s.idleInConfig) : (toOff l s).idleInConfig := by
  refine moveGroup_keeps (idleInConfig_same (s := s) rfl rfl rfl rfl h)
    (fun c u hu => idleInConfig_same (by simp) (by simp) (by simp) (by simp) hu) (fun u hu => ?_)
    fun _ hu => broadcast_idleInConfig _ hu
  exact idleInConfig_of_follows (s := u) rfl id id
    (rel_vset (R := fun a b : AuthRecord => b.handover = none → a.handover = none) (fun _ => id) u.auth l fun _ => rfl)
    (fun _ => id) hu

/-- No head is installed in CONFIG, where no claim waits: the part is left free. -/
theorem installHead_idleInConfig (l : Chan) {s : State} (hx : s.phaseOk) (h : s.idleInConfig) :
    (installHead l s).idleInConfig := by
  cases hc : s.phase with
  | operating => exact idleInConfig_of_operating (by simpa using hc)
  | config =>
    obtain ⟨hoff, -, hwait, -⟩ := (hx.2 hc).1 l
    have freed : installHead l s =
        { s with auth := vset s.auth l (heldBy s l none), queues := vset s.queues l (s.queue l).passed } := by
      unfold installHead changeHolder
      rw [hwait, hoff]
      rfl
    rw [freed]
    exact idleInConfig_of_follows (s := s) rfl id id
      (rel_vset (R := fun a b : AuthRecord => b.handover = none → a.handover = none) (fun _ => id) s.auth l fun _ => rfl)
      (fun _ => id) h

theorem kept_idle : Kept (fun s => s.phaseOk ∧ s.idleInConfig) (fun x => x = .operating) (fun x => x = .operating) where
  live h hm := phaseOk_live h.1 hm
  reports := id
  counts h hc := operating_of_idleInConfig h.2 (.inr (.inr hc))
  free _ _ _ _ _ h := h
  ports := by
    intro s v hv h
    exact ⟨kept_phase.ports v hv h.1, idleInConfig_of_follows (s := s) rfl id id (fun _ => id) (fun p => (hv p).2.1.trans) h.2⟩
  line := by
    intro s p b signal hb h
    refine ⟨kept_phase.line p b signal hb h.1, ?_⟩
    by_cases hs : b.silence = none
    · exact idleInConfig_of_follows (s := s) rfl id id (fun _ => id)
        (rel_vset (R := fun a b : PortBlock => b.silence = none → a.silence = none) (fun _ => id) s.ports p fun _ => hs) h.2
    · exact idleInConfig_of_operating (s := { s with signals := _, ports := _ }) (hb.2.2.1 hs).2
  queues v hv h := ⟨kept_phase.queues v hv h.1, h.2⟩
  engines v hv h := ⟨kept_phase.engines v hv h.1, h.2⟩
  envs v hv h := ⟨kept_phase.envs v hv h.1, h.2⟩
  auth := by
    intro s v hv h
    exact ⟨kept_phase.auth v hv h.1, idleInConfig_of_follows (s := s) rfl id id (fun c => (hv c).2.2.2) (fun _ => id) h.2⟩
  link b hb h := ⟨kept_phase.link b hb h.1, h.2⟩
  react := by
    intro s r hr h
    obtain ⟨hpending, hserve, -⟩ := hr
    exact ⟨h.1, idleInConfig_of_follows (s := s) rfl hserve.trans hpending.trans (fun _ => id) (fun _ => id) h.2⟩
  budget b h := ⟨kept_phase.budget b h.1, idleInConfig_same (by simp) (by simp) (by simp) (by simp) h.2⟩
  request c r hg h := ⟨kept_phase.request c r hg h.1, idleInConfig_same (by simp) (by simp) (by simp) (by simp) h.2⟩
  toOff l h := ⟨toOff_phaseOk l h.1, toOff_idleInConfig l h.2⟩
  toRun := by
    intro s l hs h
    have hop := phaseOk_engine h.1 (by rw [hs]; decide)
    exact ⟨kept_phase.toRun l hs h.1, idleInConfig_of_operating (by simpa using hop)⟩
  toHolding := by
    intro s l hs h
    have hop := phaseOk_engine h.1 (l := l) (by rintro ho; rw [ho] at hs; revert hs; decide)
    exact ⟨kept_phase.toHolding l hs h.1, idleInConfig_of_operating (by simpa using hop)⟩
  toRamping := by
    intro s l hs h
    have hop := phaseOk_engine h.1 (by rw [hs]; decide)
    exact ⟨kept_phase.toRamping l hs h.1, idleInConfig_of_operating (by simpa using hop)⟩
  toTripped l k d hop h := ⟨kept_phase.toTripped l k d hop h.1, idleInConfig_of_operating (by simpa using hop)⟩
  installHead l h := ⟨installHead_phaseOk l h.1, installHead_idleInConfig l h.1 h.2⟩
  enterLink x hx hr h := ⟨kept_phase.enterLink x hx hr h.1, idleInConfig_same (by simp) (by simp) (by simp) (by simp) h.2⟩
  drain := by
    intro s k hop h
    refine ⟨kept_phase.drain k hop h.1, idleInConfig_of_operating ?_⟩
    split <;> simpa using hop
  stops hop h := ⟨kept_phase.stops hop h.1, idleInConfig_of_operating (by simpa using hop)⟩
  pend _ _ _ _ _ hop h := ⟨h.1, idleInConfig_of_operating hop⟩
  drop := by
    intro s l hl h
    exact ⟨h.1, idleInConfig_of_follows (s := s) rfl id (fun hp => List.sublist_nil.mp (hp ▸ hl)) (fun _ => id) (fun _ => id) h.2⟩
  serve := by
    intro s x l _ hx _ _ h
    have hop := operating_of_idleInConfig h.2 (.inr (.inl ⟨x, hx⟩))
    exact ⟨h.1, idleInConfig_of_operating hop⟩
  endLink := by
    intro s k hi h
    obtain ⟨i, hi, -⟩ := hi
    have hop := operating_of_idleInConfig h.2 (.inl ⟨i, hi⟩)
    exact ⟨h.1, idleInConfig_of_operating hop⟩
  endStop := by
    intro s e hi h
    refine ⟨kept_phase.endStop e hi h.1, idleInConfig_of_operating ?_⟩
    obtain ⟨i, hi, -⟩ := hi
    rw [endSafeStop_phase]
    exact operating_of_idleInConfig h.2 (.inl ⟨i, hi⟩)
  holdRepeat hi h := ⟨h.1, h.2⟩

theorem idle_own (i : Instr) : OwnKept (fun s => s.phaseOk ∧ s.idleInConfig) i := by
  have fresh (kind : ResetKind) (k : Constants) (r : Option SevereFault) (pins : Pins) (s : State) :
      (resetTo kind k r pins s).idleInConfig := fun _ => by
    rw [resetTo_react]
    refine ⟨rfl, rfl, fun c => ?_, fun p => ?_⟩
    · rw [State.auRec, resetTo_auth]
      rfl
    · rw [State.port, resetTo_port]
      rfl
  cases i with
  | periodStart order later =>
    refine fun s hop h => kept_idle.periodStart (fun _ _ h => h) order later
      (fun u hu h => ⟨phaseOk_of_operating hu rfl rfl h.1, idleInConfig_of_operating hu⟩) hop h
  | writeConstant p => exact fun s k hp hc h => ⟨phaseOk_own (.writeConstant p) s k hp hc h.1, h.2⟩
  | freeze p =>
    exact fun s hp hx hf h => ⟨phaseOk_own (.freeze p) s hp hx hf h.1, idleInConfig_of_operating (freezePart_phase s)⟩
  | claim p =>
    intro s l hr hrank hh hw h
    obtain ⟨hgrant, hwait⟩ := phaseOk_own (.claim p) s l hr hrank hh hw h.1
    exact ⟨⟨hgrant, idleInConfig_of_operating (by rw [changeHolder_phase]; exact hr.1)⟩,
      fun old ho => ⟨hwait old ho, idleInConfig_of_operating hr.1⟩⟩
  | engage p =>
    exact fun s l hr hh hf h =>
      ⟨phaseOk_own (.engage p) s l hr hh hf h.1, idleInConfig_of_operating (by rw [toReleasing_phase]; exact hr.1)⟩
  | demand p => exact fun s l es hr hh hd h => ⟨phaseOk_own (.demand p) s l es hr hh hd h.1, h.2⟩
  | propose p => exact fun s l f w hr hp hf h => ⟨phaseOk_own (.propose p) s l f w hr hp hf h.1, h.2⟩
  | confirm p => exact fun s l x _ _ h => h
  | safeRelease p => exact fun s _ _ h => h
  | powerOn pins => exact fun s h => ⟨phaseOk_own (.powerOn pins) s h.1, fresh _ _ _ _ _⟩
  | line pins => exact fun s h => ⟨phaseOk_own (.line pins) s h.1, fresh _ _ _ _ _⟩
  | commanded pins => exact fun s h => ⟨phaseOk_own (.commanded pins) s h.1, fresh _ _ _ _ _⟩
  | _ => trivial

/-! ### No wait for a take outlasts its command (log 31) -/

def State.takesWith (v : Vector Bool 8) (s : State) : Prop := s.react.untilTake = v

theorem keptMoves_takesWith (v : Vector Bool 8) : KeptMoves (State.takesWith v) where
  free _ _ _ _ _ h := h
  ports _ _ h := h
  line _ _ _ _ h := h
  queues _ _ h := h
  engines _ _ h := h
  envs _ _ h := h
  auth _ h := h
  link _ _ h := h
  react _ hr _ h := hr.trans h
  budget b h := by
    unfold State.takesWith at *
    simpa using h
  request c r _ h := h
  move l new timer _ h := by
    unfold State.takesWith at *
    simpa using h
  enterLink x h := by
    unfold State.takesWith at *
    simpa using h

theorem takeReactions_untilTake (s : State) : (takeReactions s).react.untilTake = s.react.untilTake :=
  (keptMoves_takesWith _).kept.takeReactions rfl

theorem takeHeld_untilTake (l : Chan) (s : State) (c : Chan) :
    vget (takeHeld l s).react.untilTake c = if l = c then false else vget s.react.untilTake c := by
  unfold takeHeld
  split
  · rw [takeReactions_untilTake]
    simp only [vget_vset]
  · next h =>
    split
    · next hc => rw [← hc]; simpa using h
    · rfl

theorem takeHelds_untilTake : ∀ (l : List Chan) (s : State) (c : Chan),
    vget (takeHelds l s).react.untilTake c = if c ∈ l then false else vget s.react.untilTake c
  | [], _, _ => by simp [takeHelds]
  | d :: rest, s, c => by
    rw [takeHelds, takeHelds_untilTake, takeHeld_untilTake]
    by_cases hc : d = c
    · simp [hc]
    · simp [hc, Ne.symm hc]

/-- No reaction is held back for a take. -/
def State.noneWaits (s : State) : Prop := ∀ c, vget s.react.untilTake c = false

theorem noneWaits_of_untilTake {s t : State} (h : t.react.untilTake = s.react.untilTake) (hs : s.noneWaits) : t.noneWaits :=
  fun c => by rw [h]; exact hs c

theorem noneWaits_own (v : Vector Bool 8) (hv : ∀ c, vget v c = false) (i : Instr) (hi : ∀ order later, i ≠ .periodStart order later) :
    OwnKept (State.takesWith v) i := by
  cases i with
  | periodStart order later => exact absurd rfl (hi order later)
  | writeConstant p => exact fun s k _ _ h => h
  | freeze p => exact fun s _ _ _ h => (freezePart_untilTake s).trans h
  | claim p => exact fun s l _ _ _ _ h => ⟨(keptMoves_takesWith v).changeHolder l _ h, fun old _ => h⟩
  | engage p => exact fun s l _ _ _ h => (by rw [State.takesWith, toReleasing_react]; exact h)
  | demand p => exact fun s l es _ _ _ h => h
  | propose p => exact fun s l f w _ _ _ h => h
  | confirm p => exact fun s l x _ _ h => h
  | safeRelease p => exact fun s _ _ h => h
  | powerOn pins | line pins | commanded pins =>
    refine fun s _ => ?_
    rw [State.takesWith, resetTo_react]
    exact vec_ext fun c => by simp [ReactionBlock.initial, hv]
  | _ => trivial

theorem exec_noneWaits {i : Instr} {s t : State} (h : s.noneWaits) (he : exec i s = .next t) : t.noneWaits := by
  have others (hi : ∀ order later, i ≠ .periodStart order later) : t.noneWaits :=
    noneWaits_of_untilTake (s := s)
      (exec_next_kept (keptMoves_takesWith s.react.untilTake).kept (noneWaits_own _ h i hi) rfl he) h
  cases i with
  | periodStart order later =>
    change execPeriodStart order later s = _ at he
    unfold execPeriodStart at he
    split at he
    · rw [← Host.Outcome.next.inj he]
      exact h
    · rw [← Host.Outcome.next.inj he]
      refine noneWaits_of_untilTake (s := periodStart order later s) (by rw [settle_react]) fun c => ?_
      unfold periodStart
      rw [takeHelds_untilTake, if_pos (mem_allChans c)]
  | _ => exact others fun _ _ => nofun

/-! ### The taking's condition -/

theorem takingOk_iff {s : State} : s.takingOk ↔ s.idleInConfig ∧ s.quiet ∧ s.noneWaits := by
  have quiet : s.quiet ↔ (s.react.inService = none → ∀ x ∈ s.react.pendingSet, s.takeable x = false) := by
    unfold State.quiet
    cases s.react.inService <;> simp
  rw [quiet]
  rfl

theorem step_takingOk {s t : State} (hx : s.phaseOk) (h : s.takingOk) (hs : step s = .next t) : t.takingOk := by
  obtain ⟨hidle, hquiet, hnone⟩ := takingOk_iff.mp h
  rcases step_of_exec hs with rfl | ⟨i, rest, -, he⟩
  · exact h
  have frame : (s.withQueue rest).quiet := quiet_frame (s := s) rfl rfl rfl hquiet
  exact takingOk_iff.mpr
    ⟨(step_kept kept_idle (fun _ _ h => h) (fun i _ _ => idle_own i) ⟨hx, hidle⟩ hs).2,
      exec_quiet (s := s.withQueue rest) (fun hc => (hidle hc).2.1) frame he,
      exec_noneWaits (s := s.withQueue rest) hnone he⟩

/-- Settles O54: what changes a holder, ends a handover or pends a report ends in a taking, and the rest changes nothing
that may be taken. -/
theorem stepsKeepThePendingSet : Obligations.StepsKeepThePendingSet :=
  ⟨fun _ _ h hs => step_reactionsOk h hs, fun _ _ hx h hs => step_takingOk hx h hs⟩

end Sys2Proof.Machine


namespace Sys2Proof.Machine

/-! ### A queue in its order (03, R49, R53) -/

/-- At most 16 entries in the order of their stamps, each at a distance of `n` to 64 periods. -/
def soundFrom (n : Nat) (judged : W32) (q : List Entry) : Prop :=
  q.length ≤ 16 ∧ q.Pairwise (fun x y => distance judged x.stamp < distance judged y.stamp) ∧
    ∀ x ∈ q, n ≤ distance judged x.stamp ∧ distance judged x.stamp ≤ 64

theorem soundFrom_nil (n : Nat) (judged : W32) : soundFrom n judged [] :=
  ⟨Nat.zero_le _, List.Pairwise.nil, fun _ hx => absurd hx List.not_mem_nil⟩

theorem soundFrom_sublist {n : Nat} {judged : W32} {q r : List Entry} (hs : r.Sublist q) (h : soundFrom n judged q) :
    soundFrom n judged r := by
  obtain ⟨hlen, hpair, hnear⟩ := h
  exact ⟨Nat.le_trans hs.length_le hlen, hpair.sublist hs, fun x hx => hnear x (hs.subset hx)⟩

theorem soundFrom_le {n m : Nat} {judged : W32} {q : List Entry} (hm : m ≤ n) (h : soundFrom n judged q) :
    soundFrom m judged q := ⟨h.1, h.2.1, fun x hx => ⟨Nat.le_trans hm (h.2.2 x hx).1, (h.2.2 x hx).2⟩⟩

theorem distance_eq_zero {judged stamp : W32} : distance judged stamp = 0 ↔ stamp = judged := by
  unfold distance
  constructor <;> intro h <;> bv_omega

/-- An entry that is not stamped with the period is not at distance 0 (03, R49). -/
theorem soundFrom_one {judged : W32} {q : List Entry} (h : soundFrom 0 judged q) (hq : ∀ x ∈ q, x.stamp ≠ judged) :
    soundFrom 1 judged q :=
  ⟨h.1, h.2.1, fun x hx => ⟨Nat.one_le_iff_ne_zero.mpr fun hd => hq x hx (distance_eq_zero.mp hd), (h.2.2 x hx).2⟩⟩

/-- Past the head every entry lies later. -/
theorem soundFrom_tail {judged : W32} {q : List Entry} (h : soundFrom 0 judged q) : soundFrom 1 judged q.tail := by
  cases q with
  | nil => exact soundFrom_nil _ _
  | cons y rest =>
    obtain ⟨hlen, hpair, hnear⟩ := soundFrom_sublist (List.sublist_cons_self y rest) h
    exact ⟨hlen, hpair, fun x hx => ⟨Nat.one_le_of_lt (List.rel_of_pairwise_cons h.2.1 hx), (hnear x hx).2⟩⟩

/-- With no entry of this period at the head there is none at all: the head is the nearest. -/
theorem soundFrom_of_head {judged : W32} {q : List Entry} (h : soundFrom 0 judged q)
    (hh : q.head?.filter (fun x => decide (x.stamp = judged)) = none) : soundFrom 1 judged q := by
  cases q with
  | nil => exact soundFrom_nil _ _
  | cons y rest =>
    refine soundFrom_one h fun x hx he => ?_
    rcases List.mem_cons.mp hx with rfl | hx
    · simp [Option.filter, he] at hh
    · have := List.rel_of_pairwise_cons h.2.1 hx
      rw [distance_eq_zero.mpr he] at this
      exact absurd this (Nat.not_lt_zero _)

/-- A period that advances brings every entry one nearer. -/
theorem soundFrom_advance {judged : W32} {q : List Entry} (h : soundFrom 1 judged q) : soundFrom 0 (judged + 1) q := by
  obtain ⟨hlen, hpair, hnear⟩ := h
  have nearer {stamp : W32} (hs : 1 ≤ distance judged stamp) : distance (judged + 1) stamp + 1 = distance judged stamp := by
    unfold distance at *
    bv_omega
  refine ⟨hlen, hpair.imp_of_mem fun {x y} hx hy hxy => ?_, fun x hx => ?_⟩
  · have := nearer (hnear x hx).1
    have := nearer (hnear y hy).1
    omega
  · have := nearer (hnear x hx).1
    have := (hnear x hx).2
    omega

/-! ### A DEMAND's entries (03, R53, R54) -/

theorem overwriteEntry_stamps (x : Entry) (q : List Entry) : (overwriteEntry x q).map (·.stamp) = q.map (·.stamp) := by
  unfold overwriteEntry
  rw [List.map_map]
  refine List.map_congr_left fun y _ => ?_
  simp only [Function.comp_apply]
  split
  · next h => exact h.symm
  · rfl

/-- What a queue's order says is about its stamps. -/
theorem soundFrom_of_stamps {n : Nat} {judged : W32} {q r : List Entry} (hs : r.map (·.stamp) = q.map (·.stamp))
    (h : soundFrom n judged q) : soundFrom n judged r := by
  have stamps {l : List Entry} : soundFrom n judged l ↔ (l.map (·.stamp)).length ≤ 16 ∧
      (l.map (·.stamp)).Pairwise (fun a b => distance judged a < distance judged b) ∧
      ∀ a ∈ l.map (·.stamp), n ≤ distance judged a ∧ distance judged a ≤ 64 := by
    rw [List.length_map, List.pairwise_map, List.forall_mem_map]
    rfl
  rw [stamps] at h ⊢
  rwa [hs]

theorem mem_insertEntry {judged : W32} {x y : Entry} : ∀ {q : List Entry}, y ∈ insertEntry judged x q ↔ y = x ∨ y ∈ q
  | [] => by simp [insertEntry]
  | z :: rest => by
    unfold insertEntry
    split
    · exact List.mem_cons
    · rw [List.mem_cons, mem_insertEntry, List.mem_cons]
      exact or_left_comm

theorem insertEntry_length (judged : W32) (x : Entry) : ∀ q : List Entry, (insertEntry judged x q).length = q.length + 1
  | [] => rfl
  | z :: rest => by
    unfold insertEntry
    split
    · rfl
    · rw [List.length_cons, insertEntry_length judged x rest, List.length_cons]

theorem insertEntry_ordered {judged : W32} {x : Entry} : ∀ {q : List Entry},
    q.Pairwise (fun x y => distance judged x.stamp < distance judged y.stamp) →
    (∀ y ∈ q, distance judged y.stamp ≠ distance judged x.stamp) →
    (insertEntry judged x q).Pairwise fun x y => distance judged x.stamp < distance judged y.stamp
  | [], _, _ => List.pairwise_singleton _ _
  | z :: rest, h, hne => by
    rw [List.pairwise_cons] at h
    have hz := hne z List.mem_cons_self
    unfold insertEntry
    split
    · next hlt =>
      refine List.pairwise_cons.mpr ⟨fun y hy => ?_, List.pairwise_cons.mpr h⟩
      rcases List.mem_cons.mp hy with rfl | hy
      · exact hlt
      · exact Nat.lt_trans hlt (h.1 y hy)
    · refine List.pairwise_cons.mpr ⟨fun y hy => ?_,
        insertEntry_ordered h.2 fun y hy => hne y (List.mem_cons_of_mem _ hy)⟩
      rcases mem_insertEntry.mp hy with rfl | hy
      · omega
      · exact h.1 y hy

theorem distance_inj {judged a b : W32} (h : distance judged a = distance judged b) : a = b := by
  unfold distance at h
  bv_omega

theorem judgeEntry_sound {judged : W32} {leader : Bool} {x : RawEntry} {q : List Entry} (h : soundFrom 1 judged q) :
    soundFrom 1 judged (judgeEntry judged leader x q).1 := by
  unfold judgeEntry
  split
  · exact h
  · split
    · exact h
    · next hlate =>
      split
      · exact h
      · next hfar =>
        split
        · exact soundFrom_of_stamps (overwriteEntry_stamps _ _) h
        · next hnew =>
          split
          · exact h
          · next hfull =>
            obtain ⟨hlen, hpair, hnear⟩ := h
            have room : q.length + 1 ≤ 16 := Nat.lt_of_not_le hfull
            have reach : 1 ≤ distance judged x.stamp ∧ distance judged x.stamp ≤ 64 := by
              simp only [isLate, isFar, Bool.or_eq_true, Bool.and_eq_true, decide_eq_true_eq, not_or, not_and, Nat.not_lt,
                Config.horizon] at hlate hfar
              refine ⟨Nat.one_le_iff_ne_zero.mpr hlate.1, Nat.le_of_not_lt fun hd => hlate.2 (hfar (decide_eq_true hd))⟩
            refine ⟨Nat.le_trans (Nat.le_of_eq (insertEntry_length _ _ _)) room, insertEntry_ordered hpair fun y hy he => hnew ?_, fun y hy => ?_⟩
            · rw [List.any_eq_true]
              exact ⟨y, hy, decide_eq_true (distance_inj he)⟩
            · rcases mem_insertEntry.mp hy with rfl | hy
              · exact reach
              · exact hnear y hy

theorem judgeEntries_sound {judged : W32} {leader : Bool} : ∀ (es : List RawEntry) {q : List Entry},
    soundFrom 1 judged q → soundFrom 1 judged (judgeEntries judged leader es q).1
  | [], _, h => h
  | _ :: rest, _, h => judgeEntries_sound rest (judgeEntry_sound h)

end Sys2Proof.Machine


namespace Sys2Proof.Machine

/-! ### The queues of all channels (03, R49, R53, R54) -/

/-- Channels whose queue must be empty: without a holder, not served, or in a state that takes no demand. -/
def State.closed (s : State) (c : Chan) : Prop :=
  (s.auRec c).holder = none ∨ s.served c = false ∨ (s.eng c).state.demandable = false

/-- Every queue is sound, its entries at least `n` periods away, and empty where it is closed. -/
def State.queuesFrom (n : Chan → Nat) (s : State) : Prop :=
  ∀ c, soundFrom (n c) s.judgedPeriod (s.queue c).entries ∧ (s.closed c → (s.queue c).entries = [])

theorem queuesOk_iff {s : State} : s.queuesOk ↔ s.queuesFrom fun _ => 1 := Iff.rfl

/-- A queue that is emptied, or keeps to its entries while its channel is not closed on them. -/
def State.queueFollows (s t : State) (c : Chan) : Prop :=
  (vget t.queues c).entries = [] ∨
    ((vget t.queues c).entries.Sublist (vget s.queues c).entries ∧
      ((vget t.auth c).holder = none → (vget s.auth c).holder = none) ∧
      ((vget t.engines c).state.demandable = false → (vget s.engines c).state.demandable = false))

theorem queuesFrom_of_follows {n : Chan → Nat} {s t : State} (hk : t.consts = s.consts) (hp : t.period = s.period)
    (hst : t.started = s.started) (hf : ∀ c, s.queueFollows t c) (h : s.queuesFrom n) : t.queuesFrom n := fun c => by
  obtain ⟨sound, empty⟩ := h c
  have judged : t.judgedPeriod = s.judgedPeriod := by rw [State.judgedPeriod, State.judgedPeriod, hp, hst]
  have served : t.served c = s.served c := by rw [State.served, State.served, State.present, State.present, hk]
  rw [judged]
  rcases hf c with he | ⟨hsub, hholder, hstate⟩
  · rw [State.queue, he]
    exact ⟨soundFrom_nil _ _, fun _ => rfl⟩
  · refine ⟨soundFrom_sublist hsub sound, fun hc => List.sublist_nil.mp ?_⟩
    have closed : s.closed c := hc.imp hholder (Or.imp (served ▸ ·) hstate)
    rw [← empty closed]
    exact hsub

/-- What leaves holders and channel states alone. -/
theorem queuesFrom_of_queues {n : Chan → Nat} {s t : State} (hk : t.consts = s.consts) (hp : t.period = s.period)
    (hst : t.started = s.started) (hq : ∀ c, (vget t.queues c).entries.Sublist (vget s.queues c).entries)
    (ha : ∀ c, (vget t.auth c).holder = (vget s.auth c).holder)
    (he : ∀ c, (vget t.engines c).state = (vget s.engines c).state) (h : s.queuesFrom n) : t.queuesFrom n :=
  queuesFrom_of_follows hk hp hst (fun c => .inr ⟨hq c, (ha c).symm.trans, by rw [he c]; exact id⟩) h

theorem queuesFrom_same {n : Chan → Nat} {s t : State} (hk : t.consts = s.consts) (hp : t.period = s.period)
    (hst : t.started = s.started) (hq : t.queues = s.queues) (ha : ∀ c, (vget t.auth c).holder = (vget s.auth c).holder)
    (he : ∀ c, (vget t.engines c).state = (vget s.engines c).state) (h : s.queuesFrom n) : t.queuesFrom n :=
  queuesFrom_of_queues hk hp hst (fun c => by simp [hq]) ha he h

theorem closed_of_state {s : State} {c : Chan} (h : (s.eng c).state.demandable = false) : s.closed c := .inr (.inr h)

/-- A move to a state that takes demands, or of a channel whose queue is empty. -/
theorem moveGroup_queuesFrom {n : Chan → Nat} (l : Chan) {new : ChState} (timer : Option Nat) {s : State}
    (hs : new.demandable = true ∨ (s.queue l).entries = []) (h : s.queuesFrom n) : (moveGroup l new timer s).queuesFrom n := by
  refine queuesFrom_of_follows (by simp) (by simp) (by simp) (fun c => ?_) h
  unfold State.queueFollows
  rw [moveGroup_queues, (moveGroup_records l new timer s c).1, moveGroup_state]
  by_cases hc : l = c
  · subst hc
    refine hs.symm.imp id fun hd => ⟨List.Sublist.refl _, id, fun hf => ?_⟩
    rw [if_pos rfl, hd] at hf
    cases hf
  · rw [if_neg hc]
    exact .inr ⟨List.Sublist.refl _, id, id⟩

theorem toOff_queuesFrom {n : Chan → Nat} (l : Chan) {s : State} (h : s.queuesFrom n) : (toOff l s).queuesFrom n := by
  refine moveGroup_queuesFrom l none (.inl rfl) (queuesFrom_same (s := s) rfl rfl rfl rfl (fun _ => rfl)
    (rel_vset (R := fun a b : Engine => a.state = b.state) (fun _ => rfl) s.engines l (by exact rfl)) h)

theorem flushQueue_queuesFrom {n : Chan → Nat} (l : Chan) {s : State} (h : s.queuesFrom n) : (flushQueue l s).queuesFrom n :=
  queuesFrom_of_queues (s := s) rfl rfl rfl
    (rel_vset (R := fun a b : DemandQueue => a.entries.Sublist b.entries) (fun _ => List.Sublist.refl _) s.queues l
      (List.nil_sublist _)) (fun _ => rfl) (fun _ => rfl) h

theorem flushQueue_empty (l : Chan) (s : State) : ((flushQueue l s).queue l).entries = [] := by
  rw [State.queue, flushQueue, vget_vset_self]

theorem toHolding_queuesFrom {n : Chan → Nat} (l : Chan) {s : State} (h : s.queuesFrom n) : (toHolding l s).queuesFrom n :=
  moveGroup_queuesFrom l _ (.inr (flushQueue_empty l s)) (flushQueue_queuesFrom l h)

theorem recordStart_queuesFrom {n : Chan → Nat} (l : Chan) (m : Nat) {s : State} (h : s.queuesFrom n) :
    (recordStart l m s).queuesFrom n :=
  queuesFrom_same (by simp) (by simp) (by simp) (by simp) (by simp) (fun c => recordStart_state ..) h

theorem toRamping_queuesFrom {n : Chan → Nat} {l : Chan} {s : State} (hs : (s.eng l).state = .holding) (h : s.queuesFrom n) :
    (toRamping l s).queuesFrom n := by
  refine moveGroup_queuesFrom l _ (.inr ?_) (recordStart_queuesFrom l _ h)
  rw [State.queue, recordStart_queues]
  exact (h l).2 (closed_of_state (by rw [hs]; rfl))

theorem toStopping_queuesFrom {n : Chan → Nat} (l : Chan) {s : State} (h : s.queuesFrom n) : (toStopping l s).queuesFrom n :=
  moveGroup_queuesFrom l _ (.inr (flushQueue_empty l _)) (flushQueue_queuesFrom l (recordStart_queuesFrom l _ h))

theorem toTripped_queuesFrom {n : Chan → Nat} (l : Chan) (k : FaultKind) (d : Nat) {s : State} (h : s.queuesFrom n) :
    (toTripped l k d s).queuesFrom n :=
  moveGroup_queuesFrom l _ (.inr (flushQueue_empty l _)) (flushQueue_queuesFrom l
    (queuesFrom_same (by simp) (by simp) (by simp) (by simp) (by simp) (fun c => fillTrips_state ..) h))

/-- A change of holder leaves the queue empty (02, R36; 03, R54). -/
theorem changeHolder_queuesFrom {n : Chan → Nat} (l : Chan) (new : Option Port) {s : State} (h : s.queuesFrom n) :
    (changeHolder l new s).queuesFrom n := by
  refine queuesFrom_of_follows (by simp) (by simp) (by simp) (fun c => ?_) h
  unfold State.queueFollows
  rw [changeHolder_queues, changeHolder_auth, changeHolder_state, vget_vset]
  by_cases hc : l = c
  · rw [if_pos hc]
    exact .inl rfl
  · rw [if_neg hc, if_neg hc, if_neg fun hl => hc hl.1]
    exact .inr ⟨List.Sublist.refl _, id, id⟩

theorem installHead_queuesFrom {n : Chan → Nat} (l : Chan) {s : State} (h : s.queuesFrom n) : (installHead l s).queuesFrom n := by
  rw [installHead_eq]
  exact changeHolder_queuesFrom l _ (queuesFrom_same (s := s) rfl rfl rfl rfl
    (rel_vset (R := fun a b : AuthRecord => a.holder = b.holder) (fun _ => rfl) s.auth l (by exact rfl)) (fun _ => rfl) h)

theorem assertStops_queuesFrom {n : Chan → Nat} {s : State} (h : s.queuesFrom n) :
    (assertStops allChans (setLatch true s)).queuesFrom n := by
  refine assertStops_induct (State.queuesFrom n) (fun l u hu _ => ?_) allChans _ h
  have ended : (match u.consts.category with | .immediate => toOff l u | .ramped => toStopping l u).queuesFrom n := by
    split
    · exact toOff_queuesFrom l hu
    · exact toStopping_queuesFrom l hu
  unfold assertStopOn
  split
  case h_5 | h_6 | h_7 => exact hu
  all_goals exact ended

theorem kept_queues (n : Chan → Nat) : Kept (State.queuesFrom n) (fun _ => True) (fun _ => True) where
  live _ _ := trivial
  reports := id
  counts _ _ := trivial
  free _ _ _ _ _ h := h
  ports _ _ h := h
  line _ _ _ _ h := h
  queues := by
    intro s v hv h
    exact queuesFrom_of_queues (s := s) rfl rfl rfl hv (fun _ => rfl) (fun _ => rfl) h
  engines := by
    intro s v hv h
    exact queuesFrom_same (s := s) rfl rfl rfl rfl (fun _ => rfl) (fun c => (hv c).1) h
  envs _ _ h := h
  auth := by
    intro s v hv h
    exact queuesFrom_same (s := s) rfl rfl rfl rfl (fun c => (hv c).1) (fun _ => rfl) h
  link _ _ h := h
  react _ _ h := h
  budget b h := queuesFrom_same (by simp) (by simp) (by simp) (by simp) (by simp) (by simp) h
  request c r _ h := queuesFrom_same (by simp) (by simp) (by simp) (by simp) (by simp) (by simp) h
  toOff l h := toOff_queuesFrom l h
  toRun l _ h := moveGroup_queuesFrom l none (.inl rfl) h
  toHolding l _ h := toHolding_queuesFrom l h
  toRamping l hs h := toRamping_queuesFrom hs h
  toTripped l k d _ h := toTripped_queuesFrom l k d h
  installHead l h := installHead_queuesFrom l h
  enterLink x _ _ h :=
    queuesFrom_same (by simp) (by simp) (by simp) (by simp) (by simp) (fun c => enterLink_state x _ c) h
  drain := by
    intro s k _ h
    have entered : (enterLink .draining s).queuesFrom n :=
      queuesFrom_same (by simp) (by simp) (by simp) (by simp) (by simp) (fun c => enterLink_state .draining s c) h
    split
    · exact tripDriving_induct (State.queuesFrom n) k (fun l u hu _ _ => toTripped_queuesFrom l k _ hu) _ _ entered
    · exact entered
  stops _ h := assertStops_queuesFrom h
  pend _ _ _ _ _ _ h := h
  drop _ _ h := h
  serve _ _ _ _ _ _ h := h
  endLink _ _ h := h
  endStop e _ h := queuesFrom_same (by simp) (by simp) (by simp) (by simp) (by simp) (by simp) h
  holdRepeat _ h := h

/-! ### A period start (01, R1; 03, R51) -/

/-- The bounds may rise on a queue that is known to lie farther. -/
theorem queuesFrom_rise {n m : Chan → Nat} {s : State} (h : s.queuesFrom n)
    (hm : ∀ c, m c ≤ n c ∨ soundFrom (m c) s.judgedPeriod (s.queue c).entries) : s.queuesFrom m := fun c =>
  ⟨(hm c).elim (fun hle => soundFrom_le hle (h c).1) id, (h c).2⟩

theorem queuesFrom_le {n m : Chan → Nat} {s : State} (hm : ∀ c, m c ≤ n c) (h : s.queuesFrom n) : s.queuesFrom m :=
  queuesFrom_rise h fun c => .inl (hm c)

/-- The judged period advances with P, at the first start too (01, R1; 03, R49). -/
theorem advance_queuesFrom {s : State} (h : s.queuesFrom fun _ => 1) : (advance s).queuesFrom fun _ => 0 := by
  have judged : (advance s).judgedPeriod = s.judgedPeriod + 1 := by
    unfold advance State.judgedPeriod
    cases s.started <;> simp
  intro c
  rw [judged]
  refine ⟨soundFrom_advance (h c).1, fun hc => (h c).2 ?_⟩
  have holder : ((advance s).auRec c).holder = (s.auRec c).holder := by simp [advance, State.auRec, AuthRecord.tick]
  have state : ((advance s).eng c).state = (s.eng c).state := by simp [advance, State.eng]
  exact hc.imp (holder ▸ ·) (Or.imp id (state ▸ ·))

/-- The bounds once a channel's queue has been looked at. -/
def seen (n : Chan → Nat) (l c : Chan) : Nat := if c = l then 1 else n c

/-- A look at a queue leaves the others as they were. -/
theorem queuesFrom_seen {n : Chan → Nat} {l : Chan} {s : State} (h : s.queuesFrom n)
    (hl : soundFrom 1 s.judgedPeriod (s.queue l).entries) : s.queuesFrom (seen n l) := by
  refine queuesFrom_rise h fun c => ?_
  unfold seen
  split
  · next hc => exact .inr (hc ▸ hl)
  · exact .inl (Nat.le_refl _)

theorem soundFrom_of_closed {n : Chan → Nat} {l : Chan} {s : State} (h : s.queuesFrom n) (hl : s.closed l) :
    soundFrom 1 s.judgedPeriod (s.queue l).entries := by
  rw [(h l).2 hl]
  exact soundFrom_nil _ _

theorem soundFrom_of_headAt {n : Chan → Nat} {l : Chan} {s : State} (hst : s.started = true) (h : s.queuesFrom n)
    (hh : s.headAt l = none) : soundFrom 1 s.judgedPeriod (s.queue l).entries := by
  refine soundFrom_of_head (soundFrom_le (Nat.zero_le _) (h l).1) ?_
  rw [State.judgedPeriod, if_pos hst]
  exact hh

/-- Without its head a queue has been looked at. -/
theorem queuesFrom_tail {n : Chan → Nat} {l : Chan} {s : State} {q : DemandQueue} (hq : q.entries = (s.queue l).entries.tail)
    (h : s.queuesFrom n) : ({ s with queues := vset s.queues l q } : State).queuesFrom (seen n l) := by
  have rest : ({ s with queues := vset s.queues l q } : State).queuesFrom n :=
    (kept_queues n).queue l (by rw [hq]; exact List.tail_sublist _) h
  refine queuesFrom_seen rest ?_
  have sound : soundFrom 1 s.judgedPeriod q.entries := by
    rw [hq]
    exact soundFrom_tail (soundFrom_le (Nat.zero_le _) (h l).1)
  show soundFrom 1 s.judgedPeriod (vget (vset s.queues l q) l).entries
  rw [vget_vset_self]
  exact sound

theorem queueStep_queuesFrom {n : Chan → Nat} (l : Chan) {s : State} (hst : s.started = true) (h : s.queuesFrom n) :
    (queueStep l s).queuesFrom (seen n l) := by
  have K := kept_queues (seen n l)
  have noHead (hh : s.headAt l = none) : s.queuesFrom (seen n l) := queuesFrom_seen h (soundFrom_of_headAt hst h hh)
  have closed (hs : (s.eng l).state.demandable = false) : s.queuesFrom (seen n l) :=
    queuesFrom_seen h (soundFrom_of_closed h (closed_of_state hs))
  have applied (x : Entry) : (takeEntry l x s).queuesFrom (seen n l) := by
    have taken := queuesFrom_tail (q := (s.queue l).take s.period) rfl h
    have moved := K.engine (s := { s with queues := vset s.queues l ((s.queue l).take s.period) }) l
      (e := { s.eng l with active := x.toDemand (s.eng l).idTarget, idTarget := (x.toDemand (s.eng l).idTarget).id })
      ⟨rfl, rfl, .inr (.inl rfl)⟩ taken
    exact K.closeHandover l (K.lowWater l _ moved)
  have running : (match s.headAt l with
      | some x => takeEntry l x s
      | none => if (s.auRec l).handover.isSome then s else countGap l s).queuesFrom (seen n l) := by
    split
    · exact applied _
    · next hh =>
      split
      · exact noHead hh
      · exact K.countGap l trivial (noHead hh)
  unfold queueStep
  split
  · exact running
  · exact running
  · split
    · exact queuesFrom_tail rfl h
    · next hh => exact noHead hh
  all_goals next hs => exact closed (by rw [hs]; rfl)

theorem engineStart_queuesFrom {n : Chan → Nat} (first : Bool) (l : Chan) {s : State} (hst : s.started = true)
    (h : s.queuesFrom n) : (engineStart first l s).queuesFrom (seen n l) := by
  have timed := (kept_queues n).timerStep l ((kept_queues n).missSteps first (s.group l) trivial h)
  have started : (timerStep l (missSteps first (s.group l) s)).started = true := by simpa using hst
  exact substitutes_induct _ (fun c _ hu => (kept_queues (seen n l)).substitute c hu) _ _
    (queueStep_queuesFrom l started timed)

/-- The bounds once a work has been done: an engine's has looked at its queue. -/
def afterWork (n : Chan → Nat) (w : Work) : Chan → Nat :=
  match w with
  | .engine c => seen n c
  | _ => n

theorem unserved_queuesFrom {n : Chan → Nat} {l : Chan} {s : State} (hl : ¬ s.served l = true) (h : s.queuesFrom n) :
    s.queuesFrom (seen n l) :=
  queuesFrom_seen h (soundFrom_of_closed h (.inr (.inl (by simpa using hl))))

theorem runWork_queuesFrom {n : Chan → Nat} (first : Bool) (w : Work) {s : State} (hst : s.started = true)
    (h : s.queuesFrom n) : (runWork first w s).queuesFrom (afterWork n w) := by
  have K := kept_queues n
  cases w with
  | engine c =>
    refine (kept_queues (seen n c)).takeHeld (fun _ _ h => h) c ?_
    split
    · exact engineStart_queuesFrom first c hst h
    · next hs => exact unserved_queuesFrom hs h
  | supply => exact K.supplyCheck first trivial h
  | lock c => exact K.lockExpiryOf c h
  | handover c => exact K.handoverAtStart (fun _ _ h => h) c h
  | proposal c => exact K.proposalExpiryOf c h
  | linkTimer => exact K.linkTimerExpiry h
  | silence p => exact K.silenceExpiry p h
  | pacing p => exact K.pacingExpiry p h
  | debounce i => exact K.debounceExpiry i h

theorem leaveWork_queuesFrom {n : Chan → Nat} (first : Bool) (w : Work) {s : State} (hst : s.started = true)
    (h : s.queuesFrom n) : (leaveWork first w s).queuesFrom (afterWork n w) := by
  cases w with
  | engine c =>
    refine (kept_queues (seen n c)).takeHeld (fun _ _ h => h) c ?_
    split
    · split
      · next hw =>
        have hh : s.headAt c = none := by
          simp only [State.canWait, Bool.and_eq_true, Option.isNone_iff_eq_none] at hw
          exact hw.2
        exact (kept_queues (seen n c)).missSteps first _ trivial (queuesFrom_seen h (soundFrom_of_headAt hst h hh))
      · exact engineStart_queuesFrom first c hst h
    · next hs => exact unserved_queuesFrom hs h
  | supply => exact (kept_queues n).supplyCheck first trivial h
  | lock _ | handover _ | proposal _ | linkTimer | silence _ | pacing _ | debounce _ => exact h

/-- The bounds once the listed works have been done. -/
def afterWorks (n : Chan → Nat) (l : List Work) : Chan → Nat := l.foldl afterWork n

theorem le_afterWork (n : Chan → Nat) (w : Work) (c : Chan) : min 1 (n c) ≤ min 1 (afterWork n w c) := by
  unfold afterWork seen
  split
  · split <;> omega
  · exact Nat.le_refl _

theorem one_le_afterWorks {c : Chan} : ∀ (l : List Work) {n : Chan → Nat}, 1 ≤ n c ∨ Work.engine c ∈ l →
    1 ≤ afterWorks n l c
  | [], _, h => h.resolve_right List.not_mem_nil
  | w :: rest, n, h => by
    refine one_le_afterWorks (n := afterWork n w) rest ?_
    rcases h with h | h
    · have := le_afterWork n w c
      exact .inl (by omega)
    · rcases List.mem_cons.mp h with rfl | h
      · exact .inl (by simp [afterWork, seen])
      · exact .inr h

theorem runWorks_queuesFrom (first : Bool) : ∀ (l : List Work) {n : Chan → Nat} {s : State}, s.started = true →
    s.queuesFrom n → (runWorks first l s).queuesFrom (afterWorks n l)
  | [], _, _, _, h => h
  | w :: rest, _, _, hst, h =>
    runWorks_queuesFrom first rest (by simpa using hst) ((kept_queues _).settle (runWork_queuesFrom first w hst h))

theorem leaveWorks_queuesFrom (first : Bool) : ∀ (l : List Work) {n : Chan → Nat} {s : State}, s.started = true →
    s.queuesFrom n → (leaveWorks first l s).queuesFrom (afterWorks n l)
  | [], _, _, _, h => h
  | w :: rest, _, _, hst, h =>
    leaveWorks_queuesFrom first rest (by simpa using hst) ((kept_queues _).settle (leaveWork_queuesFrom first w hst h))

theorem engine_mem_allWorks (c : Chan) : Work.engine c ∈ allWorks := by
  simp only [allWorks, List.mem_append, List.mem_map]
  exact .inl (.inl (.inl (.inl (.inl (.inl (.inr ⟨c, mem_allChans c, rfl⟩))))))

/-- Every engine is among the works taken or those left. -/
theorem engine_mem_works (order later : List Work) (c : Chan) : Work.engine c ∈ worksInOrder order later ∨
    Work.engine c ∈ later.eraseDups.filter fun w => !order.contains w := by
  have listed := engine_mem_allWorks c
  unfold worksInOrder
  simp only [List.mem_append, List.mem_filter, List.mem_eraseDups, Bool.and_eq_true, Bool.not_eq_true']
  by_cases ho : Work.engine c ∈ order
  · exact .inl (.inl ho)
  · by_cases hl : Work.engine c ∈ later
    · exact .inr ⟨hl, by simpa using ho⟩
    · exact .inl (.inr ⟨listed, by simpa using ho, by simpa using hl⟩)

theorem periodStart_queuesOk (order later : List Work) {s : State} (h : s.queuesFrom fun _ => 1) :
    (periodStart order later s).queuesFrom fun _ => 1 := by
  have K := kept_queues fun _ => 1
  have overdue := overdueWorks_induct _ (fun w _ hu => K.overdueWork w hu) (fun _ hu => K.settle hu) allWorks s h
  have begun := (kept_queues _).sendMarks allChans (advance_queuesFrom overdue)
  have started : (sendMarks allChans (advance (overdueWorks allWorks s))).started = true := by simp [advance]
  have ran := runWorks_queuesFrom (!s.started) (worksInOrder order later) started begun
  have left := leaveWorks_queuesFrom (!s.started) (later.eraseDups.filter fun w => !order.contains w)
    (by simpa using started) ran
  refine takeHelds_induct _ (fun c _ hu => K.takeHeld (fun _ _ h => h) c hu) allChans _ (queuesFrom_le (fun c => ?_) left)
  exact one_le_afterWorks _ ((engine_mem_works order later c).imp_left fun hc => one_le_afterWorks _ (.inr hc))

/-! ### What the commands write themselves -/

theorem setEntries_queuesFrom {l : Chan} {es : List Entry} {s : State} (hl : ¬ s.closed l)
    (hs : soundFrom 1 s.judgedPeriod es) (h : s.queuesFrom fun _ => 1) : (setEntries l es s).queuesFrom fun _ => 1 := by
  intro c
  have judged : (setEntries l es s).judgedPeriod = s.judgedPeriod := rfl
  rw [judged, State.queue, setEntries, vget_vset]
  split
  · next hc => exact ⟨hs, fun hcl => absurd (hc ▸ hcl) hl⟩
  · exact h c

theorem queuesFrom_of_empty {n : Chan → Nat} {s : State} (h : ∀ c, (s.queue c).entries = []) : s.queuesFrom n := fun c => by
  rw [h c]
  exact ⟨soundFrom_nil _ _, fun _ => rfl⟩

theorem queues_own (i : Instr) : OwnKept (fun s => s.phaseOk ∧ s.queuesFrom fun _ => 1) i := by
  cases i with
  | periodStart order later =>
    exact fun s hop h => ⟨phaseOk_own (.periodStart order later) s hop h.1, periodStart_queuesOk order later h.2⟩
  | writeConstant p =>
    refine fun s k hp hc h => ⟨phaseOk_own (.writeConstant p) s k hp hc h.1, queuesFrom_of_empty fun c => ?_⟩
    exact ((h.1.2 hc).1 c).2.2.2
  | freeze p =>
    refine fun s hp hx hf h => ⟨phaseOk_own (.freeze p) s hp hx hf h.1, queuesFrom_of_empty fun c => ?_⟩
    rw [State.queue, freezePart_queues]
    simp [DemandQueue.initial]
  | claim p =>
    intro s l hr hrank hh hw h
    obtain ⟨hgrant, hwait⟩ := phaseOk_own (.claim p) s l hr hrank hh hw h.1
    exact ⟨⟨hgrant, changeHolder_queuesFrom l _ h.2⟩, fun old ho => ⟨hwait old ho,
      queuesFrom_same (s := s) rfl rfl rfl rfl (rel_vset (R := fun a b : AuthRecord => a.holder = b.holder)
        (fun _ => rfl) s.auth l (by exact rfl)) (fun _ => rfl) h.2⟩⟩
  | engage p =>
    refine fun s l hr hh hf h => ⟨phaseOk_own (.engage p) s l hr hh hf h.1, moveGroup_queuesFrom l _ (.inl rfl) ?_⟩
    have cleared : (clearIntegrators (s.group l) s).queuesFrom fun _ => 1 :=
      queuesFrom_same (by simp) (by simp) (by simp) (by simp) (by simp) (fun c => clearIntegrators_state c (s.group l) s) h.2
    exact (kept_queues _).queue l (by exact List.Sublist.refl _) cleared
  | demand p =>
    refine fun s l es hr hh hd h =>
      ⟨phaseOk_own (.demand p) s l es hr hh hd h.1, setEntries_queuesFrom ?_ (judgeEntries_sound es (h.2 l).1) h.2⟩
    rintro (hn | hn | hn)
    · rw [hh] at hn
      cases hn
    · rw [served_of_routesTo h.1 hr] at hn
      cases hn
    · rw [hd] at hn
      cases hn
  | propose p => exact fun s l f w hr hp hf h => ⟨phaseOk_own (.propose p) s l f w hr hp hf h.1, h.2⟩
  | confirm p => exact fun s l x _ _ h => h
  | safeRelease p => exact fun s _ _ h => h
  | powerOn pins =>
    exact fun s h => ⟨phaseOk_own (.powerOn pins) s h.1, queuesFrom_of_empty fun c => by rw [State.queue, resetTo_queue]; rfl⟩
  | line pins =>
    exact fun s h => ⟨phaseOk_own (.line pins) s h.1, queuesFrom_of_empty fun c => by rw [State.queue, resetTo_queue]; rfl⟩
  | commanded pins =>
    exact fun s h => ⟨phaseOk_own (.commanded pins) s h.1, queuesFrom_of_empty fun c => by rw [State.queue, resetTo_queue]; rfl⟩
  | _ => trivial

/-- Settles O52: a period start brings every entry one period nearer and takes the one that is due; a DEMAND enters its
entries in their order; every change of holder and every move out of OFF, RELEASING and RUN empties the queue. -/
theorem stepsKeepTheQueues : Obligations.StepsKeepTheQueues := fun _ _ hx hq hs =>
  (step_kept (kept_phase.and (kept_queues fun _ => 1)) (fun _ _ h => h) (fun i _ _ => queues_own i) ⟨hx, hq⟩ hs).2

end Sys2Proof.Machine


namespace Sys2Proof.Machine

/-! ### The conditions of a safe state at reset (11, R187) -/

@[simp] theorem reset_auth (c : Chan) : vget State.reset.auth c = AuthRecord.initial := by simp [State.reset]
@[simp] theorem reset_queues (c : Chan) : vget State.reset.queues c = DemandQueue.initial := by simp [State.reset]
@[simp] theorem reset_engines (c : Chan) : vget State.reset.engines c = Engine.initial := by simp [State.reset]
@[simp] theorem reset_ports (p : Port) : vget State.reset.ports p = PortBlock.initial false := by simp [State.reset]

theorem reset_off (c : Chan) : (vget State.reset.engines c).state = .off := by
  rw [reset_engines]
  rfl

theorem reset_phaseOk : State.reset.phaseOk := by
  refine ⟨nofun, fun _ => ⟨fun c => ?_, .inl rfl⟩⟩
  rw [State.eng, State.auRec, State.queue, reset_engines, reset_auth, reset_queues]
  exact ⟨rfl, rfl, rfl, rfl⟩

theorem reset_gatesOk : State.reset.gatesOk := fun c => by
  rw [gateValue_off reset_off, State.eng, reset_engines]
  rfl

theorem reset_grantsOk : State.reset.grantsOk := by
  have grant (c : Chan) : vget State.reset.allot.grant c = 0 := by simp [State.reset, Allotment.initial]
  have request (c : Chan) : vget State.reset.allot.request c = 0 := by simp [State.reset, Allotment.initial]
  refine ⟨?_, fun c => ?_⟩
  · simp only [grant]
    exact Nat.zero_le _
  · rw [grant, request]
    exact ⟨Nat.le_refl _, fun _ => rfl⟩

theorem reset_waitingOk : State.reset.waitingOk := waitingOk_iff.mpr fun c => by
  rw [reset_auth]
  exact AuthRecord.claimsOk_free rfl rfl rfl

theorem reset_reactionsOk : State.reset.reactionsOk :=
  ⟨List.Pairwise.nil, fun _ hx => absurd hx List.not_mem_nil, nofun, nofun⟩

theorem reset_takingOk : State.reset.takingOk := by
  refine ⟨fun _ => ⟨rfl, rfl, fun c => ?_, fun p => ?_⟩, fun _ _ hx => absurd hx List.not_mem_nil, fun c => ?_⟩
  · rw [State.auRec, reset_auth]
    rfl
  · rw [State.port, reset_ports]
    rfl
  · simp [State.reset, ReactionBlock.initial]

theorem reset_drivingOk : State.reset.drivingOk := drivingOk_of_noneDrives fun c => by
  rw [reset_off]
  rfl

theorem reset_demandsOk : State.reset.demandsOk := fun c _ => by
  rw [State.eng, reset_engines]
  rfl

theorem reset_portsOk : State.reset.portsOk := by
  refine portsOk_iff.mpr ⟨fun p => ?_, fun p => ?_⟩
  · have down : vget State.reset.signals p = false := by simp [State.reset]
    rw [reset_ports, down]
    exact PortBlock.lineOk_initial _ _
  · rw [State.port, reset_ports]
    exact PortBlock.initial_settled _

/-- Settles O48: a reset leaves every block as it was made, in CONFIG, with every channel in OFF. -/
theorem safetyConditionsHoldAtReset : Obligations.SafetyConditionsHoldAtReset :=
  ⟨reset_phaseOk, reset_gatesOk, reset_grantsOk, queuesOk_iff.mpr (queuesFrom_of_empty fun c => by
    rw [State.queue, reset_queues]; rfl), reset_waitingOk, reset_reactionsOk, reset_takingOk, reset_drivingOk,
    reset_demandsOk, reset_portsOk, nofun⟩

end Sys2Proof.Machine


namespace Sys2Proof.Machine

/-! ### Tagged requests (01, R17; 02, R31) -/

/-- A tagged request that its route lets pass is answered by the channel's own service. -/
theorem done_serve_routed {α : Type} {p : Port} {code : Nat} {parse : List Byte → Option α} {n : W16}
    {fields : List Byte} {a : α} {owner : α → State → State × Reply} {s u : State} {r : Reply} {tag : Byte} {l : Chan}
    (own : Chan → State → State × Reply) (h : s.offers p n code fields) (hp : parse fields = some a)
    (hr : s.routes p tag l) (how : owner a (s.taken p) = onRoute p tag.toNat own (s.taken p))
    (ho : own l (s.taken p) = (u, r)) : done (serve p code parse owner s) = .next (u.replied p n r) :=
  done_serve_owner h hp (how.trans ((onRoute_routed (s := s.taken p) own hr).trans ho))

theorem holds_of_holder {s : State} {p : Port} {l : Chan} (h : (s.auRec l).holder = some p) : s.holds p l = true :=
  decide_eq_true h

theorem not_holds {s : State} {p : Port} {l : Chan} (h : (s.auRec l).holder ≠ some p) : ¬ s.holds p l = true := by
  rw [State.holds, decide_eq_true_eq]
  exact h

theorem ofBytes_pair (a b : Byte) : ofBytes [a, b] = 256 * a.toNat + b.toNat := by
  simp only [ofBytes, List.foldl_cons, List.foldl_nil]
  omega

/-! ### A change of holder and its notices (02, R36, R37) -/

section

variable {l : Chan} {s : State}

/-- The record with its first claim taken from the list. -/
abbrev State.unqueued (s : State) (l : Chan) (rest : List Claim) : State :=
  { s with auth := vset s.auth l { s.auRec l with waiting := rest } }

theorem changeHolder_holder (new : Option Port) : ((changeHolder l new s).auRec l).holder = new := by
  rw [State.auRec, changeHolder_auth, if_pos rfl]
  rfl

theorem changeHolder_epoch (new : Option Port) : ((changeHolder l new s).auRec l).epoch = (s.auRec l).epoch + 1 := by
  rw [State.auRec, changeHolder_auth, if_pos rfl]
  rfl

theorem handTo_auRec (p : Port) (k : NoticeKind) (c : Chan) : (handTo p k s).auRec c = s.auRec c := by
  rw [State.auRec, State.auRec, handTo_auth]

theorem noticeHolder_free (h : (s.auRec l).holder = none) : noticeHolder l s = s := by
  unfold noticeHolder
  rw [h]

theorem noticeHolder_held {p : Port} (h : (s.auRec l).holder = some p) : noticeHolder l s = handTo p .authority s := by
  unfold noticeHolder
  rw [h]

theorem installHead_empty (hw : (s.auRec l).waiting = []) : installHead l s = changeHolder l none s := by
  unfold installHead
  rw [hw]

theorem installHead_waiting {x : Claim} {rest : List Claim} (hw : (s.auRec l).waiting = x :: rest) :
    installHead l s = changeHolder l (some x.port) (s.unqueued l rest) := by
  unfold installHead
  rw [hw]

theorem displace_empty (old : Port) (hw : (s.auRec l).waiting = []) :
    displace l old s = handTo old .authority (changeHolder l none s) := by
  unfold displace
  rw [installHead_empty hw]
  exact noticeHolder_free (by rw [handTo_auRec, changeHolder_holder])

theorem displace_waiting {x : Claim} {rest : List Claim} (old : Port) (hw : (s.auRec l).waiting = x :: rest) :
    displace l old s =
      handTo x.port .authority (handTo old .authority (changeHolder l (some x.port) (s.unqueued l rest))) := by
  unfold displace
  rw [installHead_waiting hw]
  exact noticeHolder_held (by rw [handTo_auRec, changeHolder_holder])

theorem preemptByHead_stays {k : Nat} (hk : (s.auRec l).holderRank = some k)
    (hw : ∀ x, (s.auRec l).waiting.head? = some x → x.rank ≤ k) : preemptByHead l s = s := by
  refine if_neg ?_
  unfold headOutranks
  rw [hk]
  cases hl : (s.auRec l).waiting with
  | nil => exact Bool.false_ne_true
  | cons x rest => simpa using hw x (by rw [hl]; rfl)

theorem preemptByHead_passes {x : Claim} {rest : List Claim} {k : Nat} {old : Port} (hk : (s.auRec l).holderRank = some k)
    (ho : (s.auRec l).holder = some old) (hw : (s.auRec l).waiting = x :: rest) (hx : k < x.rank) :
    preemptByHead l s =
      handTo x.port .authority (handTo old .authority (changeHolder l (some x.port) (s.unqueued l rest))) := by
  have outranks : headOutranks (s.auRec l) = true := by
    unfold headOutranks
    rw [hw, hk]
    exact decide_eq_true hx
  unfold preemptByHead
  rw [if_pos outranks, ho]
  exact displace_waiting old hw

/-- A change of holder after a record was written once already writes it once. -/
theorem unqueued_record (r : AuthRecord) (rest : List Claim) :
    ({ s with auth := vset s.auth l r } : State).unqueued l rest =
      { s with auth := vset s.auth l { r with waiting := rest } } := by
  have written : ({ s with auth := vset s.auth l r } : State).auRec l = r := vget_vset_self _ _ _
  rw [State.unqueued, written, vset_vset]

end

/-! ### RESET_PART (11, R186) -/

/-- Settles O30. -/
theorem resetPartIsAnsweredFirst : Obligations.ResetPartIsAnsweredFirst := by
  intro p n s h
  have next : s.nextRequest p = some ⟨n, 5, []⟩ := h
  have link : ((s.taken p).port p).link = (s.port p).link := by
    rw [State.port, popRequest_ports_self, State.port]
  have served : serveReset p s = if p = s.safetyPort then putAnswer p n true (.bare .ok) (armReset p (s.taken p))
      else putAnswer p n false (.bare .notSafety) (s.taken p) := by
    unfold serveReset
    rw [next]
    rfl
  refine ⟨fun hp => ?_, fun hp => ?_⟩
  · show done (serveReset p s) = _
    rw [served, if_neg hp]
    rfl
  · show done (serveReset p s) = _
    rw [served, if_pos hp, armReset, link]
    rfl

/-! ### CANCEL_CLAIM and RELEASE (02, R38, R39) -/

theorem exec_cancelClaim {p : Port} {n : W16} {tag : Byte} {l : Chan} {s u : State} {r : Reply}
    (h : s.offers p n 7 [tag]) (hr : s.routes p tag l) (ho : cancelOn p l (s.taken p) = (u, r)) :
    exec (.cancelClaim p) s = .next (u.replied p n r) :=
  have fields : readByte [tag] = some tag.toNat := rfl
  done_serve_routed (cancelOn p) (owner := cancelClaimOwner p) h fields hr rfl ho

theorem cancelOn_waiting {p : Port} {l : Chan} {s : State} (hw : ∃ x ∈ (s.auRec l).waiting, x.port = p) :
    cancelOn p l s = ({ s with auth := vset s.auth l { s.auRec l with
      waiting := (s.auRec l).waiting.filter fun x => decide (x.port ≠ p) } }, .bare .ok) := by
  obtain ⟨x, hx, hp⟩ := hw
  unfold cancelOn
  dsimp only
  split
  · next hn => exact absurd hp ((waitPosition_eq_none p _).mp hn x hx)
  · rfl

theorem cancelOn_notWaiting {p : Port} {l : Chan} {s : State} (hw : ∀ x ∈ (s.auRec l).waiting, x.port ≠ p) :
    cancelOn p l s = (s, .bare .notWaiting) := by
  unfold cancelOn
  dsimp only
  rw [(waitPosition_eq_none p _).mpr hw]

theorem exec_release {p : Port} {n : W16} {tag : Byte} {l : Chan} {s u : State} {r : Reply}
    (h : s.offers p n 8 [tag]) (hr : s.routes p tag l) (ho : releaseOn p l (s.taken p) = (u, r)) :
    exec (.release p) s = .next (u.replied p n r) :=
  have fields : readByte [tag] = some tag.toNat := rfl
  done_serve_routed (releaseOn p) (owner := releaseOwner p) h fields hr rfl ho

theorem releaseOn_empty {p : Port} {l : Chan} {s : State} (hh : (s.auRec l).holder = some p)
    (hw : (s.auRec l).waiting = []) : releaseOn p l s = (takeReactions (changeHolder l none s), .okWith [0]) := by
  have installed : noticeHolder l (installHead l s) = changeHolder l none s := by
    rw [installHead_empty hw]
    exact noticeHolder_free (changeHolder_holder none)
  unfold releaseOn
  rw [if_pos (holds_of_holder hh), installed]
  dsimp only
  rw [changeHolder_holder]
  rfl

theorem releaseOn_waiting {p : Port} {l : Chan} {x : Claim} {rest : List Claim} {s : State}
    (hh : (s.auRec l).holder = some p) (hw : (s.auRec l).waiting = x :: rest) :
    releaseOn p l s = (takeReactions (handTo x.port .authority (changeHolder l (some x.port) (s.unqueued l rest))),
      .okWith (1 :: portByte x.port)) := by
  have installed : noticeHolder l (installHead l s) =
      handTo x.port .authority (changeHolder l (some x.port) (s.unqueued l rest)) := by
    rw [installHead_waiting hw]
    exact noticeHolder_held (changeHolder_holder _)
  unfold releaseOn
  rw [if_pos (holds_of_holder hh), installed]
  dsimp only
  rw [handTo_auRec, changeHolder_holder]
  rfl

/-- Settles O32. -/
theorem claimsAndHoldingsAreGivenUp : Obligations.ClaimsAndHoldingsAreGivenUp := by
  refine ⟨fun p n tag l s h hr => ⟨fun hw => ?cancelled, fun hw => ?notWaiting⟩,
    fun p n tag l s h hr => ⟨fun hh => ?notHolder, fun hh hw => ?free, fun x rest hh hw => ?head⟩⟩
  case cancelled => exact exec_cancelClaim h hr (cancelOn_waiting (s := s.taken p) hw)
  case notWaiting => exact exec_cancelClaim h hr (cancelOn_notWaiting (s := s.taken p) hw)
  case notHolder => exact exec_release h hr (if_neg (not_holds (s := s.taken p) hh))
  case free => exact exec_release h hr (releaseOn_empty (s := s.taken p) hh hw)
  case head => exact exec_release h hr (releaseOn_waiting (s := s.taken p) hh hw)

/-! ### LOCK and UNLOCK (02, R40, R41) -/

theorem inRange_iff {lo hi n : Nat} : inRange lo hi n = true ↔ lo ≤ n ∧ n ≤ hi := by simp [inRange]

theorem exec_lock {p : Port} {n : W16} {tag a b : Byte} {l : Chan} {ms : Nat} {s u : State} {r : Reply}
    (h : s.offers p n 9 [tag, a, b]) (hr : s.routes p tag l) (hms : ms = 256 * a.toNat + b.toNat)
    (ho : lockOn p ms l (s.taken p) = (u, r)) : exec (.lock p) s = .next (u.replied p n r) :=
  have fields : readTagWord [tag, a, b] = some (tag.toNat, ms) := by rw [hms, ← ofBytes_pair]; rfl
  done_serve_routed (lockOn p ms) (owner := lockOwner p) h fields hr rfl ho

theorem lockOn_range {p : Port} {ms : Nat} {l : Chan} {s : State} (hh : (s.auRec l).holder = some p)
    (hms : ms = 0 ∨ 10000 < ms) : lockOn p ms l s = (s, .bare .range) := by
  unfold lockOn
  rw [if_pos (holds_of_holder hh), if_neg (by rw [inRange_iff]; omega)]

theorem lockOn_set {p : Port} {ms : Nat} {l : Chan} {s : State} (hh : (s.auRec l).holder = some p)
    (hlo : 1 ≤ ms) (hhi : ms ≤ 10000) : lockOn p ms l s =
      ({ s with auth := vset s.auth l { s.auRec l with lock := some (s.periods ms) } }, .okWith (beBytes 3 (s.periods ms))) := by
  unfold lockOn
  rw [if_pos (holds_of_holder hh), if_pos (inRange_iff.mpr ⟨hlo, hhi⟩)]

theorem exec_unlock {p : Port} {n : W16} {tag : Byte} {l : Chan} {s u : State} {r : Reply}
    (h : s.offers p n 10 [tag]) (hr : s.routes p tag l) (ho : unlockOn p l (s.taken p) = (u, r)) :
    exec (.unlock p) s = .next (u.replied p n r) :=
  have fields : readByte [tag] = some tag.toNat := rfl
  done_serve_routed (unlockOn p) (owner := unlockOwner p) h fields hr rfl ho

theorem unlockOn_notLocked {p : Port} {l : Chan} {s : State} (hh : (s.auRec l).holder = some p)
    (hl : (s.auRec l).lock = none) : unlockOn p l s = (s, .bare .notLocked) := by
  unfold unlockOn
  rw [if_pos (holds_of_holder hh), hl]
  rfl

/-- A drop of the lock that the head of the list does not use, and one that it does. -/
theorem unlockOn_dropped {p : Port} {l : Chan} {s t : State} (hh : (s.auRec l).holder = some p)
    (hl : (s.auRec l).lock ≠ none)
    (ht : preemptByHead l { s with auth := vset s.auth l { s.auRec l with lock := none } } = t) :
    unlockOn p l s = (takeReactions t, .okWith (portByte ((t.auRec l).holder.getD p))) := by
  unfold unlockOn
  rw [if_pos (holds_of_holder hh), if_pos (Option.isSome_iff_ne_none.mpr hl), ht]

section

variable {p : Port} {l : Chan} {k : Nat} {s : State}

theorem unlockOn_stays (hh : (s.auRec l).holder = some p)
    (hl : (s.auRec l).lock ≠ none) (hk : (s.auRec l).holderRank = some k)
    (hw : ∀ x, (s.auRec l).waiting.head? = some x → x.rank ≤ k) : unlockOn p l s =
      (takeReactions { s with auth := vset s.auth l { s.auRec l with lock := none } }, .okWith (portByte p)) := by
  have written : ({ s with auth := vset s.auth l { s.auRec l with lock := none } } : State).auRec l =
      { s.auRec l with lock := none } := vget_vset_self _ _ _
  rw [unlockOn_dropped hh hl (preemptByHead_stays (k := k) (by rw [written]; exact hk) (by rw [written]; exact hw)), written]
  dsimp only
  rw [hh]
  rfl

theorem unlockOn_passes {x : Claim} {rest : List Claim}
    (hh : (s.auRec l).holder = some p) (hl : (s.auRec l).lock ≠ none) (hk : (s.auRec l).holderRank = some k)
    (hw : (s.auRec l).waiting = x :: rest) (hx : k < x.rank) : unlockOn p l s =
      (takeReactions (handTo x.port .authority (handTo p .authority (changeHolder l (some x.port)
        { s with auth := vset s.auth l { s.auRec l with lock := none, waiting := rest } }))), .okWith (portByte x.port)) := by
  have written : ({ s with auth := vset s.auth l { s.auRec l with lock := none } } : State).auRec l =
      { s.auRec l with lock := none } := vget_vset_self _ _ _
  rw [unlockOn_dropped hh hl (preemptByHead_passes (k := k) (old := p) (by rw [written]; exact hk) (by rw [written]; exact hh)
    (by rw [written]; exact hw) hx), handTo_auRec, handTo_auRec, changeHolder_holder, unqueued_record]
  rfl

end

/-- Settles O33. -/
theorem locksAreSetAndDropped : Obligations.LocksAreSetAndDropped := by
  refine ⟨fun p n tag a b l ms s h hr hms => ⟨fun hh => ?lockNotHolder, fun hh hbad => ?lockRange, fun hh hlo hhi => ?locked⟩,
    fun p n tag l k s h hr => ⟨fun hh => ?notHolder, fun hh hl => ?notLocked, fun hh hl hk => ⟨fun hw => ?stays,
      fun x rest hw hx => ?passes⟩⟩⟩
  case lockNotHolder => exact exec_lock h hr hms (if_neg (not_holds (s := s.taken p) hh))
  case lockRange => exact exec_lock h hr hms (lockOn_range (s := s.taken p) hh hbad)
  case locked => exact exec_lock h hr hms (lockOn_set (s := s.taken p) hh hlo hhi)
  case notHolder => exact exec_unlock h hr (if_neg (not_holds (s := s.taken p) hh))
  case notLocked => exact exec_unlock h hr (unlockOn_notLocked (s := s.taken p) hh hl)
  case stays => exact exec_unlock h hr (unlockOn_stays (s := s.taken p) hh hl hk hw)
  case passes => exact exec_unlock h hr (unlockOn_passes (s := s.taken p) hh hl hk hw hx)

end Sys2Proof.Machine


namespace Sys2Proof.Machine

/-! ### CLAIM (02, R32 to R35) -/

/-- The wake that a CLAIM from a permitted port gives a PARKED link, whatever its outcome (02, R32; log 28). -/
theorem exec_claim {p : Port} {n : W16} {tag w : Byte} {l : Chan} {s u : State} {r : Reply} (h : s.offers p n 6 [tag, w])
    (hr : s.routes p tag l) (ho : claimOn p (decide (w ≠ 0)) l (s.taken p) = (u, r)) :
    exec (.claim p) s =
      .next ((if vget s.consts.wakePermit p = true then wakeLink u else u).replied p n r) := by
  have fields : readTagFlag [tag, w] = some (tag.toNat, decide (w ≠ 0)) := rfl
  have routed : onRoute p tag.toNat (claimOn p (decide (w ≠ 0))) (s.taken p) = (u, r) :=
    (onRoute_routed (s := s.taken p) _ hr).trans ho
  refine done_serve_owner (owner := claimOwner p) h fields ?_
  unfold claimOwner
  dsimp only
  rw [routed]
  rfl

section

variable {p : Port} {wait : Bool} {l : Chan} {s : State}

theorem claimOn_rank (h : s.rank p = 0) : claimOn p wait l s = (s, .bare .rank) := if_pos h

theorem claimOn_holder (h : s.rank p ≠ 0) (hh : (s.auRec l).holder = some p) :
    claimOn p wait l s = (s, ⟨.already, [0]⟩) := (if_neg h).trans (if_pos hh)

theorem claimOn_waiting {k : Nat} (h : s.rank p ≠ 0) (hh : (s.auRec l).holder ≠ some p)
    (hw : waitPosition p (s.auRec l).waiting = some k) : claimOn p wait l s = (s, ⟨.already, 1 :: beBytes 1 k⟩) := by
  unfold claimOn
  dsimp only
  rw [if_neg h, if_neg hh, hw]

/-- A claim of a port that neither holds the channel nor waits for it. -/
theorem claimOn_unheld (h : s.rank p ≠ 0) (hh : (s.auRec l).holder = none) (hw : ∀ x ∈ (s.auRec l).waiting, x.port ≠ p) :
    claimOn p wait l s = grantFree p l s := by
  unfold claimOn
  dsimp only
  rw [if_neg h, if_neg (by rw [hh]; exact nofun), (waitPosition_eq_none p _).mpr hw, hh]

theorem claimOn_held {old : Port} (h : s.rank p ≠ 0) (hh : (s.auRec l).holder = some old) (hp : old ≠ p)
    (hw : ∀ x ∈ (s.auRec l).waiting, x.port ≠ p) :
    claimOn p wait l s =
      if (s.auRec l).rankOf < s.rank p ∧ (s.auRec l).lock = none then grantOver p old l s
      else if wait then queueClaim p l old s
      else (s, ⟨.taken, portByte old ++ beBytes 1 (s.auRec l).rankOf ++ [flagByte (s.auRec l).lock.isSome]⟩) := by
  unfold claimOn
  dsimp only
  rw [if_neg h, if_neg (by rw [hh]; exact fun he => hp (Option.some.inj he)), (waitPosition_eq_none p _).mpr hw, hh]

theorem claimOn_free (h : s.rank p ≠ 0) (hh : (s.auRec l).holder = none) (hw : ∀ x ∈ (s.auRec l).waiting, x.port ≠ p) :
    claimOn p wait l s = (takeReactions (changeHolder l (some p) s),
      .okWith ([0] ++ wordBytes ((s.auRec l).epoch + 1) ++ [0])) := by
  rw [claimOn_unheld h hh hw]
  dsimp only [grantFree]
  rw [changeHolder_epoch]
  rfl

theorem rankOf_of_rank {k : Nat} (hk : (s.auRec l).holderRank = some k) : (s.auRec l).rankOf = k := by
  rw [AuthRecord.rankOf, hk]
  rfl

theorem claimOn_over {old : Port} {k : Nat} (h : s.rank p ≠ 0) (hh : (s.auRec l).holder = some old) (hp : old ≠ p)
    (hw : ∀ x ∈ (s.auRec l).waiting, x.port ≠ p) (hk : (s.auRec l).holderRank = some k) (hlt : k < s.rank p)
    (hl : (s.auRec l).lock = none) :
    claimOn p wait l s = (takeReactions (handTo old .authority (changeHolder l (some p) s)),
      .okWith ([0] ++ wordBytes ((s.auRec l).epoch + 1) ++ [1] ++ portByte old ++ [flagByte (s.eng l).state.running])) := by
  rw [claimOn_held h hh hp hw, rankOf_of_rank hk, if_pos ⟨hlt, hl⟩]
  dsimp only [grantOver]
  rw [handTo_auRec, changeHolder_epoch]
  simp [optPort, optBytes]

/-- A claim that may not preempt waits if it may, and is told who holds the channel if not. -/
theorem claimOn_behind {old : Port} {k : Nat} (h : s.rank p ≠ 0) (hh : (s.auRec l).holder = some old) (hp : old ≠ p)
    (hw : ∀ x ∈ (s.auRec l).waiting, x.port ≠ p) (hk : (s.auRec l).holderRank = some k)
    (hb : s.rank p ≤ k ∨ (s.auRec l).lock ≠ none) :
    claimOn p wait l s = if wait then queueClaim p l old s
      else (s, ⟨.taken, portByte old ++ beBytes 1 k ++ [flagByte (s.auRec l).lock.isSome]⟩) := by
  rw [claimOn_held h hh hp hw, rankOf_of_rank hk, if_neg fun hlt => hb.elim (Nat.not_le_of_lt hlt.1) fun hn => hn hlt.2]

end

/-- In a list of descending ranks a claim of another rank joins behind the higher ones. -/
theorem insertClaim_split {x : Claim} : ∀ {w : List Claim}, w.Pairwise (fun a b => b.rank < a.rank) →
    (∀ a ∈ w, a.rank ≠ x.rank) →
    insertClaim x w = w.filter (fun a => decide (x.rank < a.rank)) ++ x :: w.filter (fun a => decide (a.rank < x.rank))
  | [], _, _ => rfl
  | y :: rest, hp, hne => by
    rw [List.pairwise_cons] at hp
    have hy := hne y List.mem_cons_self
    unfold insertClaim
    split
    · next hlt =>
      have lower : ∀ a ∈ rest, a.rank < x.rank := fun a ha => Nat.lt_trans (hp.1 a ha) hlt
      have none_higher : (y :: rest).filter (fun a => decide (x.rank < a.rank)) = [] := by
        rw [List.filter_eq_nil_iff]
        intro a ha
        rw [decide_eq_true_eq]
        rcases List.mem_cons.mp ha with rfl | ha
        · exact Nat.lt_asymm hlt
        · exact Nat.lt_asymm (lower a ha)
      have all_lower : (y :: rest).filter (fun a => decide (a.rank < x.rank)) = y :: rest := by
        rw [List.filter_eq_self]
        intro a ha
        rw [decide_eq_true_eq]
        rcases List.mem_cons.mp ha with rfl | ha
        · exact hlt
        · exact lower a ha
      rw [none_higher, all_lower]
      rfl
    · next hge =>
      have higher : x.rank < y.rank := by omega
      rw [insertClaim_split hp.2 fun a ha => hne a (List.mem_cons_of_mem _ ha),
        List.filter_cons_of_pos (by simpa using higher), List.filter_cons_of_neg (by simpa using Nat.le_of_lt higher)]
      rfl

theorem waitPosition_append {p : Port} {x : Claim} {after : List Claim} (hx : x.port = p) : ∀ {before : List Claim},
    (∀ a ∈ before, a.port ≠ p) → waitPosition p (before ++ x :: after) = some (before.length + 1)
  | [], _ => if_pos hx
  | y :: rest, h => by
    rw [List.cons_append, waitPosition, if_neg (h y List.mem_cons_self),
      waitPosition_append hx fun a ha => h a (List.mem_cons_of_mem _ ha)]
    rfl

theorem queueClaim_joined {p old : Port} {l : Chan} {k : Nat} {s : State} (hw : ∀ x ∈ (s.auRec l).waiting, x.port ≠ p)
    (hk : (s.auRec l).holderRank = some k) (hp : (s.auRec l).waiting.Pairwise (fun x y => y.rank < x.rank))
    (hne : ∀ x ∈ (s.auRec l).waiting, x.rank ≠ s.rank p) :
    queueClaim p l old s = ({ s with auth := vset s.auth l { s.auRec l with
        waiting := (s.auRec l).waiting.filter (fun x => decide (s.rank p < x.rank)) ++
          ⟨p, s.rank p⟩ :: (s.auRec l).waiting.filter (fun x => decide (x.rank < s.rank p)) } },
      .okWith ([1] ++ beBytes 1 (((s.auRec l).waiting.filter fun x => decide (s.rank p < x.rank)).length + 1) ++
        portByte old ++ beBytes 1 k)) := by
  have joined := insertClaim_split (x := ⟨p, s.rank p⟩) hp hne
  have position := waitPosition_append (p := p) (x := ⟨p, s.rank p⟩)
    (after := (s.auRec l).waiting.filter fun x => decide (x.rank < s.rank p)) rfl
    (before := (s.auRec l).waiting.filter fun x => decide (s.rank p < x.rank))
    fun a ha => hw a (List.mem_filter.mp ha).1
  unfold queueClaim
  dsimp only
  rw [joined, position, rankOf_of_rank hk]
  rfl

/-- Settles O31. -/
theorem claimsAreGrantedWaitOrAreRefused : Obligations.ClaimsAreGrantedWaitOrAreRefused := by
  refine ⟨fun p n tag w l s u h hr hrank hw => ⟨fun hh hu => ?free, fun old k hh hp hk hlt hl hu => ?preempts⟩,
    fun p n tag w l wake s h hr hwake => ?_⟩
  case free =>
    rw [hu]
    exact exec_claim h hr (claimOn_free (s := s.taken p) hrank hh hw)
  case preempts =>
    rw [hu]
    exact exec_claim h hr (claimOn_over (s := s.taken p) hrank hh hp hw hk hlt hl)
  have answered {u : State} {r : Reply} (ho : claimOn p (decide (w ≠ 0)) l (s.taken p) = (u, r)) :
      exec (.claim p) s = .next ((wake u).replied p n r) := by
    rw [hwake]
    exact exec_claim h hr ho
  refine ⟨fun hrank => ?rank, fun hrank hh => ?holder, fun k hrank hh hk => ?waiting,
    fun old k hrank hh hp hk hw hb => ⟨fun h0 => ?taken, fun h0 hpair hne => ?joins⟩⟩
  case rank => exact answered (claimOn_rank (s := s.taken p) hrank)
  case holder => exact answered (claimOn_holder (s := s.taken p) hrank hh)
  case waiting => exact answered (claimOn_waiting (s := s.taken p) hrank hh hk)
  case taken =>
    refine answered ((claimOn_behind (s := s.taken p) hrank hh hp hw hk hb).trans (if_neg ?_))
    simpa using h0
  case joins =>
    refine answered ((claimOn_behind (s := s.taken p) hrank hh hp hw hk hb).trans ((if_pos ?_).trans
      (queueClaim_joined (s := s.taken p) hw hk hpair hne)))
    simpa using h0

end Sys2Proof.Machine


namespace Sys2Proof.Machine

/-! ### Engines of a group, written one after another -/

theorem clearIntegrators_eq : ∀ (g : List Chan) (s : State), clearIntegrators g s =
    { s with engines := vmap g (fun _ e => { e with integD := 0, integQ := 0 }) s.engines }
  | [], _ => rfl
  | _ :: rest, _ => clearIntegrators_eq rest _

theorem clearTrips_eq : ∀ (g : List Chan) (s : State), clearTrips g s =
    { s with engines := vmap g (fun _ e => { e with trip := none, brakeMark := false }) s.engines }
  | [], _ => rfl
  | _ :: rest, _ => clearTrips_eq rest _

theorem clearMarks_eq : ∀ (g : List Chan) (s : State), clearMarks g s =
    { s with engines := vmap g (fun _ e => { e with brakeMark := false }) s.engines }
  | [], _ => rfl
  | _ :: rest, _ => clearMarks_eq rest _

/-! ### ENGAGE (01, R18) -/

theorem exec_engage {p : Port} {n : W16} {tag : Byte} {l : Chan} {s u : State} {r : Reply}
    (h : s.offers p n 12 [tag]) (hr : s.routes p tag l) (ho : engageOn p l (s.taken p) = (u, r)) :
    exec (.engage p) s = .next (u.replied p n r) :=
  have fields : readByte [tag] = some tag.toNat := rfl
  done_serve_routed (engageOn p) (owner := engageOwner p) h fields hr rfl ho

section

variable {p : Port} {l : Chan} {s : State}

theorem toReleasing_eq : toReleasing l s = moveGroup l .releasing (some (s.periods (s.env l).guarded.brakeMs))
    { s with
      engines := s.onGroup l fun e => { e with integD := 0, integQ := 0 }
      queues := s.onQueue l fun q => { q with gap := 0, starved := false } } := by
  unfold toReleasing
  rw [clearIntegrators_eq]
  rfl

theorem engageOn_refused {x : Status} (hh : (s.auRec l).holder = some p) (hx : s.engageFault l = some x)
    (hp : x ≠ .parked) : engageOn p l s = (s, .bare x) := by
  unfold engageOn
  rw [if_pos (holds_of_holder hh), hx]
  dsimp only
  rw [if_neg fun hc => hp hc.1]

theorem engageOn_parked (hh : (s.auRec l).holder = some p) (hx : s.engageFault l = some .parked) :
    engageOn p l s = (if vget s.consts.wakePermit p = true then wakeLink s else s, .bare .parked) := by
  unfold engageOn
  rw [if_pos (holds_of_holder hh), hx]
  simp only [true_and]

theorem engageOn_passed (hh : (s.auRec l).holder = some p) (hx : s.engageFault l = none) :
    engageOn p l s = (toReleasing l s, .bare .ok) := by
  unfold engageOn
  rw [if_pos (holds_of_holder hh), hx]

/-- The checks of ENGAGE past the reaction in service: the link, the latch, the channel and its brakes. -/
theorem engageFault_unserved (hb : s.linkReactionInService = false) :
    s.engageFault l = match s.link.state.engageStatus with
      | some x => some x
      | none => if s.react.latch then some .safeLatch
        else if (s.eng l).state ≠ .off then some .state else if s.brakeMarked l then some .state else none := by
  unfold State.engageFault
  exact if_neg (by rw [hb]; exact Bool.false_ne_true)

theorem engageFault_link {x : Status} (hb : s.linkReactionInService = false) (hx : s.link.state.engageStatus = some x) :
    s.engageFault l = some x := by
  rw [engageFault_unserved hb, hx]

theorem engageFault_latch (hb : s.linkReactionInService = false) (hl : s.link.state = .ready)
    (hs : s.react.latch = true) : s.engageFault l = some .safeLatch := by
  rw [engageFault_unserved hb, hl]
  exact if_pos hs

theorem engageFault_state (hb : s.linkReactionInService = false) (hl : s.link.state = .ready)
    (hs : s.react.latch = false) (hx : (s.eng l).state ≠ .off ∨ ∃ c ∈ s.group l, (s.eng c).brakeMark = true) :
    s.engageFault l = some .state := by
  rw [engageFault_unserved hb, hl]
  refine (if_neg (by rw [hs]; exact Bool.false_ne_true)).trans ?_
  split
  · rfl
  · next hoff => exact if_pos (List.any_eq_true.mpr (hx.resolve_left hoff))

theorem engageFault_passed (hb : s.linkReactionInService = false) (hl : s.link.state = .ready)
    (hs : s.react.latch = false) (hx : (s.eng l).state = .off) (hm : ∀ c ∈ s.group l, (s.eng c).brakeMark = false) :
    s.engageFault l = none := by
  rw [engageFault_unserved hb, hl]
  refine (if_neg (by rw [hs]; exact Bool.false_ne_true)).trans ((if_neg (not_not_intro hx)).trans (if_neg ?_))
  rw [State.brakeMarked, List.any_eq_true]
  rintro ⟨c, hc, hb⟩
  rw [hm c hc] at hb
  exact Bool.false_ne_true hb

end

/-- Settles O34. -/
theorem engageReleasesTheBrakeOrIsRefused : Obligations.EngageReleasesTheBrakeOrIsRefused := by
  refine ⟨fun p n tag l s h hr hh hb hl hs hx hm => ?passed, fun p n tag l s answers h hr hans => ?_⟩
  case passed =>
    exact exec_engage h hr ((engageOn_passed (s := s.taken p) hh (engageFault_passed (s := s.taken p) hb hl hs hx hm)).trans
      (by rw [toReleasing_eq]; rfl))
  have refused {x : Status} (hh : (s.auRec l).holder = some p) (hx : (s.taken p).engageFault l = some x)
      (hp : x ≠ .parked) : answers x := (hans x).mpr (exec_engage h hr (engageOn_refused (s := s.taken p) hh hx hp))
  refine ⟨fun hh => (hans _).mpr (exec_engage h hr (if_neg (not_holds (s := s.taken p) hh))), fun hh =>
    ⟨fun hb => ?busy, fun hb => ⟨fun hl => ?parked, fun hl => ?waking, fun hl => ?link, fun hl => ⟨fun hs => ?latch, fun hs hx => ?state⟩⟩⟩⟩
  case busy => exact refused hh (if_pos hb) nofun
  case parked =>
    refine exec_engage h hr (engageOn_parked (s := s.taken p) hh (engageFault_link (s := s.taken p) hb ?_))
    rw [popRequest_link, hl]
    rfl
  case waking =>
    refine refused hh (engageFault_link (s := s.taken p) hb ?_) nofun
    rw [popRequest_link, hl]
    rfl
  case link =>
    refine refused hh (engageFault_link (s := s.taken p) hb ?_) nofun
    rw [popRequest_link]
    rcases hl with hl | hl | hl | hl <;> rw [hl] <;> rfl
  case latch => exact refused hh (engageFault_latch (s := s.taken p) hb hl hs) nofun
  case state => exact refused hh (engageFault_state (s := s.taken p) hb hl hs hx) nofun

/-! ### DISENGAGE, FORCE_RAMP and RESTORE (01, R19 to R21) -/

theorem exec_disengage {p : Port} {n : W16} {tag : Byte} {l : Chan} {s u : State} {r : Reply}
    (h : s.offers p n 13 [tag]) (hr : s.routes p tag l) (ho : disengageOn p l (s.taken p) = (u, r)) :
    exec (.disengage p) s = .next (u.replied p n r) :=
  have fields : readByte [tag] = some tag.toNat := rfl
  done_serve_routed (disengageOn p) (owner := disengageOwner p) h fields hr rfl ho

theorem exec_forceRamp {p : Port} {n : W16} {tag : Byte} {l : Chan} {s u : State} {r : Reply}
    (h : s.offers p n 14 [tag]) (hr : s.routes p tag l) (ho : forceRampOn p l (s.taken p) = (u, r)) :
    exec (.forceRamp p) s = .next (u.replied p n r) :=
  have fields : readByte [tag] = some tag.toNat := rfl
  done_serve_routed (forceRampOn p) (owner := forceRampOwner p) h fields hr rfl ho

theorem exec_restore {p : Port} {n : W16} {tag : Byte} {l : Chan} {s u : State} {r : Reply}
    (h : s.offers p n 15 [tag]) (hr : s.routes p tag l) (ho : restoreOn p l (s.taken p) = (u, r)) :
    exec (.restore p) s = .next (u.replied p n r) :=
  have fields : readByte [tag] = some tag.toNat := rfl
  done_serve_routed (restoreOn p) (owner := restoreOwner p) h fields hr rfl ho

section

variable {p : Port} {l : Chan} {s : State}

theorem holdsOrSafety_iff : s.holdsOrSafety p l = true ↔ (s.auRec l).holder = some p ∨ p = s.safetyPort := by
  rw [State.holdsOrSafety, State.holds, Bool.or_eq_true, decide_eq_true_eq, decide_eq_true_eq]

theorem disengageOn_idle (hh : (s.auRec l).holder = some p) (hs : (s.eng l).state.running = false) :
    disengageOn p l s = (s, .bare .state) := by
  unfold disengageOn
  rw [if_pos (holds_of_holder hh), if_neg (by rw [hs]; exact Bool.false_ne_true)]

theorem disengageOn_running (hh : (s.auRec l).holder = some p) (hs : (s.eng l).state.running = true) :
    disengageOn p l s = (takeReactions (toHolding l s), .bare .ok) := by
  unfold disengageOn
  rw [if_pos (holds_of_holder hh), if_pos hs]

theorem not_holdsOrSafety (hh : (s.auRec l).holder ≠ some p) (hp : p ≠ s.safetyPort) : ¬ s.holdsOrSafety p l = true := by
  rw [holdsOrSafety_iff]
  exact fun h => h.elim hh hp

theorem forceRampOn_state (hh : (s.auRec l).holder = some p ∨ p = s.safetyPort) (hs : (s.eng l).state ≠ .holding) :
    forceRampOn p l s = (s, .bare .state) := by
  unfold forceRampOn
  rw [if_pos (holdsOrSafety_iff.mpr hh), if_neg hs]

theorem forceRampOn_holding (hh : (s.auRec l).holder = some p ∨ p = s.safetyPort) (hs : (s.eng l).state = .holding) :
    forceRampOn p l s = (toRamping l s, .bare .ok) := by
  unfold forceRampOn
  rw [if_pos (holdsOrSafety_iff.mpr hh), if_pos hs]

theorem restoreOn_busy (hh : (s.auRec l).holder = some p ∨ p = s.safetyPort) (hb : s.linkReactionInService = true) :
    restoreOn p l s = (s, .bare .busy) := by
  unfold restoreOn
  rw [if_pos (holdsOrSafety_iff.mpr hh), if_pos hb]

theorem restoreOn_state (hh : (s.auRec l).holder = some p ∨ p = s.safetyPort) (hb : s.linkReactionInService = false)
    (ht : (s.eng l).state ≠ .tripped) (ho : (s.eng l).state ≠ .off) : restoreOn p l s = (s, .bare .state) := by
  unfold restoreOn
  rw [if_pos (holdsOrSafety_iff.mpr hh), if_neg (by rw [hb]; exact Bool.false_ne_true)]
  split
  · next hs => exact absurd hs ht
  · next hs => exact absurd hs ho
  all_goals rfl

theorem restoreOn_tripped (hh : (s.auRec l).holder = some p ∨ p = s.safetyPort) (hb : s.linkReactionInService = false)
    (ht : (s.eng l).state = .tripped) : restoreOn p l s =
      if s.bridgeActive l then (s, .bare .active) else (toOff l (clearTrips (s.group l) s), .bare .ok) := by
  unfold restoreOn
  rw [if_pos (holdsOrSafety_iff.mpr hh), if_neg (by rw [hb]; exact Bool.false_ne_true), ht]

theorem restoreOn_off (hh : (s.auRec l).holder = some p ∨ p = s.safetyPort) (hb : s.linkReactionInService = false)
    (ht : (s.eng l).state = .off) : restoreOn p l s = (clearMarks (s.group l) s, .bare .ok) := by
  unfold restoreOn
  rw [if_pos (holdsOrSafety_iff.mpr hh), if_neg (by rw [hb]; exact Bool.false_ne_true), ht]

theorem bridgeActive_iff : s.bridgeActive l = true ↔ ∃ c ∈ s.group l, (s.eng c).desat = true ∨ (s.eng c).overtemp = true := by
  simp [State.bridgeActive, List.any_eq_true]

/-- Every image of an engine that keeps the id target leaves it in the table. -/
theorem vget_vmap_field {α β : Type} {n : Nat} {f : α → α} (field : α → β) (hf : ∀ a, field (f a) = field a) (j : Fin n) :
    ∀ (g : List (Fin n)) (v : Vector α n), field (vget (vmap g (fun _ => f) v) j) = field (vget v j)
  | [], _ => rfl
  | i :: rest, v => by
    rw [vmap, vget_vmap_field field hf j rest, vget_vset]
    split
    · next h => rw [hf, h]
    · rfl

theorem toOff_clearTrips : toOff l (clearTrips (s.group l) s) = moveGroup l .off none { s with
    engines := vset (s.onGroup l fun e => { e with trip := none, brakeMark := false }) l
      { vget (s.onGroup l fun e => { e with trip := none, brakeMark := false }) l with
        active := { iq := 0, id := (s.eng l).idTarget, split := 0, vff := 0 } } } := by
  have target := vget_vmap_field (f := fun e : Engine => { e with trip := none, brakeMark := false }) (·.idTarget)
    (fun _ => rfl) l (s.group l) s.engines
  unfold toOff
  rw [clearTrips_eq]
  dsimp only [Engine.zeroDemand, State.eng]
  rw [target]

end

/-- Settles O35. -/
theorem channelsAreStoppedAndRestored : Obligations.ChannelsAreStoppedAndRestored := by
  refine ⟨fun p n tag l s hr => ⟨fun h => ⟨fun hh => ?_, fun hh hs => ?_, fun hh hs => ?_⟩,
    fun h => ⟨fun hh hp => ?_, fun hh hs => ?_, fun hh hs => ?_⟩⟩, fun p n tag l s h hr => ⟨fun hh hp => ?_, fun hh =>
    ⟨fun hb => ?_, fun hb => ⟨fun ht ho => ?_, fun ht ha => ?_, fun ht ha => ⟨_, rfl, ?_⟩, fun ho => ?_⟩⟩⟩⟩
  · exact exec_disengage h hr (if_neg (not_holds (s := s.taken p) hh))
  · exact exec_disengage h hr (disengageOn_idle (s := s.taken p) hh hs)
  · exact exec_disengage h hr (disengageOn_running (s := s.taken p) hh hs)
  · exact exec_forceRamp h hr (if_neg (not_holdsOrSafety (s := s.taken p) hh hp))
  · exact exec_forceRamp h hr (forceRampOn_state (s := s.taken p) hh hs)
  · exact exec_forceRamp h hr (forceRampOn_holding (s := s.taken p) hh hs)
  · exact exec_restore h hr (if_neg (not_holdsOrSafety (s := s.taken p) hh hp))
  · exact exec_restore h hr (restoreOn_busy (s := s.taken p) hh hb)
  · exact exec_restore h hr (restoreOn_state (s := s.taken p) hh hb ht ho)
  · exact exec_restore h hr ((restoreOn_tripped (s := s.taken p) hh hb ht).trans (if_pos (bridgeActive_iff.mpr ha)))
  · refine exec_restore h hr ((restoreOn_tripped (s := s.taken p) hh hb ht).trans ((if_neg ?_).trans ?_))
    · rw [bridgeActive_iff]
      rintro ⟨c, hc, hd⟩
      obtain ⟨hdesat, hover⟩ := ha c hc
      have hd' : (s.eng c).desat = true ∨ (s.eng c).overtemp = true := hd
      rw [hdesat, hover] at hd'
      exact hd'.elim Bool.false_ne_true Bool.false_ne_true
    · rw [toOff_clearTrips]
      rfl
  · refine exec_restore h hr ((restoreOn_off (s := s.taken p) hh hb ho).trans ?_)
    rw [clearMarks_eq]
    rfl

end Sys2Proof.Machine


namespace Sys2Proof.Machine

/-! ### Requests under a holder's epoch (03, R55) -/

section

variable {p : Port} {epoch : W16} {own : Chan → State → State × Reply} {l : Chan} {s : State}

theorem asHolder_notHolder (hh : (s.auRec l).holder ≠ some p) : asHolder p epoch own l s = (s, .bare .notHolder) :=
  if_neg (not_holds hh)

theorem asHolder_epoch (hh : (s.auRec l).holder = some p) (he : epoch ≠ (s.auRec l).epoch) :
    asHolder p epoch own l s = (s, .bare .epoch) := (if_pos (holds_of_holder hh)).trans (if_neg he)

theorem asHolder_passed (hh : (s.auRec l).holder = some p) (he : epoch = (s.auRec l).epoch) :
    asHolder p epoch own l s = own l s := (if_pos (holds_of_holder hh)).trans (if_pos he)

end

theorem toNat_byte (b : Byte) : (BitVec.ofNat 8 b.toNat).toNat = b.toNat := by rw [BitVec.ofNat_toNat, BitVec.setWidth_eq]

/-! ### DEMAND (03, R55, R57, R59) -/

theorem readDemand_tag {fields : List Byte} {f : DemandFields} (h : readDemand fields = some f) :
    (BitVec.ofNat 8 f.tag).toNat = f.tag := by
  unfold readDemand at h
  split at h
  · split at h
    · cases h
    · obtain ⟨es, -, rfl⟩ := Option.map_eq_some_iff.mp h
      exact toNat_byte _
  · cases h

theorem exec_demand {p : Port} {n : W16} {fields : List Byte} {f : DemandFields} {l : Chan} {s u : State} {r : Reply}
    (h : s.offers p n 17 fields) (hf : readDemand fields = some f) (hr : s.routes p (BitVec.ofNat 8 f.tag) l)
    (ho : asHolder p f.epoch (demandOn f.entries) l (s.taken p) = (u, r)) :
    exec (.demand p) s = .next (u.replied p n r) :=
  done_serve_routed (asHolder p f.epoch (demandOn f.entries)) (owner := demandOwner p) h hf hr
    (by rw [readDemand_tag hf]; rfl) ho

theorem demandOn_closed {es : List RawEntry} {l : Chan} {s : State} (hs : (s.eng l).state.demandable = false) :
    demandOn es l s = (s, .bare .state) := if_neg (by rw [hs]; exact Bool.false_ne_true)

theorem demandOn_judged {es : List RawEntry} {l : Chan} {s : State} {q : List Entry} {outs : List EntryOutcome}
    (hs : (s.eng l).state.demandable = true)
    (hj : judgeEntries s.judgedPeriod (s.consts.isLeader l) es (s.queue l).entries = (q, outs)) :
    demandOn es l s = ({ s with queues := s.onQueue l fun x => { x with entries := q } },
      .okWith (listBytes (outs.map fun (o : EntryOutcome) => beBytes 1 o.index) ++ beBytes 1 q.length ++
        optBytes ((s.queue l).lastApplied.map stampBytes))) := by
  unfold demandOn
  rw [if_pos hs, hj]
  rfl

/-- Settles O36. -/
theorem demandJudgesItsEntries : Obligations.DemandJudgesItsEntries := by
  refine fun p n fields f l s q outs h hf hr hj =>
    ⟨fun hh => ?notHolder, fun hh he => ?epoch, fun hh he => ⟨fun hs => ?state, fun hs => ?judged⟩⟩
  case notHolder => exact exec_demand h hf hr (asHolder_notHolder (s := s.taken p) hh)
  case epoch => exact exec_demand h hf hr (asHolder_epoch (s := s.taken p) hh he)
  case state =>
    refine exec_demand h hf hr ((asHolder_passed (s := s.taken p) hh he).trans (demandOn_closed ?_))
    rw [State.eng, popRequest_engines, ← State.eng]
    rcases hs with hs | hs | hs | hs <;> rw [hs] <;> rfl
  case judged =>
    refine exec_demand h hf hr ((asHolder_passed (s := s.taken p) hh he).trans (demandOn_judged (s := s.taken p) ?_ hj))
    rw [State.eng, popRequest_engines, ← State.eng]
    rcases hs with hs | hs | hs <;> rw [hs] <;> rfl

/-! ### The outcome of an entry (03, R53, R57, R58) -/

theorem inSpan_iff {x : Int} : inSpan x = true ↔ x.natAbs ≤ 32767 := by
  rw [inSpan, Bool.and_eq_true, decide_eq_true_eq, decide_eq_true_eq]
  omega

theorem fieldOk_iff {leader : Bool} {x : RawEntry} : x.fieldOk leader = true ↔
    x.presence.toNat < 8 ∧ x.iq.natAbs ≤ 32767 ∧
      (x.presence.getLsbD 0 = true → x.id.natAbs ≤ 32767) ∧ (x.presence.getLsbD 2 = true → x.vff.natAbs ≤ 32767) ∧
      (x.presence.getLsbD 1 = true → leader = true ∧ x.split.natAbs ≤ 32767 ∧
        ((2 * x.iq + x.split).tdiv 2).natAbs ≤ 32767 ∧ ((2 * x.iq - x.split).tdiv 2).natAbs ≤ 32767) := by
  have optional (b c : Bool) : ((!b || c) = true) ↔ (b = true → c = true) := by cases b <;> simp
  simp only [RawEntry.fieldOk, Bool.and_eq_true, optional, inSpan_iff, decide_eq_true_eq, splitTarget, ← Int.sub_eq_add_neg,
    and_assoc]

theorem isLate_iff {judged stamp : W32} : isLate judged stamp = true ↔
    distance judged stamp = 0 ∨ 2147483648 ≤ distance judged stamp := by
  rw [isLate, Bool.or_eq_true, decide_eq_true_eq, decide_eq_true_eq]

theorem isFar_iff {judged stamp : W32} : isFar judged stamp = true ↔
    65 ≤ distance judged stamp ∧ distance judged stamp < 2147483648 := by
  rw [isFar, Bool.and_eq_true, decide_eq_true_eq, decide_eq_true_eq]
  rfl

/-- An entry of a new stamp joins behind the nearer ones. -/
theorem insertEntry_split {judged : W32} {e : Entry} : ∀ {q : List Entry},
    q.Pairwise (fun x y => distance judged x.stamp < distance judged y.stamp) →
    (∀ y ∈ q, distance judged y.stamp ≠ distance judged e.stamp) →
    insertEntry judged e q = q.filter (fun y => decide (distance judged y.stamp < distance judged e.stamp)) ++
      e :: q.filter (fun y => decide (distance judged e.stamp < distance judged y.stamp))
  | [], _, _ => rfl
  | z :: rest, hp, hne => by
    rw [List.pairwise_cons] at hp
    have hz := hne z List.mem_cons_self
    unfold insertEntry
    split
    · next hlt =>
      have later : ∀ y ∈ z :: rest, distance judged e.stamp < distance judged y.stamp := fun y hy =>
        (List.mem_cons.mp hy).elim (fun h => h ▸ hlt) fun h => Nat.lt_trans hlt (hp.1 y h)
      rw [List.filter_eq_nil_iff.mpr fun y hy => by simpa using Nat.le_of_lt (later y hy),
        List.filter_eq_self.mpr fun y hy => by simpa using later y hy]
      rfl
    · next hge =>
      have nearer : distance judged z.stamp < distance judged e.stamp := by omega
      rw [insertEntry_split hp.2 fun y hy => hne y (List.mem_cons_of_mem _ hy),
        List.filter_cons_of_pos (by simpa using nearer), List.filter_cons_of_neg (by simpa using Nat.le_of_lt nearer)]
      rfl

section

variable {judged : W32} {leader : Bool} {x : RawEntry} {q : List Entry}

theorem judgeEntry_field (hf : ¬ x.fieldOk leader = true) : judgeEntry judged leader x q = (q, .field) :=
  if_pos (by simpa using hf)

theorem judgeEntry_passed (hf : x.fieldOk leader = true) : judgeEntry judged leader x q =
    if isLate judged x.stamp then (q, .late)
    else if isFar judged x.stamp then (q, .far)
    else if q.any (fun y => decide (y.stamp = x.stamp)) then (overwriteEntry x.stored q, .replaced)
    else if 16 ≤ q.length then (q, .full)
    else (insertEntry judged x.stored q, .accepted) := if_neg (by simpa using hf)

theorem judgeEntry_late (hf : x.fieldOk leader = true)
    (hd : distance judged x.stamp = 0 ∨ 2147483648 ≤ distance judged x.stamp) :
    judgeEntry judged leader x q = (q, .late) := by
  rw [judgeEntry_passed hf, if_pos (isLate_iff.mpr hd)]

theorem judgeEntry_far (hf : x.fieldOk leader = true) (hlo : 65 ≤ distance judged x.stamp)
    (hhi : distance judged x.stamp < 2147483648) : judgeEntry judged leader x q = (q, .far) := by
  rw [judgeEntry_passed hf, if_neg (by rw [isLate_iff]; omega), if_pos (isFar_iff.mpr ⟨hlo, hhi⟩)]

/-- An entry within the horizon. -/
theorem judgeEntry_near (hf : x.fieldOk leader = true) (hlo : 1 ≤ distance judged x.stamp)
    (hhi : distance judged x.stamp ≤ 64) : judgeEntry judged leader x q =
      if q.any (fun y => decide (y.stamp = x.stamp)) then (overwriteEntry x.stored q, .replaced)
      else if 16 ≤ q.length then (q, .full) else (insertEntry judged x.stored q, .accepted) := by
  rw [judgeEntry_passed hf, if_neg (by rw [isLate_iff]; omega), if_neg (by rw [isFar_iff]; omega)]

theorem any_stamp : q.any (fun y => decide (y.stamp = x.stamp)) = true ↔ ∃ y ∈ q, y.stamp = x.stamp := by
  simp only [List.any_eq_true, decide_eq_true_eq]

theorem not_any_stamp (h : ∀ y ∈ q, y.stamp ≠ x.stamp) : ¬ q.any (fun y => decide (y.stamp = x.stamp)) = true := by
  rw [any_stamp]
  rintro ⟨y, hy, he⟩
  exact h y hy he

end

/-- Settles O37. -/
theorem entryOutcomesFollowTheirTests : Obligations.EntryOutcomesFollowTheirTests := by
  intro judged leader x q t o D e fieldOk hD hj he hok
  rw [← fieldOk_iff] at hok
  have hdist : distance judged x.stamp = D := hD.symm
  have stored : x.stored = e := he.symm
  have judges {t' : List Entry} {o' : EntryOutcome} (h : judgeEntry judged leader x q = (t', o')) : o = o' ∧ t = t' := by
    rw [hj] at h
    exact ⟨congrArg Prod.snd h, congrArg Prod.fst h⟩
  subst hdist
  refine ⟨fun hf => judges (judgeEntry_field (fun hc => hf (hok.mpr hc))), fun hf hd => judges (judgeEntry_late (hok.mp hf) hd),
    fun hf hlo hhi => judges (judgeEntry_far (hok.mp hf) hlo hhi), fun hf hlo hhi => ?_⟩
  have near := judgeEntry_near (q := q) (hok.mp hf) hlo hhi
  refine ⟨fun hy => ?replaced, fun hy hfull => ?full, fun hy hroom hord => ?accepted⟩
  case replaced =>
    refine judges (near.trans ((if_pos (any_stamp.mpr hy)).trans ?_))
    rw [stored, overwriteEntry, ← stored]
    rfl
  case full => exact judges (near.trans ((if_neg (not_any_stamp hy)).trans (if_pos hfull)))
  case accepted =>
    refine judges (near.trans ((if_neg (not_any_stamp hy)).trans ((if_neg (Nat.not_le_of_lt hroom)).trans ?_)))
    rw [insertEntry_split hord.2.1 fun y hm hd => hy y hm (distance_inj hd), ← stored]
    rfl

/-! ### RETRACT and FLUSH (03, R61, R62) -/

theorem exec_retract {p : Port} {n : W16} {fields : List Byte} {tag : Byte} {epoch : W16} {stamp : W32} {l : Chan} {s u : State}
    {r : Reply} (h : s.offers p n 18 fields) (hf : readRetract fields = some ⟨tag.toNat, epoch, stamp⟩)
    (hr : s.routes p tag l) (ho : asHolder p epoch (retractOn stamp) l (s.taken p) = (u, r)) :
    exec (.retract p) s = .next (u.replied p n r) :=
  done_serve_routed (asHolder p epoch (retractOn stamp)) (owner := retractOwner p) h hf hr rfl ho

theorem ofBytes_append (a b : Byte) : BitVec.ofNat 16 (ofBytes [a, b]) = a ++ b := by
  rw [ofBytes_pair]
  apply BitVec.eq_of_toNat_eq
  rw [BitVec.toNat_ofNat, BitVec.toNat_append, Nat.shiftLeft_eq, ← Nat.shiftLeft_eq, ← Nat.shiftLeft_add_eq_or_of_lt b.isLt,
    Nat.shiftLeft_eq]
  omega

theorem exec_flush {p : Port} {n : W16} {tag a b : Byte} {epoch : W16} {l : Chan} {s u : State} {r : Reply}
    (h : s.offers p n 19 [tag, a, b]) (he : epoch = a ++ b) (hr : s.routes p tag l)
    (ho : asHolder p epoch flushOn l (s.taken p) = (u, r)) : exec (.flush p) s = .next (u.replied p n r) :=
  have fields : readTagWord [tag, a, b] = some (tag.toNat, ofBytes [a, b]) := rfl
  done_serve_routed (asHolder p epoch flushOn) (owner := flushOwner p) h fields hr
    (by rw [he, ← ofBytes_append]; rfl) ho

theorem keptBefore_eq {judged stamp : W32} {D : Nat} {q : List Entry} (hD : D = (stamp - judged).toNat) :
    keptBefore judged stamp q = if D = 0 ∨ 2147483648 ≤ D then [] else if 64 < D then q
      else q.filter fun y => decide ((y.stamp - judged).toNat < D) := by
  have hdist : distance judged stamp = D := hD.symm
  unfold keptBefore
  by_cases hlate : D = 0 ∨ 2147483648 ≤ D
  · rw [if_pos (isLate_iff.mpr (hdist ▸ hlate)), if_pos hlate]
  · rw [if_neg (by rw [isLate_iff, hdist]; exact hlate), if_neg hlate]
    by_cases hfar : 64 < D
    · rw [if_pos (isFar_iff.mpr (by omega)), if_pos hfar]
    · rw [if_neg (by rw [isFar_iff]; omega), if_neg hfar, hdist]
      rfl

/-- Settles O38. -/
theorem retractAndFlushRemoveEntries : Obligations.RetractAndFlushRemoveEntries := by
  refine fun p n tag l fields epoch stamp s hr =>
    ⟨fun D kept h hf hD hk => ⟨fun hh => ?_, fun hh he => ?_, fun hh he => ?_⟩,
      fun a b h hab => ⟨fun hh => ?_, fun hh he => ?_, fun hh he => ?_⟩⟩
  · exact exec_retract h hf hr (asHolder_notHolder (s := s.taken p) hh)
  · exact exec_retract h hf hr (asHolder_epoch (s := s.taken p) hh he)
  · have retracted : retractOn stamp l (s.taken p) =
        ({ s.taken p with queues := s.onQueue l fun q => { q with entries := kept } },
          .okWith (beBytes 1 ((s.queue l).entries.length - kept.length) ++ beBytes 1 kept.length)) := by
      rw [hk, ← keptBefore_eq hD]
      rfl
    exact exec_retract h hf hr ((asHolder_passed (s := s.taken p) hh he).trans retracted)
  · exact exec_flush h hab hr (asHolder_notHolder (s := s.taken p) hh)
  · exact exec_flush h hab hr (asHolder_epoch (s := s.taken p) hh he)
  · exact exec_flush h hab hr (asHolder_passed (s := s.taken p) hh he)

end Sys2Proof.Machine


namespace Sys2Proof.Machine

/-! ### SET_OPEN (06, R121) -/

theorem readSetOpen_tag {fields : List Byte} {f : SetOpenFields} (h : readSetOpen fields = some f) :
    (BitVec.ofNat 8 f.tag).toNat = f.tag := by
  unfold readSetOpen at h
  split at h
  · obtain ⟨o, -, rfl⟩ := Option.map_eq_some_iff.mp h
    exact toNat_byte _
  · cases h

theorem exec_setOpen {p : Port} {n : W16} {fields : List Byte} {f : SetOpenFields} {l : Chan} {s u : State} {r : Reply}
    (h : s.offers p n 21 fields) (hf : readSetOpen fields = some f) (hr : s.routes p (BitVec.ofNat 8 f.tag) l)
    (ho : setOpenOn p f l (s.taken p) = (u, r)) : exec (.setOpen p) s = .next (u.replied p n r) :=
  done_serve_routed (setOpenOn p f) (owner := setOpenOwner p) h hf hr (by rw [readSetOpen_tag hf]; rfl) ho

section

variable {p : Port} {f : SetOpenFields} {l : Chan} {s : State}

theorem setOpenOn_notHolder (hh : (s.auRec l).holder ≠ some p) : setOpenOn p f l s = (s, .bare .notHolder) :=
  if_pos (by simpa using not_holds hh)

theorem setOpenOn_stale (hh : (s.auRec l).holder = some p) (hv : f.revision ≠ (s.env l).revision) :
    setOpenOn p f l s = (s, .bare .stale) := by
  unfold setOpenOn
  dsimp only
  rw [if_neg (by simp [holds_of_holder hh]), if_pos hv]

theorem setOpenOn_field (hh : (s.auRec l).holder = some p) (hv : f.revision = (s.env l).revision)
    (hm : f.changes.malformed = true) : setOpenOn p f l s = (s, .bare .field) := by
  unfold setOpenOn
  dsimp only
  rw [if_neg (by simp [holds_of_holder hh]), if_neg (not_not_intro hv), if_pos hm]

theorem setOpenOn_range {x : OpenName} (hh : (s.auRec l).holder = some p) (hv : f.revision = (s.env l).revision)
    (hm : f.changes.malformed = false) (hx : f.changes.outOfRange = some x) :
    setOpenOn p f l s = (s, ⟨.range, beBytes 1 x.index⟩) := by
  unfold setOpenOn
  dsimp only
  rw [if_neg (by simp [holds_of_holder hh]), if_neg (not_not_intro hv), if_neg (by simp [hm]), hx]

theorem setOpenOn_passed (hh : (s.auRec l).holder = some p) (hv : f.revision = (s.env l).revision)
    (hm : f.changes.malformed = false) (hx : f.changes.outOfRange = none) :
    setOpenOn p f l s = ({ s with envs := vset s.envs l { s.env l with
        opens := f.changes.items.foldl OpenValues.set (s.env l).opens, revision := (s.env l).revision + 1 } },
      .okWith (wordBytes ((s.env l).revision + 1))) := by
  unfold setOpenOn
  dsimp only
  rw [if_neg (by simp [holds_of_holder hh]), if_neg (not_not_intro hv), if_neg (by simp [hm]), hx]
  rfl

end

/-- Settles O39. -/
theorem setOpenWritesAllItsValues : Obligations.SetOpenWritesAllItsValues := by
  refine fun p n fields f l s h hf hr => ⟨fun hh => ?notHolder, fun hh hv => ?stale, fun hh hv =>
    ⟨fun hm => ?field, fun x hm hx => ?range, fun hm hx => ?passed⟩⟩
  case notHolder => exact exec_setOpen h hf hr (setOpenOn_notHolder (s := s.taken p) hh)
  case stale => exact exec_setOpen h hf hr (setOpenOn_stale (s := s.taken p) hh hv)
  case field => exact exec_setOpen h hf hr (setOpenOn_field (s := s.taken p) hh hv hm)
  case range => exact exec_setOpen h hf hr (setOpenOn_range (s := s.taken p) hh hv hm hx)
  case passed => exact exec_setOpen h hf hr (setOpenOn_passed (s := s.taken p) hh hv hm hx)

/-! ### PROPOSE (06, R122 to R124) -/

theorem readPropose_tag {fields : List Byte} {f : ProposeFields} (h : readPropose fields = some f) :
    (BitVec.ofNat 8 f.tag).toNat = f.tag := by
  unfold readPropose at h
  split at h
  · obtain rfl := Option.some.inj h
    exact toNat_byte _
  · cases h

theorem exec_propose {p : Port} {n : W16} {fields : List Byte} {f : ProposeFields} {l : Chan} {s u : State} {r : Reply}
    (h : s.offers p n 22 fields) (hf : readPropose fields = some f) (hr : s.routes p (BitVec.ofNat 8 f.tag) l)
    (ho : proposeOn p f l (s.taken p) = (u, r)) : exec (.propose p) s = .next (u.replied p n r) :=
  done_serve_routed (proposeOn p f) (owner := proposeOwner p) h hf hr (by rw [readPropose_tag hf]; rfl) ho

section

variable {p : Port} {f : ProposeFields} {l : Chan} {s : State}

theorem proposeOn_rank (hrank : s.rank p = 0) : proposeOn p f l s = (s, .bare .rank) := if_pos hrank

theorem proposeOn_self (hrank : s.rank p ≠ 0) (hp : p = s.safetyPort) : proposeOn p f l s = (s, .bare .self) :=
  (if_neg hrank).trans (if_pos hp)

theorem proposeOn_range {x : Nat} (hrank : s.rank p ≠ 0) (hp : p ≠ s.safetyPort)
    (hx : f.outOfRange (s.consts.ceilingOf l) = some x) : proposeOn p f l s = (s, ⟨.range, beBytes 1 x⟩) := by
  unfold proposeOn
  dsimp only
  rw [if_neg hrank, if_neg hp, hx]

theorem proposeOn_pending {x : Proposal} (hrank : s.rank p ≠ 0) (hp : p ≠ s.safetyPort)
    (hf : f.outOfRange (s.consts.ceilingOf l) = none) (hx : (s.env l).proposal = some x) :
    proposeOn p f l s = (s, .bare (if x.proposer = p then .pending else .retry)) := by
  have status : (s.env l).pendingStatus p = some (if x.proposer = p then .pending else .retry) := by
    unfold Envelope.pendingStatus
    rw [hx]
    dsimp only
    split <;> rfl
  unfold proposeOn
  dsimp only
  rw [if_neg hrank, if_neg hp, hf, status]

/-- Without a pending proposal the revision decides. -/
theorem proposeOn_free (hrank : s.rank p ≠ 0) (hp : p ≠ s.safetyPort) (hf : f.outOfRange (s.consts.ceilingOf l) = none)
    (hx : (s.env l).proposal = none) : proposeOn p f l s =
      if f.revision ≠ (s.env l).revision then (s, .bare .stale)
      else (handTo s.safetyPort .proposal
          { s with envs := vset s.envs l ((s.env l).proposed p f.values (s.periods s.consts.proposalMs)) },
        .okWith (beBytes 1 (nextNumber (s.env l).counter) ++ beBytes 2 (s.periods s.consts.proposalMs))) := by
  have status : (s.env l).pendingStatus p = none := by
    unfold Envelope.pendingStatus
    rw [hx]
  unfold proposeOn
  dsimp only
  rw [if_neg hrank, if_neg hp, hf, status]

end

/-- Which value PROPOSE names: the first one out of range, in the order of Table 6-1. -/
theorem outOfRange_iff (f : ProposeFields) (ceiling : Nat) :
    (f.outOfRange ceiling = none ↔ f.peak ≤ ceiling ∧ 1 ≤ f.continuous ∧ f.continuous ≤ f.peak ∧
      1 ≤ f.tau ∧ f.tau ≤ 3600 ∧ 20 ≤ f.brakeMs ∧ f.brakeMs ≤ 2000 ∧ 50 ≤ f.stopMs ∧ f.stopMs ≤ 5000) ∧
    (f.outOfRange ceiling = some 0 ↔ (ceiling : Int) < f.peak) ∧
    (f.outOfRange ceiling = some 1 ↔ f.peak ≤ ceiling ∧ (f.continuous < 1 ∨ f.peak < f.continuous)) ∧
    (f.outOfRange ceiling = some 2 ↔ f.peak ≤ ceiling ∧ 1 ≤ f.continuous ∧ f.continuous ≤ f.peak ∧
      (f.tau < 1 ∨ 3600 < f.tau)) ∧
    (f.outOfRange ceiling = some 3 ↔ f.peak ≤ ceiling ∧ 1 ≤ f.continuous ∧ f.continuous ≤ f.peak ∧
      1 ≤ f.tau ∧ f.tau ≤ 3600 ∧ (f.brakeMs < 20 ∨ 2000 < f.brakeMs)) ∧
    (f.outOfRange ceiling = some 4 ↔ f.peak ≤ ceiling ∧ 1 ≤ f.continuous ∧ f.continuous ≤ f.peak ∧
      1 ≤ f.tau ∧ f.tau ≤ 3600 ∧ 20 ≤ f.brakeMs ∧ f.brakeMs ≤ 2000 ∧ (f.stopMs < 50 ∨ 5000 < f.stopMs)) ∧
    ∀ x, f.outOfRange ceiling = some x → x ≤ 4 := by
  have out (lo hi n : Nat) : ((!inRange lo hi n) = true) ↔ ¬ (lo ≤ n ∧ n ≤ hi) := by
    rw [Bool.not_eq_true', ← inRange_iff, Bool.not_eq_true]
  have values : ∀ x, f.outOfRange ceiling = some x → x ≤ 4 := by
    unfold ProposeFields.outOfRange
    repeat' split
    all_goals rintro x ⟨⟩ <;> exact Nat.le_of_ble_eq_true rfl
  refine ⟨?_, ?_, ?_, ?_, ?_, ?_, values⟩
  all_goals
    unfold ProposeFields.outOfRange
    simp only [out]
    repeat' split
    all_goals
      simp only [reduceCtorEq, Option.some.injEq, Nat.reduceEqDiff, Nat.zero_ne_one, Nat.one_ne_zero, false_iff, true_iff]
      omega

/-- Settles O40. -/
theorem proposeCreatesAProposal : Obligations.ProposeCreatesAProposal := by
  refine ⟨fun p n fields f l number s answers h hf hr hans hn => ?_, outOfRange_iff⟩
  have answered {r : Reply} (ho : proposeOn p f l (s.taken p) = (s.taken p, r)) : answers r :=
    (hans r).mpr (exec_propose h hf hr ho)
  refine ⟨fun hrank => ?rank, fun hrank hp => ?self, fun hrank hp => ⟨fun x hx => ?range, fun hx => ⟨fun x hpend => ?pending,
    fun hnone hv => ?stale, fun hnone hv => ?passed⟩⟩⟩
  case rank => exact answered (proposeOn_rank (s := s.taken p) hrank)
  case self => exact answered (proposeOn_self (s := s.taken p) hrank hp)
  case range => exact answered (proposeOn_range (s := s.taken p) hrank hp hx)
  case pending => exact answered (proposeOn_pending (s := s.taken p) hrank hp hx hpend)
  case stale => exact answered ((proposeOn_free (s := s.taken p) hrank hp hx hnone).trans (if_pos hv))
  case passed =>
    refine exec_propose h hf hr ((proposeOn_free (s := s.taken p) hrank hp hx hnone).trans ((if_neg (not_not_intro hv)).trans ?_))
    rw [hn]
    rfl

/-! ### CONFIRM (06, R126) -/

theorem exec_confirm {p : Port} {n : W16} {tag number : Byte} {l : Chan} {s u : State} {r : Reply}
    (h : s.offers p n 24 [tag, number]) (hr : s.routes p tag l)
    (ho : confirmOn p number.toNat l (s.taken p) = (u, r)) : exec (.confirm p) s = .next (u.replied p n r) :=
  have fields : readTagByte [tag, number] = some (tag.toNat, number.toNat) := rfl
  done_serve_routed (confirmOn p number.toNat) (owner := confirmOwner p) h fields hr rfl ho

/-- The commit writes the five values and the revision, and the proposal ends with CONFIRMED. -/
theorem commitProposal_eq {l : Chan} {x : Proposal} {s : State} (hx : (s.env l).proposal = some x) :
    commitProposal l x s = handTo x.proposer .proposalResult { s with envs := vset s.envs l { s.env l with
      guarded := x.values, revision := (s.env l).revision + 1, proposal := none
      last := some ⟨x.proposer, x.number, .confirmed, s.period⟩ } } := by
  have written : ({ s with envs := vset s.envs l { s.env l with
      guarded := x.values, revision := (s.env l).revision + 1 } } : State).env l =
      { s.env l with guarded := x.values, revision := (s.env l).revision + 1 } := vget_vset_self _ _ _
  unfold commitProposal
  rw [endProposal_some .confirmed (x := x) (by rw [written]; exact hx), written]
  dsimp only [proposalNotices]
  rw [vset_vset]

/-- Settles O41. -/
theorem confirmCommitsTheProposal : Obligations.ConfirmCommitsTheProposal := by
  refine fun p n tag number l s h hr => ⟨fun hp => ?notSafety, fun hp hx => ?noProposal,
    fun x hp hx => ⟨fun hn => ?mismatch, fun hn => ?passed⟩⟩
  case notSafety => exact exec_confirm h hr (answering_notSafety (s := s.taken p) _ hp)
  case noProposal => exact exec_confirm h hr (answering_noProposal (s := s.taken p) _ hp hx)
  case mismatch => exact exec_confirm h hr (answering_mismatch (s := s.taken p) _ hp hx hn)
  case passed =>
    refine exec_confirm h hr ((answering_passed (s := s.taken p) _ hp hx hn).trans ?_)
    rw [commitProposal_eq (s := s.taken p) hx]
    rfl

end Sys2Proof.Machine


namespace Sys2Proof.Machine

/-! ### A change of link state: what the Link Supervisor holds after it (05, R95) -/

theorem changeLink_link (x : LinkState) (s : State) :
    (changeLink x s).link = { s.link with state := x, timer := linkTimerOf s.consts x } := by
  unfold changeLink
  rw [handLinkState_link, enterLink, gateSyncs_link]

theorem allIdle_iff {s : State} :
    s.allIdle = true ↔ ∀ c, s.present c = true → s.chState c = .off ∨ s.chState c = .tripped := by
  have driving (x : ChState) : x.driving = false ↔ x = .off ∨ x = .tripped := by cases x <;> simp [ChState.driving]
  rw [State.allIdle, List.all_eq_true]
  refine ⟨fun h c hc => ?_, fun h c _ => ?_⟩
  · have := h c (mem_allChans c)
    rw [hc] at this
    exact (driving _).mp (by simpa using this)
  · cases hc : s.present c with
    | false => rfl
    | true => simpa using (driving _).mpr (h c hc)

theorem wakeCondition_iff {s : State} :
    s.wakeCondition = true ↔ ∀ c, s.present c = true → vget s.link.ready c = true := by
  rw [State.wakeCondition, List.all_eq_true]
  refine ⟨fun h c hc => ?_, fun h c _ => ?_⟩
  · have := h c (mem_allChans c)
    rw [hc] at this
    simpa using this
  · cases hc : s.present c with
    | false => rfl
    | true => simpa using h c hc

/-- The wake of a PARKED link, and its end where every module is ready already (05, R101, R108). -/
theorem wakeLink_parked {s : State} (hl : s.link.state = .parked) :
    wakeLink s = if s.wakeCondition then changeLink .ready (changeLink .waking s) else changeLink .waking s := by
  have same : (changeLink .waking s).wakeCondition = s.wakeCondition := by
    unfold State.wakeCondition State.present
    rw [changeLink_link, changeLink_consts]
  unfold wakeLink judgeWake
  rw [if_pos hl, changeLink_link, same]
  simp

/-! ### The checks of requests to the Link Supervisor and the Reaction Controller (05, R105; 07, R151 to R154) -/

section

variable {p : Port} {own : State → State × Reply} {s : State}

theorem inConfig_operating (h : s.phase = .operating) : ¬ s.inConfig = true := by
  rw [inConfig_eq_false.mpr h]
  exact Bool.false_ne_true

theorem fromRanked_rank (hop : s.phase = .operating) (hr : s.rank p = 0) : fromRanked p own s = (s, .bare .rank) :=
  (if_neg (inConfig_operating hop)).trans (if_pos hr)

theorem fromRanked_passed (hop : s.phase = .operating) (hr : s.rank p ≠ 0) : fromRanked p own s = own s :=
  (if_neg (inConfig_operating hop)).trans (if_neg hr)

theorem fromSafety_notSafety (hop : s.phase = .operating) (hp : p ≠ s.safetyPort) :
    fromSafety p own s = (s, .bare .notSafety) := (if_neg (inConfig_operating hop)).trans (if_neg hp)

theorem fromSafety_passed (hop : s.phase = .operating) (hp : p = s.safetyPort) : fromSafety p own s = own s :=
  (if_neg (inConfig_operating hop)).trans (if_pos hp)

end

/-! ### LINK_UP, LINK_PARK and LINK_DOWN (05, R105 to R108) -/

theorem exec_linkUp {p : Port} {n : W16} {s u : State} {r : Reply} (h : s.offers p n 27 [])
    (ho : fromRanked p linkUpOn (s.taken p) = (u, r)) : exec (.linkUp p) s = .next (u.replied p n r) :=
  have fields : readNothing [] = some () := rfl
  done_serve_owner (owner := linkUpOwner p) h fields ho

theorem exec_linkPark {p : Port} {n : W16} {s u : State} {r : Reply} (h : s.offers p n 28 [])
    (ho : fromRanked p linkParkOn (s.taken p) = (u, r)) : exec (.linkPark p) s = .next (u.replied p n r) :=
  have fields : readNothing [] = some () := rfl
  done_serve_owner (owner := linkParkOwner p) h fields ho

theorem exec_linkDown {p : Port} {n : W16} {s u : State} {r : Reply} (h : s.offers p n 29 [])
    (ho : fromRanked p linkDownOn (s.taken p) = (u, r)) : exec (.linkDown p) s = .next (u.replied p n r) :=
  have fields : readNothing [] = some () := rfl
  done_serve_owner (owner := linkDownOwner p) h fields ho

theorem withLinkState_eq {s : State} {x : LinkState} (h : s.link.state = x) :
    withLinkState s = (s, .okWith (beBytes 1 x.index)) := by
  rw [withLinkState, h]

theorem changeLink_state (x : LinkState) (s : State) : (changeLink x s).link.state = x := by rw [changeLink_link]

section

variable {s : State}

theorem linkUpOn_busy (hb : s.linkReactionInService = true) : linkUpOn s = (s, .bare .busy) := if_pos hb

/-- LINK_UP past the reaction in service. -/
theorem linkUpOn_discharged (hb : s.linkReactionInService = false) (hl : s.link.state = .discharged) :
    linkUpOn s = (changeLink .charging s, .okWith [1]) := by
  unfold linkUpOn
  rw [if_neg (by rw [hb]; exact Bool.false_ne_true), hl]
  exact withLinkState_eq (changeLink_state _ _)

theorem linkUpOn_parked (hb : s.linkReactionInService = false) (hl : s.link.state = .parked) :
    linkUpOn s = withLinkState (wakeLink s) := by
  unfold linkUpOn
  rw [if_neg (by rw [hb]; exact Bool.false_ne_true), hl]

theorem linkUpOn_draining (hb : s.linkReactionInService = false) (hl : s.link.state = .draining) :
    linkUpOn s = (s, .bare .state) := by
  unfold linkUpOn
  rw [if_neg (by rw [hb]; exact Bool.false_ne_true), hl]

theorem linkUpOn_up (hb : s.linkReactionInService = false) (hl : s.link.state = .charging ∨ s.link.state = .settling ∨
    s.link.state = .ready ∨ s.link.state = .waking) : linkUpOn s = withLinkState s := by
  unfold linkUpOn
  rw [if_neg (by rw [hb]; exact Bool.false_ne_true)]
  rcases hl with hl | hl | hl | hl <;> rw [hl]

/-- A request that every channel must be idle for. -/
theorem whenIdle_idle {x : LinkState} (hi : s.allIdle = true) :
    (if s.allIdle then withLinkState (changeLink x s) else (s, .bare .state)) =
      (changeLink x s, .okWith (beBytes 1 x.index)) := by
  rw [if_pos hi]
  exact withLinkState_eq (changeLink_state _ _)

theorem linkParkOn_up (hl : s.link.state = .ready ∨ s.link.state = .waking) :
    linkParkOn s = if s.allIdle then withLinkState (changeLink .parked s) else (s, .bare .state) := by
  unfold linkParkOn
  rcases hl with hl | hl <;> rw [hl]

theorem linkParkOn_parked (hl : s.link.state = .parked) : linkParkOn s = withLinkState s := by
  unfold linkParkOn
  rw [hl]

theorem linkParkOn_refused (hl : s.link.state = .discharged ∨ s.link.state = .charging ∨ s.link.state = .settling ∨
    s.link.state = .draining) : linkParkOn s = (s, .bare .state) := by
  unfold linkParkOn
  rcases hl with hl | hl | hl | hl <;> rw [hl]

theorem linkDownOn_up (hd : s.link.state ≠ .discharged) (hr : s.link.state ≠ .draining) :
    linkDownOn s = if s.allIdle then withLinkState (changeLink .draining s) else (s, .bare .state) := by
  unfold linkDownOn
  split
  case h_6 hs => exact absurd hs hd
  case h_7 hs => exact absurd hs hr
  all_goals rfl

theorem linkDownOn_down (hl : s.link.state = .discharged ∨ s.link.state = .draining) :
    linkDownOn s = withLinkState s := by
  unfold linkDownOn
  rcases hl with hl | hl <;> rw [hl]

end

theorem linkUp_moves (p : Port) (n : W16) (s : State) (h : s.offers p n 27 []) (hop : s.phase = .operating) :
    (s.rank p = 0 → exec (.linkUp p) s = .next ((s.taken p).replied p n (.bare .rank))) ∧
    (s.rank p ≠ 0 → s.linkReactionInService = true →
      exec (.linkUp p) s = .next ((s.taken p).replied p n (.bare .busy))) ∧
    (s.rank p ≠ 0 → s.linkReactionInService = false →
      (s.link.state = .discharged → exec (.linkUp p) s =
        .next ((changeLink .charging (s.taken p)).replied p n (.okWith [1]))) ∧
      (s.link.state = .parked → (∃ c, s.present c = true ∧ vget s.link.ready c = false) → exec (.linkUp p) s =
        .next ((changeLink .waking (s.taken p)).replied p n (.okWith [5]))) ∧
      (s.link.state = .parked → (∀ c, s.present c = true → vget s.link.ready c = true) → exec (.linkUp p) s =
        .next ((changeLink .ready (changeLink .waking (s.taken p))).replied p n (.okWith [3]))) ∧
      (s.link.state = .draining → exec (.linkUp p) s = .next ((s.taken p).replied p n (.bare .state))) ∧
      (s.link.state = .charging ∨ s.link.state = .settling ∨ s.link.state = .ready ∨ s.link.state = .waking →
        exec (.linkUp p) s = .next ((s.taken p).replied p n (.okWith (beBytes 1 s.link.state.index))))) := by
  have passed {u : State} {r : Reply} (hr : s.rank p ≠ 0) (ho : linkUpOn (s.taken p) = (u, r)) :
      exec (.linkUp p) s = .next (u.replied p n r) := exec_linkUp h ((fromRanked_passed (s := s.taken p) hop hr).trans ho)
  refine ⟨fun hr => ?rank, fun hr hb => ?busy, fun hr hb => ⟨fun hl => ?discharged, fun hl hw => ?waking, fun hl hw => ?ready,
    fun hl => ?draining, fun hl => ?up⟩⟩
  case rank => exact exec_linkUp h (fromRanked_rank (s := s.taken p) hop hr)
  case busy => exact passed hr (linkUpOn_busy (s := s.taken p) hb)
  case discharged => exact passed hr (linkUpOn_discharged (s := s.taken p) hb hl)
  case waking =>
    have asleep : ¬ (s.taken p).wakeCondition = true := by
      obtain ⟨c, hc, hready⟩ := hw
      exact fun hall => Bool.false_ne_true (hready.symm.trans (wakeCondition_iff.mp hall c hc))
    refine passed hr ((linkUpOn_parked (s := s.taken p) hb hl).trans ?_)
    rw [wakeLink_parked (s := s.taken p) hl, if_neg asleep]
    exact withLinkState_eq (changeLink_state _ _)
  case ready =>
    refine passed hr ((linkUpOn_parked (s := s.taken p) hb hl).trans ?_)
    rw [wakeLink_parked (s := s.taken p) hl, if_pos (wakeCondition_iff (s := s.taken p) |>.mpr hw)]
    exact withLinkState_eq (changeLink_state _ _)
  case draining => exact passed hr (linkUpOn_draining (s := s.taken p) hb hl)
  case up => exact passed hr (linkUpOn_up (s := s.taken p) hb hl)

/-- Settles O44. -/
theorem linkRequestsMoveTheLink : Obligations.LinkRequestsMoveTheLink := by
  refine ⟨linkUp_moves, fun p n s idle hop hidle => ?_⟩
  rw [← allIdle_iff (s := s)] at hidle
  refine ⟨fun h => ⟨fun hr => exec_linkPark h (fromRanked_rank (s := s.taken p) hop hr), fun hr => ?park⟩,
    fun h => ⟨fun hr => exec_linkDown h (fromRanked_rank (s := s.taken p) hop hr), fun hr => ?down⟩⟩
  case park =>
    have passed {u : State} {r : Reply} (ho : linkParkOn (s.taken p) = (u, r)) :
        exec (.linkPark p) s = .next (u.replied p n r) :=
      exec_linkPark h ((fromRanked_passed (s := s.taken p) hop hr).trans ho)
    exact ⟨fun hl =>
      ⟨fun hi => passed ((linkParkOn_up (s := s.taken p) hl).trans (whenIdle_idle (s := s.taken p) (hidle.mp hi))),
        fun hi => passed ((linkParkOn_up (s := s.taken p) hl).trans (if_neg fun hc => hi (hidle.mpr hc)))⟩,
      fun hl => passed ((linkParkOn_parked (s := s.taken p) hl).trans (withLinkState_eq (s := s.taken p) hl)),
      fun hl => passed (linkParkOn_refused (s := s.taken p) hl)⟩
  case down =>
    have passed {u : State} {r : Reply} (ho : linkDownOn (s.taken p) = (u, r)) :
        exec (.linkDown p) s = .next (u.replied p n r) :=
      exec_linkDown h ((fromRanked_passed (s := s.taken p) hop hr).trans ho)
    exact ⟨fun hd hx =>
      ⟨fun hi => passed ((linkDownOn_up (s := s.taken p) hd hx).trans (whenIdle_idle (s := s.taken p) (hidle.mp hi))),
        fun hi => passed ((linkDownOn_up (s := s.taken p) hd hx).trans (if_neg fun hc => hi (hidle.mpr hc)))⟩,
      fun hl => passed (linkDownOn_down (s := s.taken p) hl)⟩

end Sys2Proof.Machine


namespace Sys2Proof.Machine

/-! ### SAFE_STOP, SAFE_RELEASE and SET_MASK (07, R151, R152, R154) -/

theorem exec_safeStop {p : Port} {n : W16} {s u : State} {r : Reply} (h : s.offers p n 31 [])
    (ho : fromSafety p safeStopOn (s.taken p) = (u, r)) : exec (.safeStop p) s = .next (u.replied p n r) :=
  have fields : readNothing [] = some () := rfl
  done_serve_owner (owner := safeStopOwner p) h fields ho

theorem exec_safeRelease {p : Port} {n : W16} {s u : State} {r : Reply} (h : s.offers p n 32 [])
    (ho : fromSafety p safeReleaseOn (s.taken p) = (u, r)) : exec (.safeRelease p) s = .next (u.replied p n r) :=
  have fields : readNothing [] = some () := rfl
  done_serve_owner (owner := safeReleaseOwner p) h fields ho

theorem exec_setMask {p : Port} {n : W16} {fields : List Byte} {ns : List Nat} {s u : State} {r : Reply}
    (h : s.offers p n 33 fields) (hf : readList fields = some ns)
    (ho : fromSafety p (setMaskOn ns) (s.taken p) = (u, r)) : exec (.setMask p) s = .next (u.replied p n r) :=
  done_serve_owner (owner := setMaskOwner p) h hf ho

theorem stopInputActive_iff {s : State} :
    s.stopInputActive = true ↔ ∃ i, (s.inputConfig i).binding = .safeStop ∧ vget s.react.stopLevels i = true := by
  simp only [State.stopInputActive, List.any_eq_true, mem_allInputs, true_and, Bool.and_eq_true, decide_eq_true_eq]

section

variable {s : State}

theorem safeReleaseOn_active (ha : s.stopInputActive = true) : safeReleaseOn s = (s, .bare .active) := if_pos ha

theorem safeReleaseOn_inactive (ha : ¬ s.stopInputActive = true) : safeReleaseOn s =
    if s.react.stopOpen then (s, .bare .busy)
    else if s.react.latch then (broadcast .safeState (setLatch false s), .bare .ok) else (s, .bare .ok) := if_neg ha

end

/-- Where a reading that can fail has its result's number for an inverse, reading a list gives back its numbers. -/
theorem map_of_mapM {α β : Type} {f : α → Option β} {g : β → α} (hg : ∀ a b, f a = some b → g b = a) :
    ∀ {l : List α} {r : List β}, l.mapM f = some r → r.map g = l
  | [], r, h => by
    obtain rfl : [] = r := Option.some.inj h
    rfl
  | a :: rest, r, h => by
    rw [List.mapM_cons] at h
    obtain ⟨b, hb, h⟩ := Option.bind_eq_some_iff.mp h
    obtain ⟨more, hm, h⟩ := Option.bind_eq_some_iff.mp h
    obtain rfl : b :: more = r := Option.some.inj h
    rw [List.map_cons, hg a b hb, map_of_mapM hg hm]

theorem forall_of_mapM {α β : Type} {f : α → Option β} {P : β → Prop} (hP : ∀ a b, f a = some b → P b) :
    ∀ {l : List α} {r : List β}, l.mapM f = some r → ∀ b ∈ r, P b
  | [], r, h => by
    obtain rfl : [] = r := Option.some.inj h
    exact fun b hb => absurd hb List.not_mem_nil
  | a :: rest, r, h => by
    rw [List.mapM_cons] at h
    obtain ⟨b, hb, h⟩ := Option.bind_eq_some_iff.mp h
    obtain ⟨more, hm, h⟩ := Option.bind_eq_some_iff.mp h
    obtain rfl : b :: more = r := Option.some.inj h
    exact List.forall_mem_cons.mpr ⟨hP a b hb, forall_of_mapM hP hm⟩

theorem mapM_map {α β : Type} {f : α → Option β} {g : β → α} : ∀ {r : List β}, (∀ b ∈ r, f (g b) = some b) →
    (r.map g).mapM f = some r
  | [], _ => rfl
  | b :: rest, h => by
    rw [List.map_cons, List.mapM_cons, h b List.mem_cons_self, mapM_map fun x hx => h x (List.mem_cons_of_mem _ hx)]
    rfl

/-- A reading that succeeds on each member succeeds on the list. -/
theorem mapM_of_each {α β : Type} {f : α → Option β} : ∀ {l : List α}, (∀ a ∈ l, ∃ b, f a = some b) →
    ∃ r, l.mapM f = some r
  | [], _ => ⟨[], rfl⟩
  | a :: rest, h => by
    obtain ⟨b, hb⟩ := h a List.mem_cons_self
    obtain ⟨r, hr⟩ := mapM_of_each fun x hx => h x (List.mem_cons_of_mem _ hx)
    exact ⟨b :: r, by rw [List.mapM_cons, hb, hr]; rfl⟩

theorem nodup_map {α β : Type} {f : α → β} {l : List α} (inj : ∀ a b, f a = f b → a = b) (h : l.Nodup) :
    (l.map f).Nodup := List.Pairwise.map f (fun a b apart same => apart (inj a b same)) h

theorem nodup_of_map {α β : Type} (f : α → β) {l : List α} (h : (l.map f).Nodup) : l.Nodup :=
  List.Pairwise.of_map f (fun _ _ apart same => apart (congrArg f same)) h

theorem FaultKind.index_of_ofIndex {n : Nat} {k : FaultKind} (h : FaultKind.ofIndex n = some k) : k.index = n := by
  unfold FaultKind.ofIndex at h
  split at h <;> cases h <;> rfl

theorem FaultKind.ordinary_iff {k : FaultKind} : k.ordinary = true ↔ 9 ≤ k.index ∧ k.index ≤ 12 := by
  cases k <;> simp [FaultKind.ordinary, FaultKind.index]

theorem ordinaryKinds_index {ns : List Nat} {ks : List FaultKind} (h : ordinaryKinds ns = some ks) : ks.map (·.index) = ns :=
  map_of_mapM (fun _ _ hk => FaultKind.index_of_ofIndex (Option.filter_eq_some_iff.mp hk).1) h

theorem ordinaryKinds_ordinary {ns : List Nat} {ks : List FaultKind} (h : ordinaryKinds ns = some ks) :
    ∀ x ∈ ns, 9 ≤ x ∧ x ≤ 12 := by
  have ordinary : ∀ k ∈ ks, k.ordinary = true :=
    forall_of_mapM (P := fun k : FaultKind => k.ordinary = true) (fun _ _ hk => (Option.filter_eq_some_iff.mp hk).2) h
  rw [← ordinaryKinds_index h]
  exact List.forall_mem_map.mpr fun k hk => FaultKind.ordinary_iff.mp (ordinary k hk)

/-- A list of the numbers 9 to 12 names ordinary kinds. -/
theorem ordinaryKinds_of_numbers {ns : List Nat} (h : ∀ x ∈ ns, 9 ≤ x ∧ x ≤ 12) :
    ∃ ks : List FaultKind, ordinaryKinds ns = some ks := by
  refine mapM_of_each fun x hx => ?_
  obtain ⟨hlo, hhi⟩ := h x hx
  have four : x = 9 ∨ x = 10 ∨ x = 11 ∨ x = 12 := by omega
  rcases four with rfl | rfl | rfl | rfl
  · exact ⟨.portSilent, rfl⟩
  · exact ⟨.starved, rfl⟩
  · exact ⟨.brakeFault, rfl⟩
  · exact ⟨.thermal, rfl⟩

section

variable {s : State} {ns : List Nat}

theorem setMaskOn_field (h : (∃ x ∈ ns, x < 9 ∨ 12 < x) ∨ ¬ ns.Nodup) : setMaskOn ns s = (s, .bare .field) := by
  unfold setMaskOn
  split
  · rfl
  · next ks hk =>
    refine if_neg fun hnodup => ?_
    rcases h with ⟨x, hx, hout⟩ | hdup
    · have := ordinaryKinds_ordinary hk x hx
      omega
    · rw [← ordinaryKinds_index hk] at hdup
      exact hdup (nodup_map (fun _ _ he => FaultKind.index_inj he) hnodup)

/-- The mask set of a list of kinds, by their numbers. -/
theorem ofKinds_index (ks : List FaultKind) : MaskSet.ofKinds ks =
    ⟨decide (9 ∈ ks.map (·.index)), decide (10 ∈ ks.map (·.index)), decide (11 ∈ ks.map (·.index)),
      decide (12 ∈ ks.map (·.index))⟩ := by
  have named (k : FaultKind) : ks.contains k = decide (k.index ∈ ks.map (·.index)) := by
    rw [Bool.eq_iff_iff, List.contains_iff_mem, decide_eq_true_eq]
    refine ⟨fun listed => List.mem_map_of_mem listed, fun listed => ?_⟩
    obtain ⟨j, hj, same⟩ := List.mem_map.mp listed
    exact FaultKind.index_inj same ▸ hj
  unfold MaskSet.ofKinds
  simp only [named]
  rfl

theorem setMaskOn_passed {m : MaskSet} (h : ∀ x ∈ ns, 9 ≤ x ∧ x ≤ 12) (hn : ns.Nodup)
    (hm : m = ⟨decide (9 ∈ ns), decide (10 ∈ ns), decide (11 ∈ ns), decide (12 ∈ ns)⟩) :
    setMaskOn ns s = (takeReactions { s with react := { s.react with mask := m } }, .okWith m.bytes) := by
  obtain ⟨ks, hk⟩ := ordinaryKinds_of_numbers h
  have hindex := ordinaryKinds_index hk
  have hmask : MaskSet.ofKinds ks = m := by rw [ofKinds_index, hindex, hm]
  rw [← hindex] at hn
  unfold setMaskOn
  rw [hk]
  dsimp only
  rw [if_pos (nodup_of_map _ hn), hmask]

end

/-- Settles O45. -/
theorem safetyMastersRequests : Obligations.SafetyMastersRequests := by
  refine ⟨fun p n s hop => ⟨fun h => ⟨fun hp => ?_, fun u k hp hu => ?_⟩, fun h => ⟨fun hp => ?_, fun hp => ?_⟩⟩,
    fun p n fields ns s hop h hf => ⟨fun hp => ?_, fun hp hbad => ?_, fun m hp hrange hn hm => ?_⟩⟩
  · exact exec_safeStop h (fromSafety_notSafety (s := s.taken p) hop hp)
  · refine exec_safeStop h ((fromSafety_passed (s := s.taken p) hop hp).trans ?_)
    unfold safeStopOn
    rw [hu]
  · exact exec_safeRelease h (fromSafety_notSafety (s := s.taken p) hop hp)
  · have released {u : State} {r : Reply} (ho : safeReleaseOn (s.taken p) = (u, r)) :
        exec (.safeRelease p) s = .next (u.replied p n r) :=
      exec_safeRelease h ((fromSafety_passed (s := s.taken p) hop hp).trans ho)
    refine ⟨fun ha => released (safeReleaseOn_active (stopInputActive_iff.mpr ha)), fun ha => ?_⟩
    have inactive : ¬ (s.taken p).stopInputActive = true := by
      rw [stopInputActive_iff]
      rintro ⟨i, hi, hl⟩
      exact Bool.false_ne_true ((ha i hi).symm.trans hl)
    have checked := safeReleaseOn_inactive inactive
    refine ⟨fun hb => released (checked.trans (if_pos hb)), fun hb => ?_⟩
    have free := checked.trans (if_neg (ne_true_of_eq_false hb))
    exact ⟨fun hl => released (free.trans (if_neg (ne_true_of_eq_false hl))),
      fun hl => released (free.trans (if_pos hl))⟩
  · exact exec_setMask h hf (fromSafety_notSafety (s := s.taken p) hop hp)
  · exact exec_setMask h hf ((fromSafety_passed (s := s.taken p) hop hp).trans (setMaskOn_field hbad))
  · exact exec_setMask h hf ((fromSafety_passed (s := s.taken p) hop hp).trans (setMaskOn_passed hrange hn hm))

/-! ### INPUT_ACK (08, R161, R162) -/

theorem exec_inputAck {p : Port} {n : W16} {fields : List Byte} {ns : List Nat} {s u : State} {r : Reply}
    (h : s.offers p n 35 fields) (hf : readList fields = some ns)
    (ho : fromRanked p (inputAckOn ns) (s.taken p) = (u, r)) : exec (.inputAck p) s = .next (u.replied p n r) :=
  done_serve_owner (owner := inputAckOwner p) h hf ho

theorem inputNumbers_val {ns : List Nat} {is : List Input} (h : inputNumbers ns = some is) : is.map (·.val) = ns := by
  refine map_of_mapM (fun x i hi => ?_) h
  split at hi
  · obtain rfl := Option.some.inj hi
    rfl
  · cases hi

theorem inputNumbers_map (is : List Input) : inputNumbers (is.map (·.val)) = some is :=
  mapM_map fun i _ => dif_pos i.isLt

/-- The acknowledgement writes the listed inputs, one after another. -/
theorem ackInputs_state : ∀ (is : List Input) (s : State), (ackInputs is s).1 =
    { s with inputs := vmap is (fun i b => b.acked (s.inputConfig i).mode) s.inputs }
  | [], _ => rfl
  | _ :: rest, _ => ackInputs_state rest _

theorem ackInputs_outcomes : ∀ {is : List Input} (s : State), is.Nodup →
    (ackInputs is s).2 = is.map fun i => (s.inp i).ackOutcome (s.inputConfig i).mode
  | [], _, _ => rfl
  | i :: rest, s, h => by
    rw [List.nodup_cons] at h
    have kept : ∀ j ∈ rest, (ackInput i s).inp j = s.inp j := fun j hj =>
      vget_vset_ne _ _ (by rintro rfl; exact h.1 hj)
    rw [ackInputs, List.map_cons]
    dsimp only
    rw [ackInputs_outcomes (ackInput i s) h.2]
    exact congrArg _ (List.map_congr_left fun j hj => by rw [kept j hj]; rfl)

theorem ackOutcome_bytes (b : InputBlock) (mode : InputMode) : beBytes 1 (b.ackOutcome mode).index =
    [if b.flag = false then 2 else if mode = .level ∧ b.level = true then 1 else 0] := by
  unfold InputBlock.ackOutcome
  cases b.flag <;> cases mode <;> cases b.level <;> rfl

theorem acked_eq (b : InputBlock) (mode : InputMode) : b.acked mode =
    if b.flag = true ∧ ¬ (mode = .level ∧ b.level = true) then { b with flag := false, count := 0 } else b := by
  unfold InputBlock.acked InputBlock.ackOutcome
  cases hf : b.flag <;> cases mode <;> cases hl : b.level <;> simp

theorem inputAckOn_field {ns : List Nat} {s : State} (h : ns = [] ∨ (∃ x ∈ ns, 16 ≤ x) ∨ ¬ ns.Nodup) :
    inputAckOn ns s = (s, .bare .field) := by
  unfold inputAckOn
  split
  · rfl
  · next is hi =>
    refine if_pos ?_
    rw [← inputNumbers_val hi] at h
    rcases h with h | ⟨x, hx, hlarge⟩ | h
    · exact .inl (List.map_eq_nil_iff.mp h)
    · obtain ⟨i, -, rfl⟩ := List.mem_map.mp hx
      exact absurd hlarge (Nat.not_le_of_lt i.isLt)
    · exact .inr fun hn => h (nodup_map (fun _ _ => Fin.ext) hn)

theorem inputAckOn_passed {is : List Input} {s : State} (hne : is ≠ []) (hn : is.Nodup) :
    inputAckOn (is.map (·.val)) s = ({ s with inputs := vmap is (fun i b => b.acked (s.inputConfig i).mode) s.inputs },
      .okWith (listBytes (is.map fun i => [if (s.inp i).flag = false then 2
        else if (s.inputConfig i).mode = .level ∧ (s.inp i).level = true then 1 else 0]))) := by
  unfold inputAckOn
  rw [inputNumbers_map]
  dsimp only
  rw [if_neg (not_or.mpr ⟨hne, not_not_intro hn⟩), ackInputs_state, ackInputs_outcomes s hn, List.map_map]
  simp only [Function.comp_def, ackOutcome_bytes]

/-! ### SUBSCRIBE (10, R179) -/

theorem exec_subscribe {p : Port} {n : W16} {fields : List Byte} {ns : List Nat} {s u : State} {r : Reply}
    (h : s.offers p n 37 fields) (hf : readList fields = some ns)
    (ho : subscribeOwner p ns (s.taken p) = (u, r)) : exec (.subscribe p) s = .next (u.replied p n r) :=
  done_serve_owner (owner := subscribeOwner p) h hf ho

theorem broadcastList_iff {ns : List Nat} : broadcastList ns = true ↔ (∀ x ∈ ns, 5 ≤ x ∧ x ≤ 11) ∧ ns.Nodup := by
  simp only [broadcastList, Bool.and_eq_true, List.all_eq_true, decide_eq_true_eq, inRange_iff]

theorem one_shiftLeft_getLsbD {n k : Nat} (hn : n < 12) : (1#12 <<< n).getLsbD k = decide (k = n) := by
  rw [BitVec.getLsbD_shiftLeft, BitVec.getLsbD_one, Bool.eq_iff_iff]
  simp only [Bool.and_eq_true, decide_eq_true_eq, Bool.not_eq_true', decide_eq_false_iff_not]
  omega

theorem kindSet_getLsbD {ns : List Nat} (h : ∀ x ∈ ns, x < 12) (k : Nat) : (kindSet ns).getLsbD k = decide (k ∈ ns) := by
  have joined : ∀ (l : List Nat) (acc : BitVec 12), (∀ x ∈ l, x < 12) →
      (l.foldl (fun acc n => acc ||| (1#12 <<< n)) acc).getLsbD k = (acc.getLsbD k || decide (k ∈ l)) := by
    intro l
    induction l with
    | nil => intro acc _; simp
    | cons n rest ih =>
      intro acc hl
      rw [List.foldl_cons, ih _ fun x hx => hl x (List.mem_cons_of_mem _ hx), BitVec.getLsbD_or,
        one_shiftLeft_getLsbD (hl n List.mem_cons_self), Bool.or_assoc]
      congr 1
      simp [List.mem_cons]
  rw [kindSet, joined ns _ h]
  simp

/-- Settles O46. -/
theorem inputAckAndSubscribe : Obligations.InputAckAndSubscribe := by
  refine ⟨fun p n fields ns s hop h hf => ⟨fun hr => ?_, fun hr hbad => ?_, fun is hr hne hns hn => 
      ⟨{ s.taken p with inputs := vmap is (fun i b => b.acked (s.inputConfig i).mode) s.inputs }, ?_, rfl, fun i => ?_⟩⟩,
    fun p n fields ns s hop h hf => ⟨fun hbad => ?_, fun hrange hn => ⟨kindSet ns, fun k => ?_, ?_⟩⟩⟩
  · exact exec_inputAck h hf (fromRanked_rank (s := s.taken p) hop hr)
  · exact exec_inputAck h hf ((fromRanked_passed (s := s.taken p) hop hr).trans (inputAckOn_field hbad))
  · subst hns
    exact exec_inputAck h hf ((fromRanked_passed (s := s.taken p) hop hr).trans (inputAckOn_passed (s := s.taken p) hne (nodup_of_map _ hn)))
  · subst hns
    show vget (vmap is (fun i b => b.acked (s.inputConfig i).mode) s.inputs) i = _
    by_cases hi : i ∈ is
    · rw [vget_vmap _ _ _ _ (nodup_of_map _ hn) hi, acked_eq]
      simp only [hi, true_and]
      rfl
    · rw [vget_vmap_of_not_mem _ _ _ _ hi, if_neg fun hc => hi hc.1]
      rfl
  · refine exec_subscribe h hf ((if_neg (inConfig_operating (s := s.taken p) hop)).trans (if_neg ?_))
    rw [broadcastList_iff]
    rintro ⟨hrange, hn⟩
    rcases hbad with ⟨x, hx, hout⟩ | hdup
    · have := hrange x hx
      omega
    · exact hdup hn
  · exact kindSet_getLsbD (fun x hx => Nat.lt_succ_of_le (hrange x hx).2) k
  · exact exec_subscribe h hf ((if_neg (inConfig_operating (s := s.taken p) hop)).trans (if_pos (broadcastList_iff.mpr ⟨hrange, hn⟩)))

end Sys2Proof.Machine


namespace Sys2Proof.Machine

/-! ### SET_PACING (10, R180) -/

theorem exec_setPacing {p : Port} {n : W16} {a b : Byte} {ms : Nat} {s u : State} {r : Reply}
    (h : s.offers p n 38 [a, b]) (hms : ms = 256 * a.toNat + b.toNat)
    (ho : setPacingOwner p ms (s.taken p) = (u, r)) : exec (.setPacing p) s = .next (u.replied p n r) :=
  have fields : readWord [a, b] = some ms := by rw [hms, ← ofBytes_pair]; rfl
  done_serve_owner (owner := setPacingOwner p) h fields ho

theorem setPacingOwner_passed {p : Port} {ms : Nat} {s : State} (hop : s.phase = .operating) (hok : ms ≤ 50) :
    setPacingOwner p ms s =
      ({ s with ports := vset s.ports p { s.port p with pacingMs := ms } }, .okWith (beBytes 2 ms)) :=
  (if_neg (inConfig_operating hop)).trans (if_pos hok)

/-- No frame is due at the port (R178). -/
def PortBlock.undue (b : PortBlock) : Prop := ¬ (b.summary ≠ 0#12 ∧ b.pacing = none ∧ b.notice = none)

theorem PortBlock.formNotice_undue {b : PortBlock} (k : Constants) (P : W32) (h : b.undue) : b.formNotice k P = b := if_neg h

/-- With no frame due and an answer waiting, the end of a command moves the answer at most. -/
theorem PortBlock.settle_undue {b : PortBlock} {f : TxFrame} (k : Constants) (P : W32) (h : b.undue)
    (ha : b.answer = some f) :
    (b.settle k P).pacing = b.pacing ∧ (b.settle k P).summary = b.summary ∧ (b.settle k P).notice = b.notice := by
  unfold PortBlock.settle
  rw [PortBlock.formNotice_undue k P h]
  rcases b.begin_cases with hb | ⟨g, -, hb⟩ | ⟨g, hnone, -, -⟩
  · rw [hb, PortBlock.formNotice_undue k P h]
    exact ⟨rfl, rfl, rfl⟩
  · have undue : PortBlock.undue { b with sending := some g, answer := none } := h
    rw [hb, PortBlock.formNotice_undue k P undue]
    exact ⟨rfl, rfl, rfl⟩
  · exact absurd (ha.symm.trans hnone) (Option.some_ne_none f)

theorem replied_port_self (u : State) (p : Port) (n : W16) (r : Reply) : (u.replied p n r).port p =
    { u.port p with overrun := false, answer := some ⟨answerFrame n r.status.code (u.port p).overrun r.fields, false⟩ }.settle
      u.consts u.period := by
  unfold State.replied
  rw [State.port, settle_ports_get]
  exact congrArg (fun b : PortBlock => b.settle u.consts u.period) (vget_vset_self _ _ _)

/-- Settles O47: the interval is stored, no frame was due before, and the answer makes none due. -/
theorem setPacingStoresTheInterval : Obligations.SetPacingStoresTheInterval := by
  intro p n a b ms s h hms
  refine ⟨fun hc => ?unfrozen, fun hop hlarge => ?range, fun hop hok => ?passed⟩
  case unfrozen => exact exec_setPacing h hms (if_pos ((inConfig_eq_true (s := s.taken p)).mpr hc))
  case range =>
    exact exec_setPacing h hms ((if_neg (inConfig_operating (s := s.taken p) hop)).trans (if_neg (Nat.not_le_of_lt hlarge)))
  case passed =>
    have block : ∀ u : State, u = { s.taken p with
        ports := vset (s.taken p).ports p { (s.taken p).port p with pacingMs := ms } } →
        u.port p = { s.port p with inbound := (s.port p).inbound.tail, pacingMs := ms } := by
      rintro _ rfl
      exact (vget_vset_self _ _ _).trans (congrArg (fun x : PortBlock => { x with pacingMs := ms }) (popRequest_ports_self s p))
    have port := (replied_port_self _ p n (.okWith (beBytes 2 ms))).trans
      (congrArg (fun x : PortBlock => { x with overrun := false, answer := some (TxFrame.mk (answerFrame n
        Status.ok.code x.overrun (beBytes 2 ms)) false) }.settle s.consts s.period) (block _ rfl))
    refine ⟨_, exec_setPacing h hms (setPacingOwner_passed (s := s.taken p) hop hok), rfl, ?_, fun hok => ?_, fun x hx hs hp hn => ?_⟩
    · rw [port, PortBlock.settle_pacingMs]
    · have undue : (s.port p).undue := (hok p).1.1
      obtain ⟨hp, hs, hn⟩ := PortBlock.settle_undue (b := { s.port p with
        inbound := (s.port p).inbound.tail, pacingMs := ms, overrun := false
        answer := some (TxFrame.mk (answerFrame n Status.ok.code (s.port p).overrun (beBytes 2 ms)) false) })
        s.consts s.period undue rfl
      unfold State.nl
      rw [port]
      exact ⟨hp, hs, hn, by rw [hs, hn]⟩
    · have formed : (x.formNotice s.consts s.period).pacing =
          if s.consts.periods x.pacingMs = 0 then none else some (s.consts.periods x.pacingMs) := by
        rw [PortBlock.formNotice, if_pos ⟨hs, hp, hn⟩]
      rw [hx] at formed
      exact formed

end Sys2Proof.Machine


namespace Sys2Proof.Machine

/-! ### The nine reading requests (01, R22; 02, R48; 03, R64; 05, R109; 06, R132; 07, R155; 08, R163; 11, R183, R185) -/

section

variable {p : Port} {n : W16} {tag page : Byte} {l : Chan} {s : State}

theorem exec_queryPart (h : s.offers p n 1 []) :
    exec (.queryPart p) s = .next ((s.taken p).replied p n (.okWith (s.taken p).partFields)) :=
  have fields : readNothing [] = some () := rfl
  done_serve_owner (owner := queryPartOwner) h fields rfl

theorem exec_queryAuthority (h : s.offers p n 11 [tag]) (hr : s.routes p tag l) :
    exec (.queryAuthority p) s = .next ((s.taken p).replied p n (.okWith (s.authorityFields p l))) :=
  have fields : readByte [tag] = some tag.toNat := rfl
  done_serve_routed (fun l s => (s, .okWith (s.authorityFields p l))) (owner := queryAuthorityOwner p) h fields hr rfl rfl

theorem exec_queryChannel (h : s.offers p n 16 [tag]) (hr : s.routes p tag l) :
    exec (.queryChannel p) s = .next ((s.taken p).replied p n (.okWith (s.groupFields l))) :=
  have fields : readByte [tag] = some tag.toNat := rfl
  done_serve_routed (fun l s => (s, .okWith (s.groupFields l))) (owner := queryChannelOwner p) h fields hr rfl rfl

theorem exec_queryQueue (h : s.offers p n 20 [tag]) (hr : s.routes p tag l) :
    exec (.queryQueue p) s = .next ((s.taken p).replied p n (.okWith (s.queueFields l))) :=
  have fields : readByte [tag] = some tag.toNat := rfl
  done_serve_routed (fun l s => (s, .okWith (s.queueFields l))) (owner := queryQueueOwner p) h fields hr rfl rfl

theorem exec_queryEnvelope (h : s.offers p n 26 [tag]) (hr : s.routes p tag l) :
    exec (.queryEnvelope p) s = .next ((s.taken p).replied p n (.okWith (s.envelopeFields l))) :=
  have fields : readByte [tag] = some tag.toNat := rfl
  done_serve_routed (fun l s => (s, .okWith (s.envelopeFields l))) (owner := queryEnvelopeOwner p) h fields hr rfl rfl

theorem exec_queryLink (h : s.offers p n 30 []) (hop : s.phase = .operating) :
    exec (.queryLink p) s = .next ((s.taken p).replied p n (.okWith s.linkFields)) :=
  have fields : readNothing [] = some () := rfl
  done_serve_owner (owner := queryLinkOwner) h fields (if_neg (inConfig_operating (s := s.taken p) hop))

theorem exec_queryFaults (h : s.offers p n 34 [page]) (hop : s.phase = .operating) :
    exec (.queryFaults p) s = .next ((s.taken p).replied p n (.okWith (pageOf s.faultFields page.toNat))) :=
  have fields : readByte [page] = some page.toNat := rfl
  done_serve_owner (owner := queryFaultsOwner) h fields (if_neg (inConfig_operating (s := s.taken p) hop))

theorem exec_queryInputs (h : s.offers p n 36 [page]) (hop : s.phase = .operating) :
    exec (.queryInputs p) s = .next ((s.taken p).replied p n (.okWith (pageOf s.inputFields page.toNat))) :=
  have fields : readByte [page] = some page.toNat := rfl
  done_serve_owner (owner := queryInputsOwner) h fields (if_neg (inConfig_operating (s := s.taken p) hop))

end

/-! #### READ_CONSTANT (11, R182, R183) -/

section

variable {p : Port} {f : ConstFields} {s : State}

theorem readConstantOwner_notSafety (hp : p ≠ s.safetyPort) : readConstantOwner p f s = (s, .bare .notSafety) := if_pos hp

theorem readConstantOwner_unnamed (hp : p = s.safetyPort) (hx : f.name = none) :
    readConstantOwner p f s = (s, .bare .field) := by
  rw [readConstantOwner, if_neg (not_not_intro hp), hx]

theorem readConstantOwner_named {x : ConstName} (hp : p = s.safetyPort) (hx : f.name = some x) :
    readConstantOwner p f s =
      if x.indexOk f.index then (s, .okWith (s.consts.valueBytes x f.index)) else (s, .bare .field) := by
  rw [readConstantOwner, if_neg (not_not_intro hp), hx]

end

theorem exec_readConstant {p : Port} {n : W16} {fields : List Byte} {f : ConstFields} {s u : State} {r : Reply}
    (h : s.offers p n 3 fields) (hf : readReadConstant fields = some f) (ho : readConstantOwner p f (s.taken p) = (u, r)) :
    exec (.readConstant p) s = .next (u.replied p n r) := done_serve_owner (owner := readConstantOwner p) h hf ho

/-- Settles O26. -/
theorem queriesAnswerAndChangeNothing : Obligations.QueriesAnswerAndChangeNothing := by
  intro p n s
  refine ⟨exec_queryPart, fun fields f h hf => ⟨fun hp => ?notSafety, fun hp hbad => ?field, fun x hp hx hi => ?read⟩,
    fun tag l hr => ⟨fun h => exec_queryAuthority h hr, fun h => exec_queryChannel h hr, fun h => exec_queryQueue h hr,
      fun h => exec_queryEnvelope h hr⟩,
    fun hop => ⟨fun h => exec_queryLink h hop,
      fun page => ⟨fun h => exec_queryFaults h hop, fun h => exec_queryInputs h hop⟩⟩⟩
  case notSafety => exact exec_readConstant h hf (readConstantOwner_notSafety (s := s.taken p) hp)
  case field =>
    rcases hbad with hx | ⟨x, hx, hi⟩
    · exact exec_readConstant h hf (readConstantOwner_unnamed (s := s.taken p) hp hx)
    · exact exec_readConstant h hf ((readConstantOwner_named (s := s.taken p) hp hx).trans
        (if_neg (ne_true_of_eq_false hi)))
  case read => exact exec_readConstant h hf ((readConstantOwner_named (s := s.taken p) hp hx).trans (if_pos hi))

end Sys2Proof.Machine


namespace Sys2Proof.Machine

/-! ### FREEZE: the order of its checks, and what it leaves (11, R184) -/

/-- The levels that the three receivers hold are all a delivery writes (08, R160). -/
theorem deliverLevels_eq (l : List Input) (s : State) : ∃ engines wake stop, deliverLevels l s = { s with
    engines := engines, link := { s.link with wakeLevels := wake }, react := { s.react with stopLevels := stop } } := by
  refine deliverLevels_induct (fun u => ∃ engines wake stop, u = { s with
    engines := engines, link := { s.link with wakeLevels := wake }, react := { s.react with stopLevels := stop } })
    ?_ l s ⟨_, _, _, rfl⟩
  rintro i _ ⟨engines, wake, stop, rfl⟩
  unfold deliverLevel
  generalize (State.inputConfig _ i).binding = b
  cases b with
  | none => exact ⟨_, _, _, rfl⟩
  | safeStop => exact ⟨_, _, _, rfl⟩
  | wake => exact ⟨_, _, _, rfl⟩
  | brakeFb c => exact ⟨_, _, _, rfl⟩

/-- The forming of the records, then the deliveries, then the allotment, the silence timers and the announcement. -/
theorem freezePart_writes (s : State) : ∃ auth queues envs engines wake stop ports, freezePart s = { s with
    phase := .operating, period := 0, started := false, auth := auth, queues := queues, envs := envs
    engines := engines, allot := { s.allot with budget := 0, grant := grantsOf s.consts 0 s.allot.request }
    react := { s.react with stopLevels := stop }, link := { s.link with wakeLevels := wake }, ports := ports } := by
  obtain ⟨engines, wake, stop, delivered⟩ := deliverLevels_eq allInputs (formRecords s)
  unfold freezePart
  rw [delivered]
  exact ⟨_, _, _, engines, wake, stop, _, rfl⟩

/-- What FREEZE leaves alone. -/
theorem freezePart_eq (s : State) : freezePart s = { s with
    phase := .operating, period := 0, started := false, auth := (freezePart s).auth, queues := (freezePart s).queues
    envs := (freezePart s).envs, engines := (freezePart s).engines
    allot := { s.allot with budget := 0, grant := grantsOf s.consts 0 s.allot.request }
    react := { s.react with stopLevels := (freezePart s).react.stopLevels }
    link := { s.link with wakeLevels := (freezePart s).link.wakeLevels }, ports := (freezePart s).ports } := by
  obtain ⟨auth, queues, envs, engines, wake, stop, ports, h⟩ := freezePart_writes s
  rw [h]

section

variable (s : State) (i : Input)

theorem freezePart_stopLevels (hb : (s.inputConfig i).binding = .safeStop) :
    vget (freezePart s).react.stopLevels i = (s.inp i).level := by
  rw [freezePart_react, deliverLevels_stopLevels]
  exact if_pos ⟨mem_allInputs i, hb⟩

theorem freezePart_wakeLevels (hb : (s.inputConfig i).binding = .wake) :
    vget (freezePart s).link.wakeLevels i = (s.inp i).level := by
  rw [freezePart_link, deliverLevels_wakeLevels]
  exact if_pos ⟨mem_allInputs i, hb⟩

theorem freezePart_feedback (c : Chan) (hb : (s.inputConfig i).binding = .brakeFb c) :
    vget (vget (freezePart s).engines c).feedback i = (s.inp i).level := by
  rw [freezePart_engines, deliverLevels_feedback]
  exact if_pos ⟨mem_allInputs i, hb⟩

end

theorem taken_port (s : State) (p q : Port) :
    (s.taken p).port q = { s.port q with inbound := ((s.taken p).port q).inbound } := by
  unfold State.port
  by_cases hq : q = p
  · subst hq
    rw [popRequest_ports_self]
  · rw [popRequest_ports_ne s hq]

theorem exec_freeze {p : Port} {n : W16} {s u : State} {r : Reply} (h : s.offers p n 4 [])
    (ho : freezeOwner p () (s.taken p) = (u, r)) : exec (.freeze p) s = .next (u.replied p n r) :=
  have fields : readNothing [] = some () := rfl
  done_serve_owner (owner := freezeOwner p) h fields ho

section

variable {p : Port} {s : State}

theorem freezeOwner_notSafety (hp : p ≠ s.safetyPort) : freezeOwner p () s = (s, .bare .notSafety) := if_pos hp

theorem freezeOwner_frozen (hp : p = s.safetyPort) (hop : s.phase = .operating) :
    freezeOwner p () s = (s, .bare .frozen) := by
  rw [freezeOwner, if_neg (not_not_intro hp), if_pos (by rw [inConfig_eq_false.mpr hop]; rfl)]

theorem freezeOwner_range {check item : Nat} (hp : p = s.safetyPort) (hc : s.phase = .config)
    (hf : s.consts.freezeFault = some (check, item)) :
    freezeOwner p () s = (s, ⟨.range, beBytes 1 check ++ beBytes 1 item⟩) := by
  rw [freezeOwner, if_neg (not_not_intro hp), if_neg (by rw [inConfig_eq_true.mpr hc]; exact Bool.false_ne_true), hf]

theorem freezeOwner_passed (hp : p = s.safetyPort) (hc : s.phase = .config) (hf : s.consts.freezeFault = none) :
    freezeOwner p () s = (freezePart s, .bare .ok) := by
  rw [freezeOwner, if_neg (not_not_intro hp), if_neg (by rw [inConfig_eq_true.mpr hc]; exact Bool.false_ne_true), hf]

end

/-- Settles O29: the checks in their order, then the blocks that FREEZE forms. -/
theorem freezeStartsThePart : Obligations.FreezeStartsThePart := by
  intro p n s h
  refine ⟨fun hp => exec_freeze h (freezeOwner_notSafety (s := s.taken p) hp),
    fun hp hop => exec_freeze h (freezeOwner_frozen (s := s.taken p) hp hop),
    fun check item hp hc hf => exec_freeze h (freezeOwner_range (s := s.taken p) hp hc hf),
    fun hp hc hf => ⟨freezePart (s.taken p), exec_freeze h (freezeOwner_passed (s := s.taken p) hp hc hf),
      freezePart_eq (s.taken p), fun c => ⟨?auth, ?queue, freezePart_engine (s.taken p) c, freezePart_env (s.taken p) c⟩,
      fun i => ⟨freezePart_stopLevels (s.taken p) i, freezePart_wakeLevels (s.taken p) i,
        fun c => freezePart_feedback (s.taken p) i c⟩, fun q => ?port⟩⟩
  case auth => simp [State.auRec]
  case queue => simp [State.queue]
  case port =>
    refine (freezePart_port (s.taken p) q).trans ?_
    rw [← State.port, taken_port s p q]
    rfl

end Sys2Proof.Machine


namespace Sys2Proof.Machine

/-! ### The three resets (11, R186, R187) -/

section

variable (kind : ResetKind) (k : Constants) (r : Option SevereFault) (pins : Pins) (s : State) (j : Input)

theorem resetTo_stopLevels : vget (resetTo kind k r pins s).react.stopLevels j =
    (decide ((vget k.inputs j).binding = .safeStop) && (levelAtReset k pins.di j)) := by
  rw [resetTo, deliverLevels_stopLevels]
  by_cases hb : (vget k.inputs j).binding = .safeStop <;>
    simp [hb, mem_allInputs, blocksAfterReset, State.inputConfig, State.inp, InputBlock.initial, State.reset,
      ReactionBlock.initial, vget_vmap_inputs]

theorem resetTo_wakeLevels : vget (resetTo kind k r pins s).link.wakeLevels j =
    (decide ((vget k.inputs j).binding = .wake) && (levelAtReset k pins.di j)) := by
  rw [resetTo, deliverLevels_wakeLevels]
  by_cases hb : (vget k.inputs j).binding = .wake <;>
    simp [hb, mem_allInputs, blocksAfterReset, State.inputConfig, State.inp, InputBlock.initial, State.reset,
      LinkBlock.initial, vget_vmap_inputs]

theorem resetTo_feedback (c : Chan) : vget (vget (resetTo kind k r pins s).engines c).feedback j =
    (decide ((vget k.inputs j).binding = .brakeFb c) && (levelAtReset k pins.di j)) := by
  rw [resetTo, deliverLevels_feedback]
  by_cases hb : (vget k.inputs j).binding = .brakeFb c <;>
    simp [hb, mem_allInputs, blocksAfterReset, State.inputConfig, State.inp, InputBlock.initial, State.reset,
      Engine.initial, vget_vmap_inputs]

end

theorem deliverLevels_unbound {s : State} (h : ∀ i, (s.inputConfig i).binding = .none) (l : List Input) :
    deliverLevels l s = s := by
  induction l with
  | nil => rfl
  | cons i rest ih =>
    rw [deliverLevels, deliverLevel, h i]
    exact ih

/-- The pins of a part with every pin low. -/
def Pins.low : Pins := { straps := 0, signals := Vector.replicate 4 false, di := Vector.replicate 16 false }

theorem blocksAfterReset_initial : blocksAfterReset Constants.initial ⟨.powerOn, none⟩ Pins.low [] = State.reset := by
  have inputs : vmap allInputs (fun i _ => InputBlock.initial (levelAtReset Constants.initial Pins.low.di i))
      State.reset.inputs = State.reset.inputs := by decide
  have ports : vmap allPorts (fun p _ => PortBlock.initial (vget Pins.low.signals p)) State.reset.ports =
      State.reset.ports := by decide
  rw [blocksAfterReset, inputs, ports]
  rfl

theorem resetTo_initial {s : State} (h : s.pending = []) :
    resetTo .powerOn Constants.initial none Pins.low s = State.reset := by
  rw [resetTo, h, blocksAfterReset_initial]
  exact deliverLevels_unbound (fun i => by simp [State.inputConfig, State.reset, Constants.initial, InputConfig.initial]) _

theorem exec_powerOn_low {s : State} (h : s.pending = []) : exec (.powerOn Pins.low) s = .next State.reset := by
  show Host.Outcome.next (resetTo .powerOn Constants.initial none Pins.low s) = _
  rw [resetTo_initial h]

theorem exec_commanded_due {pins : Pins} {s : State} (h : s.resetting = .due) :
    exec (.commanded pins) s = .next (resetTo .commanded s.consts s.retained.severe pins s) := by
  show execCommanded pins s = _
  rw [execCommanded, h]

theorem exec_commanded_idle {pins : Pins} {s : State} (h : s.resetting ≠ .due) : exec (.commanded pins) s = .next s := by
  show execCommanded pins s = _
  unfold execCommanded
  split
  · next hd => exact absurd hd h
  all_goals rfl

/-- The constants and the last severe fault that each reset kind leaves (Table 11-4). -/
theorem exec_reset {kind : ResetKind} {i : Instr} {pins : Pins} {s : State}
    (h : (kind = .powerOn ∧ i = .powerOn pins) ∨ (kind = .line ∧ i = .line pins) ∨
      (kind = .commanded ∧ i = .commanded pins ∧ s.resetting = .due)) :
    ∃ k r, exec i s = .next (resetTo kind k r pins s) ∧ (kind = .powerOn → k = Constants.initial ∧ r = none) ∧
      (kind ≠ .powerOn → k = s.consts ∧ r = s.retained.severe) := by
  rcases h with ⟨rfl, rfl⟩ | ⟨rfl, rfl⟩ | ⟨rfl, rfl, hdue⟩
  · exact ⟨_, _, rfl, fun _ => ⟨rfl, rfl⟩, fun hk => absurd rfl hk⟩
  · exact ⟨_, _, rfl, nofun, fun _ => ⟨rfl, rfl⟩⟩
  · exact ⟨_, _, exec_commanded_due hdue, nofun, fun _ => ⟨rfl, rfl⟩⟩

/-- Settles O3: a reset forms every block anew, then delivers the levels that the pins give. -/
theorem resetsLeaveEveryBlockFresh : Obligations.ResetsLeaveEveryBlockFresh := by
  refine ⟨⟨fun kind i pins s h => ?_, fun pins s h => exec_commanded_idle h⟩,
    fun s h => exec_powerOn_low h⟩
  obtain ⟨k, r, ran, powerOn, other⟩ := exec_reset h
  have left := resetTo_retained kind k r pins s
  refine ⟨resetTo kind k r pins s, ran, by simp, by simp, by simp, by simp, by simp, by rw [left], by simp, by simp,
    by simp, fun hk => ?_, fun hk => ?_, fun c => ⟨by simp [State.auRec], by simp [State.queue], by simp [State.env],
      resetTo_engine kind k r pins s c⟩, resetTo_link kind k r pins s, by simp, resetTo_react kind k r pins s,
    fun j => ?_, fun p => resetTo_port kind k r pins s p⟩
  · rw [resetTo_consts, left]
    exact powerOn hk
  · rw [resetTo_consts, left]
    exact other hk
  · rw [resetTo_consts, State.inp, resetTo_input]
    exact ⟨rfl, resetTo_stopLevels kind k r pins s j, resetTo_wakeLevels kind k r pins s j,
      fun c => resetTo_feedback kind k r pins s j c⟩

end Sys2Proof.Machine


namespace Sys2Proof.Machine

/-! ### What a request command serves: a code, the reading of its fields, and the owner of what was read -/

/-- The command serves its port's frames of one code: the fields are read, and the owner acts on what was read. -/
def ServedBy (i : Instr) (p : Port) (code : Nat) (fit : List Byte → Bool) {α : Type} (parse : List Byte → Option α)
    (owner : α → State → State × Reply) : Prop :=
  fit = fits parse ∧ ∀ s, exec i s = done (serve p code parse owner s)

section

variable {i : Instr} {p : Port} {code : Nat} {fit : List Byte → Bool} {α : Type} {parse : List Byte → Option α}
  {owner : α → State → State × Reply} {n : W16} {fields : List Byte} {s : State}

theorem ServedBy.length (h : ServedBy i p code fit parse owner) (ho : s.offers p n code fields)
    (hf : fit fields = false) : exec i s = .next ((s.taken p).replied p n (.bare .length)) := by
  obtain ⟨rfl, ran⟩ := h
  have unread : parse fields = none := Option.not_isSome_iff_eq_none.mp (ne_true_of_eq_false hf)
  rw [ran, serve_length owner ho unread]
  rfl

theorem ServedBy.idle (h : ServedBy i p code fit parse owner) (hn : ∀ f, s.nextRequest p = some f → f.code ≠ code) :
    exec i s = .next (settle s) := by
  rw [h.2, serve_none p code parse owner s hn]
  rfl

theorem ServedBy.owned {u : State} {r : Reply} (h : ServedBy i p code fit parse owner) (ho : s.offers p n code fields)
    (hf : fit fields = true) (hu : ∀ a, parse fields = some a → owner a (s.taken p) = (u, r)) :
    exec i s = .next (u.replied p n r) := by
  obtain ⟨rfl, ran⟩ := h
  obtain ⟨a, read⟩ := Option.isSome_iff_exists.mp hf
  rw [ran]
  exact done_serve_owner ho read (hu a read)

end

/-! #### Requests whose first field is a route tag -/

section

variable {t : Byte} {rest : List Byte}

theorem readByte_cons_tag {a : Nat} (h : readByte (t :: rest) = some a) : a = t.toNat := by
  unfold readByte at h
  split at h
  · next heq => cases heq; cases h; rfl
  · cases h

theorem readTagFlag_cons_tag {a : Nat × Bool} (h : readTagFlag (t :: rest) = some a) : a.1 = t.toNat := by
  unfold readTagFlag at h
  split at h
  · next heq => cases heq; cases h; rfl
  · cases h

theorem readTagByte_cons_tag {a : Nat × Nat} (h : readTagByte (t :: rest) = some a) : a.1 = t.toNat := by
  unfold readTagByte at h
  split at h
  · next heq => cases heq; cases h; rfl
  · cases h

theorem readTagWord_cons_tag {a : Nat × Nat} (h : readTagWord (t :: rest) = some a) : a.1 = t.toNat := by
  unfold readTagWord at h
  split at h
  · next heq => cases heq; cases h; rfl
  · cases h

theorem readRetract_cons_tag {a : RetractFields} (h : readRetract (t :: rest) = some a) : a.tag = t.toNat := by
  unfold readRetract at h
  split at h
  · next heq => cases heq; cases h; rfl
  · cases h

theorem readPropose_cons_tag {a : ProposeFields} (h : readPropose (t :: rest) = some a) : a.tag = t.toNat := by
  unfold readPropose at h
  split at h
  · next heq => cases heq; cases h; rfl
  · cases h

theorem readDemand_cons_tag {a : DemandFields} (h : readDemand (t :: rest) = some a) : a.tag = t.toNat := by
  unfold readDemand at h
  split at h
  · next heq =>
    split at h
    · cases h
    · obtain ⟨es, -, rfl⟩ := Option.map_eq_some_iff.mp h
      cases heq
      rfl
  · cases h

theorem readSetOpen_cons_tag {a : SetOpenFields} (h : readSetOpen (t :: rest) = some a) : a.tag = t.toNat := by
  unfold readSetOpen at h
  split at h
  · next heq =>
    obtain ⟨es, -, rfl⟩ := Option.map_eq_some_iff.mp h
    cases heq
    rfl
  · cases h

end

/-- The command's owner goes where the tag that it reads first leads. -/
def TaggedBy (i : Instr) (p : Port) (code : Nat) (fit : List Byte → Bool) : Prop :=
  ∃ (α : Type) (parse : List Byte → Option α) (tagOf : α → Nat) (own : α → Chan → State → State × Reply),
    ServedBy i p code fit parse (fun a s => onRoute p (tagOf a) (own a) s) ∧
    ∀ t rest a, parse (t :: rest) = some a → tagOf a = t.toNat

theorem tagged_of_code {i : Instr} {p : Port} {code : Nat} {fit : List Byte → Bool}
    (h : i.request = some (p, code, fit)) (h6 : 6 ≤ code) (h26 : code ≤ 26) (hc : i ≠ .claim p) :
    TaggedBy i p code fit := by
  cases i with
  | claim q =>
    cases h
    exact absurd rfl hc
  | cancelClaim q | release q | unlock q | queryAuthority q | engage q | disengage q | forceRamp q | restore q
    | queryChannel q | queryQueue q | cancelProposal q | queryEnvelope q =>
    cases h
    exact ⟨Nat, readByte, id, _, ⟨rfl, fun _ => rfl⟩, fun _ _ _ => readByte_cons_tag⟩
  | lock q | flush q =>
    cases h
    exact ⟨Nat × Nat, readTagWord, Prod.fst, _, ⟨rfl, fun _ => rfl⟩, fun _ _ _ => readTagWord_cons_tag⟩
  | confirm q | reject q =>
    cases h
    exact ⟨Nat × Nat, readTagByte, Prod.fst, _, ⟨rfl, fun _ => rfl⟩, fun _ _ _ => readTagByte_cons_tag⟩
  | demand q =>
    cases h
    exact ⟨_, readDemand, DemandFields.tag, _, ⟨rfl, fun _ => rfl⟩, fun _ _ _ => readDemand_cons_tag⟩
  | retract q =>
    cases h
    exact ⟨_, readRetract, RetractFields.tag, _, ⟨rfl, fun _ => rfl⟩, fun _ _ _ => readRetract_cons_tag⟩
  | setOpen q =>
    cases h
    exact ⟨_, readSetOpen, SetOpenFields.tag, _, ⟨rfl, fun _ => rfl⟩, fun _ _ _ => readSetOpen_cons_tag⟩
  | propose q =>
    cases h
    exact ⟨_, readPropose, ProposeFields.tag, _, ⟨rfl, fun _ => rfl⟩, fun _ _ _ => readPropose_cons_tag⟩
  | queryPart q | writeConstant q | readConstant q | freeze q | resetPart q | linkUp q | linkPark q | linkDown q
    | queryLink q | safeStop q | safeRelease q | setMask q | queryFaults q | inputAck q | queryInputs q | subscribe q
    | setPacing q =>
    cases h
    omega
  | _ => cases h

/-! #### The checks that come first -/

/-- In CONFIG the command's owner answers UNFROZEN. -/
def WaitsForFreeze (i : Instr) (p : Port) (code : Nat) (fit : List Byte → Bool) : Prop :=
  ∃ (α : Type) (parse : List Byte → Option α) (owner : α → State → State × Reply),
    ServedBy i p code fit parse owner ∧
    ∀ a t, t.phase = .config → t.link.state ≠ .parked → owner a t = (t, .bare .unfrozen)

theorem TaggedBy.waitsForFreeze {i : Instr} {p : Port} {code : Nat} {fit : List Byte → Bool}
    (h : TaggedBy i p code fit) : WaitsForFreeze i p code fit := by
  obtain ⟨α, parse, tagOf, own, served, -⟩ := h
  exact ⟨α, parse, _, served, fun a t hc _ => onRoute_unfrozen (own a) hc⟩

theorem wakeLink_idle {s : State} (h : s.link.state ≠ .parked) : wakeLink s = s := if_neg h

theorem claimOwner_config {p : Port} {f : Nat × Bool} {s : State} (hc : s.phase = .config)
    (hl : s.link.state ≠ .parked) : claimOwner p f s = (s, .bare .unfrozen) := by
  unfold claimOwner
  rw [onRoute_unfrozen _ hc]
  dsimp only
  rw [wakeLink_idle hl, ite_self]

theorem waitsForFreeze_of_code {i : Instr} {p : Port} {code : Nat} {fit : List Byte → Bool}
    (h : i.request = some (p, code, fit)) (h6 : 6 ≤ code) : WaitsForFreeze i p code fit := by
  by_cases hclaim : i = .claim p
  · subst hclaim
    cases h
    exact ⟨_, readTagFlag, claimOwner p, ⟨rfl, fun _ => rfl⟩, fun _ _ => claimOwner_config⟩
  by_cases h26 : code ≤ 26
  · exact (tagged_of_code h h6 h26 hclaim).waitsForFreeze
  have unfrozen {t : State} {x : State × Reply} (hc : t.phase = .config) :
      (if t.inConfig then (t, Reply.bare .unfrozen) else x) = (t, .bare .unfrozen) := if_pos (inConfig_eq_true.mpr hc)
  cases i with
  | linkUp q | linkPark q | linkDown q | queryLink q | safeStop q | safeRelease q =>
    cases h
    exact ⟨_, readNothing, _, ⟨rfl, fun _ => rfl⟩, fun _ _ hc _ => unfrozen hc⟩
  | setMask q | inputAck q | subscribe q =>
    cases h
    exact ⟨_, readList, _, ⟨rfl, fun _ => rfl⟩, fun _ _ hc _ => unfrozen hc⟩
  | queryFaults q | queryInputs q =>
    cases h
    exact ⟨_, readByte, _, ⟨rfl, fun _ => rfl⟩, fun _ _ hc _ => unfrozen hc⟩
  | setPacing q =>
    cases h
    exact ⟨_, readWord, _, ⟨rfl, fun _ => rfl⟩, fun _ _ hc _ => unfrozen hc⟩
  | claim q | cancelClaim q | release q | lock q | unlock q | queryAuthority q | engage q | disengage q | forceRamp q
    | restore q | queryChannel q | demand q | retract q | flush q | queryQueue q | setOpen q | propose q
    | cancelProposal q | confirm q | reject q | queryEnvelope q | queryPart q | writeConstant q | readConstant q
    | freeze q | resetPart q =>
    cases h
    omega
  | _ => cases h

/-- A CLAIM whose route refuses it is answered as the route says, and wakes a PARKED link for a permitted port. -/
theorem claimOwner_refused {p : Port} {f : Nat × Bool} {s : State} {r : Reply}
    (h : onRoute p f.1 (claimOn p f.2) s = (s, r)) :
    claimOwner p f s = (if vget s.consts.wakePermit p then wakeLink s else s, r) := by
  unfold claimOwner
  rw [h]

/-- A tagged request that its route refuses is answered as the route says. -/
theorem exec_refusedRoute {i : Instr} {p : Port} {code : Nat} {fit : List Byte → Bool} {n : W16} {tag : Byte}
    {rest : List Byte} {s u : State} {r : Reply} (h : i.request = some (p, code, fit)) (h6 : 6 ≤ code) (h26 : code ≤ 26)
    (ho : s.offers p n code (tag :: rest)) (hf : fit (tag :: rest) = true)
    (hu : u = if i = .claim p ∧ vget s.consts.wakePermit p = true then wakeLink (s.taken p) else s.taken p)
    (refused : ∀ own : Chan → State → State × Reply, onRoute p tag.toNat own (s.taken p) = (s.taken p, r)) :
    exec i s = .next (u.replied p n r) := by
  by_cases hclaim : i = .claim p
  · subst hclaim
    cases h
    have served : ServedBy (.claim p) p 6 (fits readTagFlag) readTagFlag (claimOwner p) := ⟨rfl, fun _ => rfl⟩
    refine served.owned ho hf fun a ha => ?_
    rw [claimOwner_refused (s := s.taken p) (by rw [readTagFlag_cons_tag ha]; exact refused _), hu]
    exact congrArg (·, r) (ite_of_iff ⟨fun hw => ⟨rfl, hw⟩, fun hw => hw.2⟩)
  · obtain ⟨α, parse, tagOf, own, served, tagged⟩ := tagged_of_code h h6 h26 hclaim
    refine served.owned ho hf fun a ha => ?_
    rw [tagged _ _ _ ha, hu, if_neg fun hc => hclaim hc.1]
    exact refused _

/-- Settles O25: every tagged request goes by its route, and every other one from code 27 on asks for FREEZE first. -/
theorem firstChecksComeFirst : Obligations.FirstChecksComeFirst := by
  refine ⟨fun i p code fit n fields s hok hc h h6 ho hf => ?config,
    fun i p code fit n tag rest s u hop h h6 h26 ho hf hu => ⟨fun hl => ?unrouted, fun c hl hfollow => ?tandem⟩⟩
  case config =>
    obtain ⟨α, parse, owner, served, waits⟩ := waitsForFreeze_of_code h h6
    have awake : s.link.state ≠ .parked := by
      rcases (hok.2 hc).2 with hl | hl <;> rw [hl] <;> nofun
    exact served.owned ho hf fun a _ => waits a (s.taken p) hc awake
  case unrouted => exact exec_refusedRoute h h6 h26 ho hf hu fun own => onRoute_unrouted (s := s.taken p) own hop hl
  case tandem => exact exec_refusedRoute h h6 h26 ho hf hu fun own => onRoute_tandem (s := s.taken p) own hop hl hfollow

end Sys2Proof.Machine


namespace Sys2Proof.Machine

/-! ### One request, one answer (09, R169 to R171) -/

/-- Every request command but RESET_PART serves its frames through an owner. -/
theorem served_of_request {i : Instr} {p : Port} {code : Nat} {fit : List Byte → Bool}
    (h : i.request = some (p, code, fit)) (hr : i ≠ .resetPart p) :
    ∃ (α : Type) (parse : List Byte → Option α) (owner : α → State → State × Reply), ServedBy i p code fit parse owner := by
  by_cases h6 : 6 ≤ code
  · obtain ⟨α, parse, owner, served, -⟩ := waitsForFreeze_of_code h h6
    exact ⟨α, parse, owner, served⟩
  cases i with
  | queryPart q =>
    cases h
    exact ⟨_, readNothing, queryPartOwner, rfl, fun _ => rfl⟩
  | writeConstant q =>
    cases h
    exact ⟨_, readWriteConstant, writeConstantOwner p, rfl, fun _ => rfl⟩
  | readConstant q =>
    cases h
    exact ⟨_, readReadConstant, readConstantOwner p, rfl, fun _ => rfl⟩
  | freeze q =>
    cases h
    exact ⟨_, readNothing, freezeOwner p, rfl, fun _ => rfl⟩
  | resetPart q =>
    cases h
    exact absurd rfl hr
  | claim q | cancelClaim q | release q | lock q | unlock q | queryAuthority q | engage q | disengage q | forceRamp q
    | restore q | queryChannel q | demand q | retract q | flush q | queryQueue q | setOpen q | propose q
    | cancelProposal q | confirm q | reject q | queryEnvelope q | linkUp q | linkPark q | linkDown q | queryLink q
    | safeStop q | safeRelease q | setMask q | queryFaults q | inputAck q | queryInputs q | subscribe q | setPacing q =>
    cases h
    omega
  | _ => cases h

theorem exec_resetPart_length {p : Port} {n : W16} {fields : List Byte} {s : State} (h : s.offers p n 5 fields)
    (hf : readNothing fields = none) : exec (.resetPart p) s = .next ((s.taken p).replied p n (.bare .length)) := by
  show done (serveReset p s) = _
  unfold serveReset
  rw [h]
  dsimp only
  rw [if_neg (not_not_intro rfl), hf]
  rfl

theorem exec_resetPart_idle {p : Port} {s : State} (hn : ∀ f, s.nextRequest p = some f → f.code ≠ 5) :
    exec (.resetPart p) s = .next (settle s) := by
  show done (serveReset p s) = _
  unfold serveReset
  split
  · rfl
  · next f hf => exact congrArg done (if_pos (hn f hf))

theorem exec_unknownRequest {p : Port} {n : W16} {code : Nat} {fields : List Byte} {s : State}
    (h : s.offers p n code fields) (hc : code = 0 ∨ 38 < code) :
    exec (.unknownRequest p) s = .next ((s.taken p).replied p n (.bare .unknown)) := by
  show done (serveUnknown p s) = _
  unfold serveUnknown
  rw [h]
  exact congrArg done (if_pos hc)

theorem nextRequest_iff {p : Port} {f : Frame} {s : State} : s.nextRequest p = some f ↔
    s.resetting = .none ∧ (s.port p).answer = none ∧ (s.port p).inbound.head? = some f := by
  unfold State.nextRequest
  split
  · next h => exact ⟨fun hf => ⟨h.1, h.2, hf⟩, fun hf => hf.2.2⟩
  · next h => exact ⟨nofun, fun ⟨hr, ha, _⟩ => absurd ⟨hr, ha⟩ h⟩

theorem replied_port_ne (u : State) {p q : Port} (n : W16) (r : Reply) (h : q ≠ p) :
    (u.replied p n r).port q = (u.port q).settle u.consts u.period := by
  rw [State.port, settle_ports_get, putAnswer_ports_ne u n false r h]
  rfl

theorem taken_port_self (s : State) (p : Port) :
    (s.taken p).port p = { s.port p with inbound := (s.port p).inbound.tail } := popRequest_ports_self s p

/-- The answer stands in its slot, or is being sent. -/
theorem taken_replied_answer (s : State) (p : Port) (n : W16) (r : Reply) :
    (((s.taken p).replied p n r).port p).answer =
        some ⟨answerFrame n r.status.code (s.port p).overrun r.fields, false⟩ ∨
      (((s.taken p).replied p n r).port p).sending =
        some ⟨answerFrame n r.status.code (s.port p).overrun r.fields, false⟩ := by
  rw [replied_port_self, taken_port_self]
  exact PortBlock.settle_answer _ _ _ _ rfl

/-- Settles O24. -/
theorem oneRequestOneAnswer : Obligations.OneRequestOneAnswer := by
  refine ⟨⟨fun p n code fields s h hc => exec_unknownRequest h hc, fun i p code fit s h => ?request⟩,
    fun p s => ⟨fun f => nextRequest_iff, ?answer⟩⟩
  case request =>
    by_cases hreset : i = .resetPart p
    · subst hreset
      cases h
      exact ⟨fun n fields ho hf => exec_resetPart_length ho
        (Option.not_isSome_iff_eq_none.mp (ne_true_of_eq_false hf)), exec_resetPart_idle⟩
    · obtain ⟨α, parse, owner, served⟩ := served_of_request h hreset
      exact ⟨fun n fields ho hf => served.length ho hf, served.idle⟩
  case answer =>
    rintro n r _ rfl
    refine ⟨rfl, ?_, ?_, taken_replied_answer s p n r, fun q hq => ?_⟩
    · rw [replied_port_self, PortBlock.settle_inbound, taken_port_self]
    · rw [replied_port_self, PortBlock.settle_overrun]
    · rw [replied_port_ne _ n r hq, State.port, popRequest_ports_ne s hq]
      rfl

end Sys2Proof.Machine


namespace Sys2Proof.Machine

/-! ### A change of holder (02, R36) -/

theorem flushQueue_of_empty {l : Chan} {s : State} (h : (s.queue l).entries = []) : flushQueue l s = s := by
  have same : { s.queue l with entries := [] } = s.queue l := by rw [← h]
  unfold flushQueue
  rw [same, State.queue, vset_vget_self]

/-- Settles O5: the record and the queue, and HOLDING for a running channel that is left without a holder. -/
theorem changeOfHolderIsOneAction : Obligations.ChangeOfHolderIsOneAction := by
  intro l new s u hu
  have written : u = { s with
      auth := vset s.auth l (heldBy s l new), queues := vset s.queues l (s.queue l).passed } := by
    rw [hu]
    cases new <;> rfl
  have changed : changeHolder l new s = if new = none && (s.eng l).state.running then toHolding l u else u := by
    rw [written]
    rfl
  refine ⟨fun h => changed.trans (if_neg ?_), fun hn hr => changed.trans ((if_pos ?_).trans ?_)⟩
  · rintro hc
    obtain ⟨hn, hr⟩ := (Bool.and_eq_true _ _).mp hc
    rcases h with h | h
    · exact h (of_decide_eq_true hn)
    · exact Bool.false_ne_true (h.symm.trans hr)
  · rw [hn, hr]
    rfl
  · have empty : (u.queue l).entries = [] := by
      rw [written]
      exact congrArg DemandQueue.entries (vget_vset_self _ _ _)
    rw [toHolding, flushQueue_of_empty empty, hu]
    rfl

/-! ### The expiry of a lock (02, R42) -/

/-- The record after its lock has expired, once the holder is told. -/
theorem lockExpired_auRec {c : Chan} {old : Port} {s u : State}
    (hu : u = handTo old .lockExpired { s with auth := vset s.auth c { s.auRec c with lock := none } }) :
    u.auRec c = { s.auRec c with lock := none } := by
  rw [hu, handTo_auRec]
  exact vget_vset_self _ _ _

theorem lockExpiryOf_expired {c : Chan} {old : Port} {s : State} (hl : (s.auRec c).lock = some 0)
    (hh : (s.auRec c).holder = some old) : lockExpiryOf c s = takeReactions (preemptByHead c
      (handTo old .lockExpired { s with auth := vset s.auth c { s.auRec c with lock := none } })) := by
  unfold lockExpiryOf
  dsimp only
  rw [if_pos hl, hh]

/-! ### The expiries of handovers, proposals and link timers (02, R44; 06, R129; 05, R97, R98, R101) -/

theorem handoverExpiryOf_expired {c : Chan} {h : Handover} {s : State} (hh : (s.auRec c).handover = some h)
    (h0 : h.left = 0) : handoverExpiryOf c s =
      reportOrdinary .starved (.channel c) (some (s.auRec c).epoch) (dropHandover c s) := by
  unfold handoverExpiryOf
  rw [hh]
  exact if_pos h0

theorem proposalExpiryOf_expired {c : Chan} {x : Proposal} {s : State} (hx : (s.env c).proposal = some x)
    (h0 : x.left = 0) : proposalExpiryOf c s = endProposal c .expired s := by
  unfold proposalExpiryOf
  rw [hx]
  exact if_pos h0

section

variable {s : State}

theorem expired_of {x : LinkState} (hl : s.link.state = x) (ht : s.link.timer = some 0) :
    (s.link.state = x && decide (s.link.timer = some 0)) = true := by
  rw [decide_eq_true hl, decide_eq_true ht]
  rfl

theorem chargeExpiry_expired (hl : s.link.state = .charging) (ht : s.link.timer = some 0) :
    chargeExpiry s = linkFault .chargeFail s := if_pos (expired_of hl ht)

theorem settleExpiry_expired (hl : s.link.state = .settling) (ht : s.link.timer = some 0) :
    settleExpiry s = changeLink .ready s := if_pos (expired_of hl ht)

theorem wakeExpiry_expired (hl : s.link.state = .waking) (ht : s.link.timer = some 0) :
    wakeExpiry s = linkFault .wakeFail s := if_pos (expired_of hl ht)

end

/-- Settles O14. -/
theorem locksDeadlinesAndLinkTimersExpire : Obligations.LocksDeadlinesAndLinkTimersExpire := by
  refine ⟨fun c old k s u hl hh hk hu => ?lock, ⟨fun c h s hh h0 => ?handover, fun c x s hx h0 => ?proposal⟩,
    fun s ht => ⟨fun hl => congrArg done (chargeExpiry_expired hl ht), fun hl => congrArg done (settleExpiry_expired hl ht),
      fun hl => congrArg done (wakeExpiry_expired hl ht)⟩⟩
  case lock =>
    have expired : exec (.lockExpiry c) s = .next (settle (takeReactions (preemptByHead c u))) := by
      rw [hu]
      exact congrArg done (lockExpiryOf_expired hl hh)
    have record := lockExpired_auRec hu
    have rank : (u.auRec c).holderRank = some k := by rw [record]; exact hk
    have holder : (u.auRec c).holder = some old := by rw [record]; exact hh
    have waiting : (u.auRec c).waiting = (s.auRec c).waiting := by rw [record]
    rw [← waiting]
    exact ⟨fun hw => by rw [expired, preemptByHead_stays rank hw],
      fun x rest hw hx => by rw [expired, preemptByHead_passes rank holder hw hx]⟩
  case handover => exact congrArg done (handoverExpiryOf_expired hh h0)
  case proposal => exact congrArg done ((proposalExpiryOf_expired hx h0).trans (endProposal_some .expired hx))

/-! ### The expiries of a port's timers (09, R167; 10, R178) -/

theorem silenceExpiry_expired {p : Port} {s : State} (hl : (s.port p).link = .up) (hs : (s.port p).silence = some 0) :
    silenceExpiry p s = reportOrdinary .portSilent (.port p) none
      { s with ports := vset s.ports p { s.port p with link := .silent, silence := none } } := if_pos ⟨hl, hs⟩

theorem pacingExpiry_expired {p : Port} {s : State} (h : (s.port p).pacing = some 0) :
    pacingExpiry p s = { s with ports := vset s.ports p { s.port p with pacing := none } } := if_pos h

/-- A due frame is formed, and waits in the slot or is being sent. -/
theorem PortBlock.settle_due {b : PortBlock} (k : Constants) (P : W32) (hs : b.summary ≠ 0#12) (hp : b.pacing = none)
    (hn : b.notice = none) : (b.settle k P).summary = 0 ∧
      ((b.settle k P).notice = some ⟨noticeFrame b.summary P, false⟩ ∨
        (b.settle k P).sending = some ⟨noticeFrame b.summary P, false⟩) ∧
      (b.settle k P).pacing = if k.periods b.pacingMs = 0 then none else some (k.periods b.pacingMs) := by
  have formed : b.formNotice k P = { b with
      notice := some ⟨noticeFrame b.summary P, false⟩, summary := 0
      pacing := if k.periods b.pacingMs = 0 then none else some (k.periods b.pacingMs) } := if_pos ⟨hs, hp, hn⟩
  have again (c : PortBlock) (hc : c.summary = 0) : c.formNotice k P = c :=
    PortBlock.formNotice_undue k P fun h => h.1 hc
  unfold PortBlock.settle
  rw [formed]
  generalize hf : ({ b with
      notice := some ⟨noticeFrame b.summary P, false⟩, summary := 0
      pacing := if k.periods b.pacingMs = 0 then none else some (k.periods b.pacingMs) } : PortBlock) = f
  have summary : f.summary = 0 := by rw [← hf]
  have notice : f.notice = some ⟨noticeFrame b.summary P, false⟩ := by rw [← hf]
  have pacing : f.pacing = if k.periods b.pacingMs = 0 then none else some (k.periods b.pacingMs) := by rw [← hf]
  rcases f.begin_cases with h | ⟨g, -, h⟩ | ⟨g, -, hg, h⟩
  · rw [h, again f summary]
    exact ⟨summary, .inl notice, pacing⟩
  · rw [h, again { f with sending := some g, answer := none } summary]
    exact ⟨summary, .inl notice, pacing⟩
  · rw [h, again { f with sending := some g, notice := none } summary]
    exact ⟨summary, .inr (hg.symm.trans notice), pacing⟩

/-- Settles O15. -/
theorem portTimersExpire : Obligations.PortTimersExpire := by
  intro p s
  refine ⟨fun hl hs => congrArg done (silenceExpiry_expired hl hs),
    fun hp => ⟨_, congrArg done (pacingExpiry_expired hp), rfl, fun hs hn => ?_⟩⟩
  rw [State.port, settle_ports_get]
  have self : vget (vset s.ports p { s.port p with pacing := none }) p = { s.port p with pacing := none } :=
    vget_vset_self _ _ _
  rw [self]
  exact PortBlock.settle_due (b := { s.port p with pacing := none }) s.consts s.period hs rfl hn

end Sys2Proof.Machine


namespace Sys2Proof.Machine

/-! ### The examination of the queue at a period start (03, R65 to R69) -/

theorem running_iff {x : ChState} : x.running = true ↔ x = .releasing ∨ x = .run := by cases x <;> simp [ChState.running]

section

variable {l : Chan} {x : Entry} {rest : List Entry} {s : State}

theorem headAt_some (he : (s.queue l).entries = x :: rest) (hx : x.stamp = s.period) : s.headAt l = some x := by
  rw [State.headAt, he]
  exact Option.filter_eq_some_iff.mpr ⟨rfl, decide_eq_true hx⟩

theorem headAt_none (h : ∀ x, (s.queue l).entries.head? = some x → x.stamp ≠ s.period) : s.headAt l = none :=
  Option.filter_eq_none_iff.mpr fun x hx => by simpa using h x hx

theorem queueStep_take (hr : (s.eng l).state.running = true) (hh : s.headAt l = some x) :
    queueStep l s = takeEntry l x s := by
  unfold queueStep
  rw [hh]
  rcases running_iff.mp hr with h | h <;> rw [h]

theorem queueStep_gap (hr : (s.eng l).state.running = true) (hh : s.headAt l = none) :
    queueStep l s = if (s.auRec l).handover.isSome then s else countGap l s := by
  unfold queueStep
  rw [hh]
  rcases running_iff.mp hr with h | h <;> rw [h]

theorem queueStep_expired (ho : (s.eng l).state = .off) (he : (s.queue l).entries = x :: rest)
    (hx : x.stamp = s.period) : queueStep l s =
      { s with queues := s.onQueue l fun q => { q with entries := rest, expired := min 65535 (q.expired + 1) } } := by
  unfold queueStep
  rw [ho, headAt_some he hx]
  dsimp only
  rw [he]
  rfl

theorem queueStep_off (ho : (s.eng l).state = .off) (hh : s.headAt l = none) : queueStep l s = s := by
  unfold queueStep
  rw [ho, hh]

theorem queueStep_idle (h : (s.eng l).state = .holding ∨ (s.eng l).state = .ramping ∨ (s.eng l).state = .stopping ∨
    (s.eng l).state = .tripped) : queueStep l s = s := by
  unfold queueStep
  rcases h with h | h | h | h <;> rw [h]

/-! #### The take -/

/-- The take of the head: the queue and the active demand (R65). -/
theorem taken_queue (he : (s.queue l).entries = x :: rest) : (s.queue l).take s.period =
    { s.queue l with entries := rest, gap := 0, starved := false, lastApplied := some s.period } := by
  rw [DemandQueue.take, he]
  rfl

theorem lowWater_crossed (n : Nat) : lowWater l (n + 1) s = match (s.auRec l).holder with
    | some h => if (s.env l).opens.lowWater < n + 1 ∧ n ≤ (s.env l).opens.lowWater then handTo h .queueLow s else s
    | none => s := by
  unfold lowWater
  cases (s.auRec l).holder <;> exact rfl

theorem closeHandover_eq : closeHandover l s = if (s.auRec l).handover = none then s else takeReactions (dropHandover l s) := by
  unfold closeHandover
  cases (s.auRec l).handover <;> rfl

/-! #### The gap -/

theorem gapped_eq (q : DemandQueue) (limit : Nat) : q.gapped limit =
    { q with gap := min 65535 (q.gap + 1), starved := q.starved || decide (limit ≤ min 65535 (q.gap + 1)) } := rfl

/-- A gap below the limit, or with the indication set already, is counted. -/
theorem countGap_counted (h : (s.queue l).starved = true ∨ min 65535 ((s.queue l).gap + 1) < (s.env l).opens.starve) :
    countGap l s = { s with queues := s.onQueue l fun q => { q with gap := min 65535 (q.gap + 1) } } := by
  have kept : ((s.queue l).starved || decide ((s.env l).opens.starve ≤ min 65535 ((s.queue l).gap + 1))) =
      (s.queue l).starved := by
    rcases h with h | h
    · rw [h, Bool.true_or]
    · rw [decide_eq_false (Nat.not_le_of_lt h), Bool.or_false]
  have quiet : ¬ (!(s.queue l).starved &&
      decide ((s.env l).opens.starve ≤ min 65535 ((s.queue l).gap + 1))) = true := by
    rw [Bool.and_eq_true, Bool.not_eq_true', decide_eq_true_eq]
    rintro ⟨hs, hn⟩
    rcases h with h | h
    · exact Bool.false_ne_true (hs.symm.trans h)
    · omega
  unfold countGap
  dsimp only
  rw [if_neg quiet, gapped_eq, kept]

/-- The gap at the limit with the indication clear sets it and reports STARVED. -/
theorem countGap_starved (hs : (s.queue l).starved = false)
    (hn : (s.env l).opens.starve ≤ min 65535 ((s.queue l).gap + 1)) :
    countGap l s = reportOrdinary .starved (.channel l) (some (s.auRec l).epoch)
      { s with queues := s.onQueue l fun q => { q with gap := min 65535 (q.gap + 1), starved := true } } := by
  unfold countGap
  dsimp only
  rw [if_pos (by rw [hs, decide_eq_true hn]; rfl), gapped_eq, decide_eq_true hn, Bool.or_true]

end

/-- Settles O11. -/
theorem periodStartExaminesTheQueue : Obligations.PeriodStartExaminesTheQueue := by
  refine ⟨fun l x rest s u hr he hx hu => ?take, fun l s hr hno => ⟨fun hh => ?handover, fun hh n hn => ?gap⟩,
    fun l s => ⟨fun ho => ⟨fun x rest he hx => queueStep_expired ho he hx, fun hno => queueStep_off ho (headAt_none hno)⟩,
      queueStep_idle⟩⟩
  case take =>
    have examined : queueStep l s = closeHandover l (lowWater l (rest.length + 1) u) := by
      rw [queueStep_take hr (headAt_some he hx), takeEntry, taken_queue he, he, hu]
      rfl
    have record : u.auRec l = s.auRec l := by rw [hu]; rfl
    have envelope : u.env l = s.env l := by rw [hu]; rfl
    have low := lowWater_crossed (l := l) (s := u) rest.length
    rw [record, envelope] at low
    have auth : (lowWater l (rest.length + 1) u).auRec l = s.auRec l := by
      rw [State.auRec, lowWater_auth, ← State.auRec, record]
    refine ⟨lowWater l (rest.length + 1) u, low, ?_⟩
    · rw [examined, closeHandover_eq, dropHandover, auth]
  case handover =>
    rw [queueStep_gap hr (headAt_none hno)]
    exact if_pos (Option.isSome_iff_ne_none.mpr hh)
  case gap =>
    subst hn
    rw [queueStep_gap hr (headAt_none hno), if_neg (by rw [hh]; exact Bool.false_ne_true)]
    exact ⟨countGap_counted, countGap_starved⟩

end Sys2Proof.Machine


namespace Sys2Proof.Machine

/-! ### Ramp values (01, R12, R13) -/

section

variable (start : Int) {left total : Nat}

theorem rampField_full (ht : 0 < total) : rampField start total total = start :=
  Int.mul_tdiv_cancel start (Int.natCast_ne_zero.mpr (Nat.ne_of_gt ht))

theorem rampField_zero (total : Nat) : rampField start 0 total = 0 := by
  rw [rampField, Int.natCast_zero, Int.mul_zero, Int.zero_tdiv]

theorem rampField_natAbs (left total : Nat) : (rampField start left total).natAbs = start.natAbs * left / total := by
  rw [rampField, Int.natAbs_tdiv, Int.natAbs_mul, Int.natAbs_natCast, Int.natAbs_natCast]
  rfl

theorem rampField_natAbs_le (hl : left ≤ total) : (rampField start left total).natAbs ≤ start.natAbs := by
  rw [rampField_natAbs]
  refine Nat.div_le_of_le_mul ?_
  rw [Nat.mul_comm total]
  exact Nat.mul_le_mul_left _ hl

variable {start}

theorem rampField_nonneg (h : 0 ≤ start) (left total : Nat) : 0 ≤ rampField start left total :=
  Int.tdiv_nonneg (Int.mul_nonneg h (Int.natCast_nonneg left)) (Int.natCast_nonneg total)

theorem rampField_nonpos (h : start ≤ 0) (left total : Nat) : rampField start left total ≤ 0 := by
  have mirrored : rampField start left total = -rampField (-start) left total := by
    rw [rampField, rampField, Int.neg_mul, Int.neg_tdiv, Int.neg_neg]
  have := rampField_nonneg (start := -start) (by omega) left total
  omega

end

/-! ### What a taking leaves of a channel that does not run -/

/-- The channel holds no entries, which nothing but DEMAND changes. -/
theorem keptMoves_emptyQueue (c : Chan) : KeptMoves fun s => (vget s.queues c).entries = [] where
  free _ _ _ _ _ h := h
  ports _ _ h := h
  line _ _ _ _ h := h
  queues v hv h := List.sublist_nil.mp (h ▸ hv c)
  engines _ _ h := h
  envs _ _ h := h
  auth _ h := h
  link _ _ h := h
  react _ _ _ h := h
  budget _ h := by rwa [setBudget_queues]
  request _ _ _ h := by rwa [setRequest_queues]
  move _ _ _ _ h := by rwa [moveGroup_queues]
  enterLink _ h := by rwa [enterLink_queues]

/-- With no entries and out of RELEASING and RUN there is nothing to examine. -/
theorem queueStep_empty {c : Chan} {s : State} (hr : (s.eng c).state.running = false) (he : (s.queue c).entries = []) :
    queueStep c s = s := by
  have none : s.headAt c = none := headAt_none fun x hx => by rw [he] at hx; cases hx
  cases h : (s.eng c).state with
  | off => exact queueStep_off h none
  | releasing | run => rw [h] at hr; cases hr
  | holding => exact queueStep_idle (.inl h)
  | ramping => exact queueStep_idle (.inr (.inl h))
  | stopping => exact queueStep_idle (.inr (.inr (.inl h)))
  | tripped => exact queueStep_idle (.inr (.inr (.inr h)))

theorem State.restsIn.running {s t : State} (h : s.restsIn t) {c : Chan} (hr : (s.eng c).state.running = false) :
    (t.eng c).state.running = false := by
  rcases h c with hc | ⟨hc, -⟩
  · rwa [State.eng, hc]
  · exact absurd hc (ne_true_of_eq_false hr)

/-! ### The ramp and stop steps, and their ends (01, R8, R12, R13; 07, R141) -/

section

variable {c : Chan} {s : State}

theorem rampStep_some {left : Nat} (ht : (s.eng c).timer = some left) : rampStep c s = { s with
    engines := vset s.engines c { s.eng c with active := (s.eng c).rampStart.ramped left (s.eng c).rampTotal } } := by
  unfold rampStep
  dsimp only
  rw [ht]

theorem timerStep_ramping (h : (s.eng c).state = .ramping) : timerStep c s =
    if (s.eng c).timer = some 0 then toOff c (rampStep c s) else rampStep c s := by
  unfold timerStep
  dsimp only
  rw [h]

theorem timerStep_stopping (h : (s.eng c).state = .stopping) : timerStep c s =
    if (s.eng c).timer = some 0 then reportDeparture (toOff c (rampStep c s)) else rampStep c s := by
  unfold timerStep
  dsimp only
  rw [h]

/-- Entry to OFF writes the active demand, whatever the last ramp step left there. -/
theorem toOff_rampStep {left : Nat} (ht : (s.eng c).timer = some left) : toOff c (rampStep c s) =
    moveGroup c .off none { s with engines := vset s.engines c { s.eng c with
      active := { iq := 0, id := (s.eng c).idTarget, split := 0, vff := 0 } } } := by
  rw [rampStep_some ht, toOff]
  simp only [State.eng, vget_vset_self, vset_vset]
  rfl

theorem reportDeparture_eq : reportDeparture s =
    if s.react.inService.map (·.kind) = some .safeStop ∧ s.noneStopping = true then takeReactions (endSafeStop .completed s)
    else s := by
  unfold reportDeparture
  cases s.react.inService with
  | none => exact (if_neg (by simp)).symm
  | some i => simp

theorem reportDeparture_restsIn : s.restsIn (reportDeparture s) := by
  rw [reportDeparture_eq]
  split
  · exact State.restsIn_trans (State.restsIn_of_eq fun _ => by rw [endSafeStop_engines]) (takeReactions_restsIn _)
  · exact State.restsIn_of_eq fun _ => rfl

theorem overdueEngine_expired (hs : s.served c = true) (ht : (s.eng c).timer = some 0) :
    overdueEngine c s = queueStep c (timerStep c s) := if_pos (by rw [hs, decide_eq_true ht]; rfl)

theorem exec_rampCountExpiry (h : (s.eng c).state = .ramping) :
    exec (.rampCountExpiry c) s = .next (settle (overdueEngine c s)) := by
  show execRampCountExpiry c s = _
  unfold execRampCountExpiry
  rw [h]
  rfl

theorem exec_stopCountExpiry (h : (s.eng c).state = .stopping) :
    exec (.stopCountExpiry c) s = .next (settle (overdueEngine c s)) := by
  show execStopCountExpiry c s = _
  unfold execStopCountExpiry
  rw [h]
  rfl

end

/-- Settles O12. -/
theorem rampsFallToZeroAndEndInOff : Obligations.RampsFallToZeroAndEndInOff := by
  refine ⟨fun start left total ht hl => ⟨rampField_full start ht, rampField_zero start total,
      rampField_natAbs start left total, rampField_natAbs_le start hl, fun h => rampField_nonneg h left total,
      fun h => rampField_nonpos h left total⟩,
    fun c left d s hs ht hl hd => ?within, fun c s u v ht hu hv => ?last⟩
  case within =>
    have running : ¬ (s.eng c).timer = some 0 := by
      rw [ht]
      exact fun h => hl (Option.some.inj h)
    have stepped : timerStep c s = rampStep c s := by
      rcases hs with h | h
      · exact (timerStep_ramping h).trans (if_neg running)
      · exact (timerStep_stopping h).trans (if_neg running)
    rw [stepped, rampStep_some ht, hd]
    rfl
  case last =>
    have off : toOff c (rampStep c s) = u := (toOff_rampStep ht).trans hu.symm
    have resting : (u.eng c).state.running = false := by
      rw [hu, State.eng, moveGroup_state, if_pos rfl]
      rfl
    have queues : u.queues = s.queues := by rw [hu, moveGroup_queues]
    have departed : v = reportDeparture u := hv.trans reportDeparture_eq.symm
    refine ⟨fun h => ?_, fun h => ?_⟩
    · have stepped : timerStep c s = u := (timerStep_ramping h).trans ((if_pos ht).trans off)
      refine ⟨stepped, fun hs he => ?_⟩
      rw [exec_rampCountExpiry h, overdueEngine_expired hs ht, stepped, queueStep_empty resting (by
        rw [State.queue, queues]; exact he)]
    · have stepped : timerStep c s = v := by
        rw [timerStep_stopping h, if_pos ht, off, departed]
      refine ⟨stepped, fun hs he => ?_⟩
      have empty : (vget v.queues c).entries = [] := by
        rw [departed]
        refine (keptMoves_emptyQueue c).kept.reportDeparture ?_
        rw [queues]
        exact he
      rw [exec_stopCountExpiry h, overdueEngine_expired hs ht, stepped, queueStep_empty (by
        rw [departed]; exact reportDeparture_restsIn.running resting) empty]

end Sys2Proof.Machine


namespace Sys2Proof.Machine

/-! ### The brake conditions and the brake timer (01, R9, R11) -/

section

variable {c : Chan} {s : State}

theorem brakeCondition_iff {want : Feedback} : s.brakeCondition c want = true ↔
    ∀ d ∈ s.group c, s.feedback d = want ∨ (s.feedback d = .unbound ∧ (s.eng c).timer = some 0) := by
  simp only [State.brakeCondition, List.all_eq_true, Bool.or_eq_true, Bool.and_eq_true, decide_eq_true_eq]

/-- With the timer expired every brake but a wrong one satisfies the condition. -/
theorem brakeCondition_expired {want wrong : Feedback} (ht : (s.eng c).timer = some 0)
    (hw : ∀ x : Feedback, x ≠ wrong ↔ x = want ∨ x = .unbound) :
    s.brakeCondition c want = true ↔ ∀ d ∈ s.group c, s.feedback d ≠ wrong := by
  rw [brakeCondition_iff]
  exact forall₂_congr fun d _ => by rw [hw, and_iff_left ht]

/-- Before the timer expires every brake must be bound and as wanted. -/
theorem brakeCondition_running {want : Feedback} (ht : (s.eng c).timer ≠ some 0) :
    s.brakeCondition c want = true ↔ ∀ d ∈ s.group c, s.feedback d = want := by
  rw [brakeCondition_iff]
  exact forall₂_congr fun d _ => or_iff_left fun h => ht h.2

theorem not_engaged (x : Feedback) : x ≠ .engaged ↔ x = .released ∨ x = .unbound := by cases x <;> decide

theorem not_released (x : Feedback) : x ≠ .released ↔ x = .engaged ∨ x = .unbound := by cases x <;> decide

theorem timerStep_releasing (h : (s.eng c).state = .releasing) : timerStep c s =
    if s.brakeCondition c .released then takeReactions (moveGroup c .run none s)
    else if (s.eng c).timer = some 0 then takeReactions (toHolding c (reportBrakes .engaged (s.group c) s)) else s := by
  unfold timerStep
  dsimp only
  rw [h]

theorem timerStep_holding (h : (s.eng c).state = .holding) : timerStep c s =
    if (s.eng c).holdFault then s
    else if s.brakeCondition c .engaged then toRamping c s
    else if (s.eng c).timer = some 0 then reportBrakes .released (s.group c)
      { s with engines := vset s.engines c { s.eng c with timer := none, holdFault := true } }
    else s := by
  unfold timerStep
  dsimp only
  rw [h]

theorem exec_brakeTimerExpiry (hs : s.served c = true) (ht : (s.eng c).timer = some 0)
    (h : (s.eng c).state = .releasing ∨ (s.eng c).state = .holding) :
    exec (.brakeTimerExpiry c) s = .next (settle (queueStep c (timerStep c s))) := by
  rw [← overdueEngine_expired hs ht]
  show execBrakeTimerExpiry c s = _
  unfold execBrakeTimerExpiry
  rcases h with h | h <;> rw [h] <;> rfl

end

/-- No shared operation writes the guarded values or the constants. -/
theorem keptMoves_guarded (k : Constants) (c : Chan) (g : Guarded) :
    KeptMoves fun s => s.consts = k ∧ (vget s.envs c).guarded = g where
  free _ _ _ _ _ h := h
  ports _ _ h := h
  line _ _ _ _ h := h
  queues _ _ h := h
  engines _ _ h := h
  envs v hv h := ⟨h.1, (hv c).1.trans h.2⟩
  auth _ h := h
  link _ _ h := h
  react _ _ _ h := h
  budget _ h := by rwa [setBudget_consts, setBudget_envs]
  request _ _ _ h := by rwa [setRequest_consts, setRequest_envs]
  move _ _ _ _ h := by rwa [moveGroup_consts, moveGroup_envs]
  enterLink _ h := by rwa [enterLink_consts, enterLink_envs]

/-- The brake time of a channel after brake faults were reported. -/
theorem reportBrakes_brakeTime (wrong : Feedback) (l : List Chan) (c : Chan) (s : State) :
    (reportBrakes wrong l s).periods ((reportBrakes wrong l s).env c).guarded.brakeMs =
      s.periods (s.env c).guarded.brakeMs := by
  obtain ⟨consts, guarded⟩ :=
    (keptMoves_guarded s.consts c (s.env c).guarded).kept.reportBrakes wrong l trivial ⟨rfl, rfl⟩
  unfold State.periods
  rw [consts, State.env, guarded]

/-- A channel in HOLDING stays there through a taking, and its queue is not examined. -/
theorem queueStep_holding {c : Chan} {s t : State} (h : (s.eng c).state = .holding) (hr : s.restsIn t) :
    queueStep c t = t := by
  refine queueStep_idle (.inl ?_)
  rcases hr c with hc | ⟨-, hc⟩
  · exact hc.trans h
  · exact hc

/-- Settles O13. -/
theorem brakeTimerExpiryEndsReleasingAndHolding : Obligations.BrakeTimerExpiryEndsReleasingAndHolding := by
  refine ⟨fun c s hs h ht => ⟨fun hb => ?run, fun hb => ⟨_, rfl, ?fault⟩⟩,
    fun c s hs h ht hf => ⟨fun hb => ?ramp, fun hb => ?stay⟩,
    fun c s => ⟨fun hs ht => exec_brakeTimerExpiry hs ht, fun h => ⟨fun hb => ?released, fun ht hb => ?waiting⟩,
      fun h => ⟨fun hf => (timerStep_holding h).trans (if_pos hf), fun hf => ⟨fun hb => ?engaged, fun ht hb => ?held⟩⟩⟩⟩
  case run =>
    rw [exec_brakeTimerExpiry hs ht (.inl h), timerStep_releasing h, if_pos ((brakeCondition_expired ht not_engaged).mpr hb)]
  case fault =>
    have wrong : ¬ s.brakeCondition c .released = true := by
      rw [brakeCondition_expired ht not_engaged]
      obtain ⟨d, hd, he⟩ := hb
      exact fun hall => hall d hd he
    have holding (u : State) : ((toHolding c u).eng c).state = .holding := by
      rw [toHolding, State.eng, moveGroup_state, if_pos rfl]
    rw [exec_brakeTimerExpiry hs ht (.inl h), timerStep_releasing h, if_neg wrong, if_pos ht,
      queueStep_holding (holding _) (takeReactions_restsIn _), toHolding, reportBrakes_brakeTime]
    rfl
  case ramp =>
    have ramping : ((toRamping c s).eng c).state = .ramping := by
      rw [toRamping, State.eng, moveGroup_state, if_pos rfl]
    rw [exec_brakeTimerExpiry hs ht (.inr h), timerStep_holding h, if_neg (ne_true_of_eq_false hf),
      if_pos ((brakeCondition_expired ht not_released).mpr hb), queueStep_idle (.inr (.inl ramping))]
    rfl
  case stay =>
    have wrong : ¬ s.brakeCondition c .engaged = true := by
      rw [brakeCondition_expired ht not_released]
      obtain ⟨d, hd, he⟩ := hb
      exact fun hall => hall d hd he
    have holding : (State.eng { s with engines := vset s.engines c { s.eng c with timer := none, holdFault := true } } c).state =
        .holding := by
      rw [State.eng, vget_vset_self]
      exact h
    rw [exec_brakeTimerExpiry hs ht (.inr h), timerStep_holding h, if_neg (ne_true_of_eq_false hf),
      if_neg wrong, if_pos ht, queueStep_holding holding (reportBrakes_restsIn _ _ _)]
  case released =>
    rw [timerStep_releasing h, if_pos (brakeCondition_iff.mpr fun d hd => .inl (hb d hd))]
  case waiting =>
    have wrong : ¬ s.brakeCondition c .released = true := by
      rw [brakeCondition_running ht]
      obtain ⟨d, hd, he⟩ := hb
      exact fun hall => he (hall d hd)
    rw [timerStep_releasing h, if_neg wrong, if_neg ht]
  case engaged =>
    rw [timerStep_holding h, if_neg (ne_true_of_eq_false hf),
      if_pos (brakeCondition_iff.mpr fun d hd => .inl (hb d hd))]
    rfl
  case held =>
    have wrong : ¬ s.brakeCondition c .engaged = true := by
      rw [brakeCondition_running ht]
      obtain ⟨d, hd, he⟩ := hb
      exact fun hall => he (hall d hd)
    rw [timerStep_holding h, if_neg (ne_true_of_eq_false hf), if_neg wrong, if_neg ht]

end Sys2Proof.Machine


namespace Sys2Proof.Machine

/-! ### Frames and link signals (09, R166 to R168, R171) -/

section

variable {p : Port} {s : State}

theorem silenceStart_eq (s : State) (p : Port) : s.silenceStart p =
    if s.phase = .config ∨ vget s.consts.silenceLimitMs p = 0 then none
    else some (s.periods (vget s.consts.silenceLimitMs p)) :=
  ite_of_iff (or_congr_left inConfig_eq_true)

theorem receiveFrame_down {bs : List Byte} (h : (s.port p).link = .down) : receiveFrame p bs s = s := if_pos h

theorem receiveFrame_damaged {bs : List Byte} (h : (s.port p).link ≠ .down) (hf : parseFrame bs = none) :
    receiveFrame p bs s =
      { s with ports := vset s.ports p { s.port p with damaged := min 65535 ((s.port p).damaged + 1) } } := by
  unfold receiveFrame
  dsimp only
  rw [if_neg h, hf]

theorem receiveFrame_valid {bs : List Byte} {f : Frame} (h : (s.port p).link ≠ .down) (hf : parseFrame bs = some f) :
    receiveFrame p bs s = { s with ports := vset s.ports p ((s.port p).receive (s.silenceStart p) f) } := by
  unfold receiveFrame
  dsimp only
  rw [if_neg h, hf]

theorem PortBlock.receive_joins {b : PortBlock} (n : Option Nat) (f : Frame) (h : b.inbound.length < 4) :
    b.receive n f = { b with link := .up, silence := n, inbound := b.inbound ++ [f] } := if_pos h

theorem PortBlock.receive_overruns {b : PortBlock} (n : Option Nat) (f : Frame) (h : 4 ≤ b.inbound.length) :
    b.receive n f = { b with link := .up, silence := n, overrun := true } := if_neg (Nat.not_lt_of_le h)

theorem gainSignal_down (h : (s.port p).link = .down) : gainSignal p s = { s with
    signals := vset s.signals p true
    ports := vset s.ports p { s.port p with link := .up, silence := s.silenceStart p } } := if_pos h

/-- The part of a lost signal that the port and the commanded reset see. -/
theorem resetIfLost_eq (p : Port) (s : State) : resetIfLost p s =
    { s with resetting := if p = s.safetyPort ∧ s.resetting = .answerWaiting then .due else s.resetting } := by
  unfold resetIfLost
  split <;> rfl

theorem reportSilent_eq (p : Port) (s : State) : reportSilent p s =
    if s.phase = .operating ∧ vget s.consts.silenceLimitMs p ≠ 0 then reportOrdinary .portSilent (.port p) none s
    else s := by
  unfold reportSilent
  split
  · next h => exact (if_neg fun hc => h.elim (fun hx => inConfig_operating hc.1 hx) hc.2).symm
  · next h =>
    obtain ⟨hx, hn⟩ := not_or.mp h
    exact (if_pos ⟨inConfig_eq_false.mp (Bool.eq_false_iff.mpr hx), hn⟩).symm

theorem loseSignal_up {midFrame : Bool} (h : (s.port p).link ≠ .down) : loseSignal p midFrame s =
    if (s.port p).link = .up then reportSilent p (resetIfLost p { s with
      signals := vset s.signals p false
      ports := vset s.ports p { s.port p with
        link := .down, silence := none
        damaged := if midFrame then min 65535 ((s.port p).damaged + 1) else (s.port p).damaged } })
    else resetIfLost p { s with
      signals := vset s.signals p false
      ports := vset s.ports p { s.port p with
        link := .down, silence := none
        damaged := if midFrame then min 65535 ((s.port p).damaged + 1) else (s.port p).damaged } } := if_neg h

theorem completeSend_sent {f : TxFrame} (hf : (s.port p).sending = some f) (h : (s.port p).link ≠ .down) :
    completeSend p s = { s with
      wire := .frame p f.bytes :: s.wire
      resetting := if f.isReset then .due else s.resetting
      ports := vset s.ports p { s.port p with sending := none } } := by
  unfold completeSend
  dsimp only
  rw [hf]
  exact if_neg h

end

/-- Settles O22. -/
theorem framesAndSignalsMoveThePort : Obligations.FramesAndSignalsMoveThePort := by
  refine ⟨fun p bs s => ⟨fun h => congrArg done (receiveFrame_down h),
      fun h hf => congrArg done (receiveFrame_damaged h hf), fun f timer h hf ht => ?valid⟩,
    fun p s => ⟨fun h => ?gained, fun midFrame u h hu => ?lost⟩,
    fun p f s hf h => congrArg done (completeSend_sent hf h)⟩
  case valid =>
    rw [← silenceStart_eq] at ht
    subst ht
    have received := receiveFrame_valid h hf
    exact ⟨fun hn => congrArg done (by rw [received, PortBlock.receive_joins _ _ hn]),
      fun hn => congrArg done (by rw [received, PortBlock.receive_overruns _ _ hn])⟩
  case gained =>
    rw [← silenceStart_eq]
    exact congrArg done (gainSignal_down h)
  case lost =>
    have lost : loseSignal p midFrame s = if (s.port p).link = .up then reportSilent p u else u := by
      rw [loseSignal_up h, resetIfLost_eq, hu]
    have phase : u.phase = s.phase := by rw [hu]
    have consts : u.consts = s.consts := by rw [hu]
    refine congrArg done (lost.trans ?_)
    rw [reportSilent_eq, phase, consts]
    by_cases hup : (s.port p).link = .up
    · rw [if_pos hup]
      exact ite_of_iff ⟨fun hc => ⟨hup, hc⟩, fun hc => hc.2⟩
    · rw [if_neg hup, if_neg fun hc => hup hc.1]

end Sys2Proof.Machine


namespace Sys2Proof.Machine

/-! ### Pins, debounce counts and levels (08, R157 to R160) -/

section

variable {i : Input} {high level : Bool} {s : State}

theorem changePin_same (h : vget s.pins i = high) : changePin i high s = s := if_pos h

theorem changePin_qualifies (h : vget s.pins i ≠ high) :
    changePin i high s = qualify i { s with pins := vset s.pins i high } := if_neg h

theorem activeAtPin_written : State.activeAtPin { s with pins := vset s.pins i high } i =
    (s.inputConfig i).polarity.activeAt high := congrArg _ (vget_vset_self _ _ _)

theorem qualify_agrees (h : s.activeAtPin i = (s.inp i).level) : qualify i s = setDebounce i none s := if_pos h

theorem qualify_atOnce (h : s.activeAtPin i ≠ (s.inp i).level) (hn : s.phase = .config ∨ (s.inputConfig i).debounceMs = 0) :
    qualify i s = changeLevel i (s.activeAtPin i) s := by
  refine (if_neg h).trans (if_pos ?_)
  rw [Bool.or_eq_true, inConfig_eq_true, decide_eq_true_eq]
  exact hn

theorem qualify_counts (h : s.activeAtPin i ≠ (s.inp i).level) (hop : s.phase = .operating)
    (hn : (s.inputConfig i).debounceMs ≠ 0) :
    qualify i s = setDebounce i (some (s.periods (s.inputConfig i).debounceMs)) s := by
  refine (if_neg h).trans (if_neg ?_)
  rw [Bool.or_eq_true, inConfig_eq_true, decide_eq_true_eq, hop]
  exact fun hc => hc.elim nofun hn

/-- A change in CONFIG writes the level and nothing else of the inputs. -/
theorem changeLevel_config (h : s.phase = .config) : (changeLevel i level s).pins = s.pins ∧
    (changeLevel i level s).inputs = vset s.inputs i { s.inp i with level := level, debounce := none } := by
  have changed : (s.inp i).changed level (!s.inConfig) = { s.inp i with level := level, debounce := none } := by
    rw [inConfig_eq_true.mpr h, InputBlock.changed, Bool.not_true, Bool.and_false]
    rfl
  unfold changeLevel
  rw [changed]
  cases level <;> simp [inConfig_eq_true.mpr h]

/-- A change from FREEZE on: the input's own part, the notice, the delivery, and what the receiver does. -/
theorem changeLevel_operating (h : s.phase = .operating) {u v : State}
    (hu : u = { s with inputs := vset s.inputs i (if level then ⟨true, true, min 255 ((s.inp i).count + 1), none⟩
      else { s.inp i with level := false, debounce := none }) })
    (hv : v = if level then broadcast .input u else u) : changeLevel i level s =
      if level then actOnActive (s.inputConfig i).binding (recordLevel (s.inputConfig i).binding i level v)
      else recordLevel (s.inputConfig i).binding i level v := by
  have changed : (s.inp i).changed level (!s.inConfig) =
      if level then ⟨true, true, min 255 ((s.inp i).count + 1), none⟩
      else { s.inp i with level := false, debounce := none } := by
    rw [inConfig_eq_false.mpr h]
    cases level <;> rfl
  unfold changeLevel
  rw [changed, inConfig_eq_false.mpr h, hv, hu]
  cases level <;> rfl

theorem debounceExpiry_expired (h : (s.inp i).debounce = some 0) :
    debounceExpiry i s = changeLevel i (!(s.inp i).level) s := if_pos h

end

/-- What a debounce count holds does not show in the change that ends it. -/
theorem changeLevel_debounce (i : Input) (level : Bool) (n : Option Nat) (s : State) :
    changeLevel i level { s with inputs := vset s.inputs i { s.inp i with debounce := n } } = changeLevel i level s := by
  have counted : State.inp { s with inputs := vset s.inputs i { s.inp i with debounce := n } } i =
      { s.inp i with debounce := n } := vget_vset_self _ _ _
  have changed (x : Bool) : InputBlock.changed { s.inp i with debounce := n } level x = (s.inp i).changed level x := by
    unfold InputBlock.changed
    split <;> rfl
  unfold changeLevel
  rw [counted, changed, vset_vset]
  rfl

section

variable {i : Input} {high level : Bool} {s v : State}

/-- A pin event in CONFIG. -/
theorem changePin_config (h : s.phase = .config) (hp : vget s.pins i ≠ high) :
    (changePin i high s).pins = vset s.pins i high ∧ (changePin i high s).inputs = vset s.inputs i
      { s.inp i with level := (s.inputConfig i).polarity.activeAt high, debounce := none } := by
  rw [changePin_qualifies hp]
  by_cases hl : (s.inputConfig i).polarity.activeAt high = (s.inp i).level
  · rw [qualify_agrees (activeAtPin_written.trans hl), hl]
    exact ⟨rfl, rfl⟩
  · rw [qualify_atOnce (fun he => hl (activeAtPin_written.symm.trans he)) (.inl h), activeAtPin_written]
    exact changeLevel_config h

theorem actOnActive_safeStop (h : s.phase = .operating) : actOnActive .safeStop s = (detectSafeStop s).1 :=
  if_neg (inConfig_operating h)

end

/-- Settles O23: the pin is judged, the count runs, the level changes, and the receiver acts. -/
theorem pinsAreDebouncedAndDelivered : Obligations.PinsAreDebouncedAndDelivered := by
  refine ⟨⟨fun i high s hc hp => ⟨_, rfl, ?pins, ?inputs⟩, fun i high s hop => ⟨fun hp => ?same, fun hp hl => ?returns,
    fun hp hl hn => ?counts, fun hp hl hn => ?atOnce⟩⟩, fun i level s u v hop hd hl hu hv => ?expiry⟩
  case pins => exact (changePin_config hc hp).1
  case inputs => exact (changePin_config hc hp).2
  case same => exact congrArg done (changePin_same hp)
  case returns =>
    exact congrArg done ((changePin_qualifies hp).trans (qualify_agrees (activeAtPin_written.trans hl)))
  case counts =>
    exact congrArg done ((changePin_qualifies hp).trans
      (qualify_counts (fun he => hl (activeAtPin_written.symm.trans he)) hop hn))
  case atOnce =>
    have turned : (s.inputConfig i).polarity.activeAt high = !(s.inp i).level := Bool.eq_not_of_ne hl
    have counted : State.inp { s with pins := vset s.pins i high, inputs := vset s.inputs i { s.inp i with
        debounce := some 0 } } i = { s.inp i with debounce := some 0 } := vget_vset_self _ _ _
    have now : changePin i high s = changeLevel i (!(s.inp i).level) { s with pins := vset s.pins i high } := by
      rw [changePin_qualifies hp, qualify_atOnce (fun he => hl (activeAtPin_written.symm.trans he)) (.inr hn),
        activeAtPin_written, turned]
    have expired : debounceExpiry i { s with pins := vset s.pins i high, inputs := vset s.inputs i { s.inp i with
        debounce := some 0 } } = changeLevel i (!(s.inp i).level) { s with pins := vset s.pins i high } := by
      rw [debounceExpiry_expired (by rw [counted]), counted]
      exact changeLevel_debounce i _ (some 0) { s with pins := vset s.pins i high }
    exact congrArg done (now.trans expired.symm)
  case expiry =>
    have changed : exec (.debounceCountExpiry i) s = .next (settle (if level then
        actOnActive (s.inputConfig i).binding (recordLevel (s.inputConfig i).binding i level v)
        else recordLevel (s.inputConfig i).binding i level v)) := by
      refine congrArg done ((debounceExpiry_expired hd).trans ?_)
      rw [← hl]
      exact changeLevel_operating hop hu hv
    have written : v.engines = s.engines ∧ v.link = s.link ∧ v.react = s.react ∧ v.phase = s.phase := by
      rw [hv, hu]
      cases level <;> exact ⟨rfl, rfl, rfl, rfl⟩
    obtain ⟨engines, link, react, phase⟩ := written
    refine ⟨fun hb => ?_, fun c hb => ?_, fun hb => ⟨_, rfl, ?_⟩, fun hb => ⟨_, rfl, ?_⟩⟩
    all_goals rw [changed, hb]
    · cases level <;> rfl
    · rw [recordLevel, State.eng, engines]
      cases level <;> rfl
    · have stops : actOnActive .safeStop (recordLevel .safeStop i level v) =
          (detectSafeStop (recordLevel .safeStop i level v)).1 :=
        actOnActive_safeStop (by rw [recordLevel_phase, phase, hop])
      rw [stops, recordLevel, react]
    · rw [recordLevel, link]
      rfl

end Sys2Proof.Machine


namespace Sys2Proof.Machine

/-! ### Supply records (05, R92, R94) -/

section

variable {bs : List Byte} {d : SupplyData} {s : State}

theorem isRepeat_iff : isRepeat d s = true ↔ ∃ b, s.link.supply = some b ∧ b.stamp = d.stamp := by
  unfold isRepeat
  cases s.link.supply <;> simp

theorem receiveSupply_ignored (h : ∀ d, parseSupply bs = some d → ∃ b, s.link.supply = some b ∧ b.stamp = d.stamp) :
    receiveSupply bs s = s := by
  unfold receiveSupply
  split
  · rfl
  · next d hd => exact if_pos (isRepeat_iff.mpr (h d hd))

theorem receiveSupply_taken (hp : parseSupply bs = some d) (hn : ∀ b, s.link.supply = some b → b.stamp ≠ d.stamp) :
    receiveSupply bs s = takeSupply d s := by
  unfold receiveSupply
  rw [hp]
  exact if_neg fun h => (isRepeat_iff.mp h).elim fun b hb => hn b hb.1 hb.2

theorem keepSupply_operating (hop : s.phase = .operating) : keepSupply d s =
    { s with link := { s.link with supply := some d, supplyTaken := true, supplyMiss := 0 } } := by
  unfold keepSupply
  rw [inConfig_eq_false.mpr hop]
  rfl

theorem keepSupply_config (hc : s.phase = .config) : keepSupply d s =
    { s with link := { s.link with supply := some d, supplyTaken := true } } := by
  unfold keepSupply
  rw [inConfig_eq_true.mpr hc]
  rfl

theorem takeSupply_config (hc : s.phase = .config) : takeSupply d s = levelTest d.voltage (keepSupply d s) :=
  if_pos (inConfig_eq_true.mpr hc)

theorem takeSupply_fault {k : FaultKind} (hop : s.phase = .operating)
    (hf : levelFault s.consts s.link.state d.voltage = some k) : takeSupply d s = linkFault k (keepSupply d s) := by
  unfold takeSupply
  dsimp only
  rw [if_neg (inConfig_operating hop)]
  have kept : levelFault (keepSupply d s).consts (keepSupply d s).link.state d.voltage = some k := hf
  rw [kept]

theorem takeSupply_passed (hop : s.phase = .operating) (hf : levelFault s.consts s.link.state d.voltage = none) :
    takeSupply d s = supplyStep4 s.link.supply d (levelTest d.voltage (keepSupply d s)) := by
  unfold takeSupply
  dsimp only
  rw [if_neg (inConfig_operating hop)]
  have kept : levelFault (keepSupply d s).consts (keepSupply d s).link.state d.voltage = none := hf
  rw [kept]

/-- Step 4 of R92: the budget in READY, and the notice of a change of mains present. -/
theorem supplyStep4_eq {before : Option SupplyData} {u : State}
    (hu : u = if s.link.state = .ready then setBudget (min s.consts.linkRating d.available) s else s) :
    supplyStep4 before d s = if before.any (fun b => decide (b.mains ≠ d.mains)) then broadcast .linkState u else u := by
  unfold supplyStep4
  rw [← hu]
  cases before with
  | none => rfl
  | some b => simp

/-- A record that is taken in OPERATING and finds no link fault. -/
theorem receiveSupply_passed {u v w : State} (hop : s.phase = .operating) (hp : parseSupply bs = some d)
    (hn : ∀ b, s.link.supply = some b → b.stamp ≠ d.stamp)
    (hu : u = { s with link := { s.link with supply := some d, supplyTaken := true, supplyMiss := 0 } })
    (hf : levelFault s.consts s.link.state d.voltage = none) (hv : levelTest d.voltage u = v)
    (hw : w = if v.link.state = .ready then setBudget (min v.consts.linkRating d.available) v else v) :
    receiveSupply bs s =
      if s.link.supply.any (fun b => decide (b.mains ≠ d.mains)) then broadcast .linkState w else w := by
  rw [receiveSupply_taken hp hn, takeSupply_passed hop hf, keepSupply_operating hop, ← hu, hv]
  exact supplyStep4_eq hw

/-! #### The level checks -/

theorem levelFault_low {k : Constants} {x : LinkState} {v : Nat} (hx : x = .ready ∨ x = .parked ∨ x = .waking)
    (hv : v < k.failLevel) : levelFault k x v = some .linkLow := by
  unfold levelFault
  rcases hx with rfl | rfl | rfl <;> exact if_pos hv

theorem levelFault_high {k : Constants} {x : LinkState} {v : Nat}
    (hx : x = .ready ∨ x = .parked ∨ x = .waking ∨ x = .charging ∨ x = .settling) (hk : k.failLevel < k.highLevel)
    (hv : k.highLevel < v) : levelFault k x v = some .linkHigh := by
  have above : ¬ v < k.failLevel := by omega
  unfold levelFault
  rcases hx with rfl | rfl | rfl | rfl | rfl
  · exact (if_neg above).trans (if_pos hv)
  · exact (if_neg above).trans (if_pos hv)
  · exact (if_neg above).trans (if_pos hv)
  · exact if_pos hv
  · exact if_pos hv

theorem levelFault_between {k : Constants} {x : LinkState} {v : Nat} (hx : x = .ready ∨ x = .parked ∨ x = .waking)
    (hl : k.failLevel ≤ v) (hh : v ≤ k.highLevel) : levelFault k x v = none := by
  unfold levelFault
  rcases hx with rfl | rfl | rfl <;> exact (if_neg (Nat.not_lt_of_le hl)).trans (if_neg (Nat.not_lt_of_le hh))

theorem levelFault_below {k : Constants} {x : LinkState} {v : Nat} (hx : x = .charging ∨ x = .settling)
    (hh : v ≤ k.highLevel) : levelFault k x v = none := by
  unfold levelFault
  rcases hx with rfl | rfl <;> exact if_neg (Nat.not_lt_of_le hh)

/-! #### The level test -/

theorem levelTest_charging {v : Nat} (hl : s.link.state = .charging) :
    levelTest v s = if s.consts.readyLevel ≤ v then changeLink .settling s else s := by
  unfold levelTest
  rw [hl]

theorem levelTest_settling {v : Nat} (hl : s.link.state = .settling) :
    levelTest v s = if v < s.consts.readyLevel then changeLink .charging s else s := by
  unfold levelTest
  rw [hl]

theorem levelTest_draining {v : Nat} (hl : s.link.state = .draining) :
    levelTest v s = if v < s.consts.safeLevel then changeLink .discharged s else s := by
  unfold levelTest
  rw [hl]

theorem levelTest_stays {v : Nat} (hl : s.link.state = .discharged ∨ s.link.state = .ready ∨ s.link.state = .parked ∨
    s.link.state = .waking) : levelTest v s = s := by
  unfold levelTest
  rcases hl with hl | hl | hl | hl <;> rw [hl]

/-- A record that is taken in READY between the levels makes the budget. -/
theorem receiveSupply_ready {u : State} (hop : s.phase = .operating) (hp : parseSupply bs = some d)
    (hn : ∀ b, s.link.supply = some b → b.stamp ≠ d.stamp)
    (hu : u = { s with link := { s.link with supply := some d, supplyTaken := true, supplyMiss := 0 } })
    (hl : s.link.state = .ready) (hlow : s.consts.failLevel ≤ d.voltage) (hhigh : d.voltage ≤ s.consts.highLevel) :
    receiveSupply bs s = if s.link.supply.any (fun b => decide (b.mains ≠ d.mains)) then
        broadcast .linkState (setBudget (min s.consts.linkRating d.available) u)
      else setBudget (min s.consts.linkRating d.available) u := by
  have state : u.link.state = .ready := by rw [hu]; exact hl
  have consts : u.consts = s.consts := by rw [hu]
  refine receiveSupply_passed hop hp hn hu (levelFault_between (.inl hl) hlow hhigh)
    (levelTest_stays (.inr (.inl state))) ?_
  rw [if_pos state, consts]

/-- A record that is taken in CONFIG, where the link drains. -/
theorem receiveSupply_config {u : State} (hc : s.phase = .config) (hp : parseSupply bs = some d)
    (hn : ∀ b, s.link.supply = some b → b.stamp ≠ d.stamp)
    (hu : u = { s with link := { s.link with supply := some d, supplyTaken := true } })
    (hl : s.link.state = .draining) :
    receiveSupply bs s = if d.voltage < s.consts.safeLevel then changeLink .discharged u else u := by
  have state : u.link.state = .draining := by rw [hu]; exact hl
  have consts : u.consts = s.consts := by rw [hu]
  rw [receiveSupply_taken hp hn, takeSupply_config hc, keepSupply_config hc, ← hu, levelTest_draining state, consts]

/-! #### DISCHARGED, and the supply check (05, R93, R95; 07, R139) -/

theorem reportDischarged_completes {i : InService} (hi : s.react.inService = some i) (hl : i.kind.isLink = true) :
    reportDischarged s = takeReactions (endLinkReaction i.kind s) := by
  unfold reportDischarged
  rw [hi]
  exact if_pos hl

/-- A link reaction in service ends at DISCHARGED, and with nothing pending nothing follows it. -/
theorem reportDischarged_react {i : InService} (hi : s.react.inService = some i) (hl : i.kind.isLink = true)
    (hp : s.react.pendingSet = []) : (reportDischarged s).react =
      { s.react with inService := none, lastEnded := some ⟨i.kind, .link, .completed, s.period⟩ } := by
  rw [reportDischarged_completes hi hl, takeReactions_quiet (s := endLinkReaction i.kind s) (.inr hp)]
  rfl

theorem handLinkState_discharged (hop : s.phase = .operating) (hl : s.link.state = .discharged) : ∃ b,
    handLinkState s = setBudget b (reportDischarged (broadcast .linkState s)) := by
  have told : (broadcast .linkState s).link.state = .discharged := hl
  unfold handLinkState
  rw [if_neg (inConfig_operating hop)]
  dsimp only
  rw [if_pos told]
  exact ⟨_, rfl⟩

theorem changeLink_discharged_react {i : InService} (hop : s.phase = .operating) (hi : s.react.inService = some i)
    (hl : i.kind.isLink = true) (hp : s.react.pendingSet = []) : (changeLink .discharged s).react =
      { s.react with inService := none, lastEnded := some ⟨i.kind, .link, .completed, s.period⟩ } := by
  have phase : (enterLink .discharged s).phase = .operating := by rw [enterLink_phase, hop]
  have react : (enterLink .discharged s).react = s.react := enterLink_react _ _
  have period : (enterLink .discharged s).period = s.period := enterLink_period _ _
  obtain ⟨b, handed⟩ := handLinkState_discharged phase (enterLink_linkState _ _)
  have ended := reportDischarged_react (s := broadcast .linkState (enterLink .discharged s)) (i := i)
    (by rw [broadcast_react, react, hi]) hl (by rw [broadcast_react, react, hp])
  rw [changeLink, handed, setBudget_react, ended, broadcast_react, broadcast_period, react, period]

theorem supplyCheck_counted {first : Bool} (h : first = true ∨ s.link.supplyTaken = true ∨ 4 ≤ s.link.supplyMiss) :
    supplyCheck first s = { s with link := { s.link with supplyTaken := false } } := by
  unfold supplyCheck
  dsimp only
  split
  · rfl
  · next hn =>
    rw [Bool.or_eq_true, not_or] at hn
    exact if_neg (Nat.not_lt_of_le ((h.resolve_left hn.1).resolve_left hn.2))

/-- A period without a record. -/
theorem supplyCheck_missed (ht : s.link.supplyTaken = false) (hm : s.link.supplyMiss < 4) : supplyCheck false s =
    if s.link.supplyMiss + 1 = 4 then linkFault .supplyLost
      { s with link := { s.link with supplyTaken := false, supplyMiss := s.link.supplyMiss + 1 } }
    else { s with link := { s.link with supplyTaken := false, supplyMiss := s.link.supplyMiss + 1 } } := by
  unfold supplyCheck
  rw [ht]
  exact if_pos hm

end

/-- Settles O21. -/
theorem supplyRecordsAreTakenOrFault : Obligations.SupplyRecordsAreTakenOrFault := by
  refine ⟨fun bs s => ⟨fun h => congrArg done (receiveSupply_ignored h), fun d hd hn => ?_⟩,
    fun bs d s u hd hop hn hk hu => ?_, fun i s t hop hi hl hp ht => ?_, fun first s u hu => ⟨rfl, rfl, fun h => ?_, ?_⟩⟩
  · refine ⟨fun hop hl hlow hhigh => ⟨_, rfl, congrArg done (receiveSupply_ready hop hd hn rfl hl hlow hhigh)⟩,
      fun hc hl hv => congrArg done ((receiveSupply_config hc hd hn rfl hl).trans (if_neg (Nat.not_lt_of_le hv))),
      fun hc hl hv => ⟨_, rfl, ?_⟩⟩
    rw [settle_link, (receiveSupply_config hc hd hn rfl hl).trans (if_pos hv), changeLink_link]
    exact ⟨rfl, rfl⟩
  · have taken := receiveSupply_taken hd hn
    have kept : keepSupply d s = u := (keepSupply_operating hop).trans hu.symm
    have state : u.link.state = s.link.state := by rw [hu]
    have consts : u.consts = s.consts := by rw [hu]
    refine ⟨fun hl hv => congrArg done ?_, fun hl hv => congrArg done ?_, fun answers hans => ?_⟩
    · exact taken.trans ((takeSupply_fault hop (levelFault_low hl hv)).trans (by rw [kept]))
    · exact taken.trans ((takeSupply_fault hop (levelFault_high hl hk hv)).trans (by rw [kept]))
    have passed {v : State} (hf : levelFault s.consts s.link.state d.voltage = none)
        (hv : levelTest d.voltage u = v) (hr : v.link.state ≠ .ready) : answers v :=
      (hans v).mpr (congrArg done (receiveSupply_passed hop hd hn hu hf hv (if_neg hr).symm))
    have moved {x : LinkState} (hx : x ≠ .ready) : (changeLink x u).link.state ≠ .ready := by
      rw [changeLink_state]
      exact hx
    have stays {x : LinkState} (hl : s.link.state = x) (hx : x ≠ .ready) : u.link.state ≠ .ready := by
      rw [state, hl]
      exact hx
    refine ⟨fun hl hh => ?_, fun hl hh => ?_, fun hl => ?_, fun hl => ?_, fun hl hlow hh => ?_⟩
    · have fault := levelFault_below (k := s.consts) (.inl hl) hh
      have test := levelTest_charging (v := d.voltage) (state.trans hl)
      rw [consts] at test
      exact ⟨fun hv => passed fault (test.trans (if_pos hv)) (moved nofun),
        fun hv => passed fault (test.trans (if_neg (Nat.not_le_of_lt hv))) (stays hl nofun)⟩
    · have fault := levelFault_below (k := s.consts) (.inr hl) hh
      have test := levelTest_settling (v := d.voltage) (state.trans hl)
      rw [consts] at test
      exact ⟨fun hv => passed fault (test.trans (if_pos hv)) (moved nofun),
        fun hv => passed fault (test.trans (if_neg (Nat.not_lt_of_le hv))) (stays hl nofun)⟩
    · have fault : levelFault s.consts s.link.state d.voltage = none := by rw [hl]; rfl
      have test := levelTest_draining (v := d.voltage) (state.trans hl)
      rw [consts] at test
      exact ⟨fun hv => passed fault (test.trans (if_pos hv)) (moved nofun),
        fun hv => passed fault (test.trans (if_neg (Nat.not_lt_of_le hv))) (stays hl nofun)⟩
    · have fault : levelFault s.consts s.link.state d.voltage = none := by rw [hl]; rfl
      exact passed fault (levelTest_stays (.inl (state.trans hl))) (stays hl nofun)
    · have fault := levelFault_between (k := s.consts) (.inr hl) hlow hh
      exact passed fault (levelTest_stays (.inr (.inr (by rwa [state]))))
        (hl.elim (fun hl => stays hl nofun) fun hl => stays hl nofun)
  · rw [ht]
    exact ⟨changeLink_discharged_react hop hi hl hp, changeLink_state _ _⟩
  · rw [hu]
    exact supplyCheck_counted h
  · rintro rfl ht
    refine ⟨fun hm => ?_, fun hm => ?_⟩
    · rw [supplyCheck_missed ht (by omega), if_neg (by omega), hu]
    · rw [supplyCheck_missed ht (by omega), if_pos (by omega), hu, hm]

end Sys2Proof.Machine


namespace Sys2Proof.Machine

/-! ### What a write leaves of each constant (11, R183) -/

section

variable (k : Constants) (x : ConstName) (i : Nat) (v : List Byte)

theorem write_periodCode : (k.write x i v).periodCode = if x = .periodCode then ofBytes v else k.periodCode := by
  cases x <;> rfl
theorem write_rank : (k.write x i v).rank = if x = .rank then vset k.rank (Fin.ofNat 4 i) (ofBytes v) else k.rank := by
  cases x <;> rfl
theorem write_wakePermit : (k.write x i v).wakePermit =
    if x = .wakePermit then vset k.wakePermit (Fin.ofNat 4 i) (decide (ofBytes v ≠ 0)) else k.wakePermit := by
  cases x <;> rfl
theorem write_silenceLimitMs : (k.write x i v).silenceLimitMs =
    if x = .silenceLimit then vset k.silenceLimitMs (Fin.ofNat 4 i) (ofBytes v) else k.silenceLimitMs := by
  cases x <;> rfl
theorem write_present : (k.write x i v).present =
    if x = .present then vset k.present (Fin.ofNat 8 i) (decide (ofBytes v ≠ 0)) else k.present := by
  cases x <;> rfl
theorem write_ceiling : (k.write x i v).ceiling =
    if x = .ceiling then vset k.ceiling (Fin.ofNat 8 i) (ofBytes v) else k.ceiling := by
  cases x <;> rfl
theorem write_reserve : (k.write x i v).reserve =
    if x = .reserve then vset k.reserve (Fin.ofNat 8 i) (ofBytes v) else k.reserve := by
  cases x <;> rfl
theorem write_order : (k.write x i v).order =
    if x = .order then v.tail.map (fun b => Fin.ofNat 8 b.toNat) else k.order := by
  cases x <;> rfl
theorem write_tandem : (k.write x i v).tandem =
    if x = .tandem then vset k.tandem (Fin.ofNat 3 (i / 2)) (decide (ofBytes v ≠ 0)) else k.tandem := by
  cases x <;> rfl
theorem write_linkRating : (k.write x i v).linkRating = if x = .linkRating then ofBytes v else k.linkRating := by
  cases x <;> rfl
theorem write_safeLevel : (k.write x i v).safeLevel = if x = .safeLevel then ofBytes v else k.safeLevel := by
  cases x <;> rfl
theorem write_failLevel : (k.write x i v).failLevel = if x = .failLevel then ofBytes v else k.failLevel := by
  cases x <;> rfl
theorem write_readyLevel : (k.write x i v).readyLevel = if x = .readyLevel then ofBytes v else k.readyLevel := by
  cases x <;> rfl
theorem write_highLevel : (k.write x i v).highLevel = if x = .highLevel then ofBytes v else k.highLevel := by
  cases x <;> rfl
theorem write_settleCode : (k.write x i v).settleCode = if x = .settleCode then ofBytes v else k.settleCode := by
  cases x <;> rfl
theorem write_chargeLimitMs : (k.write x i v).chargeLimitMs =
    if x = .chargeLimit then ofBytes v else k.chargeLimitMs := by
  cases x <;> rfl
theorem write_handoverMs : (k.write x i v).handoverMs = if x = .handoverLimit then ofBytes v else k.handoverMs := by
  cases x <;> rfl
theorem write_proposalMs : (k.write x i v).proposalMs = if x = .proposalWindow then ofBytes v else k.proposalMs := by
  cases x <;> rfl
theorem write_category : (k.write x i v).category =
    if x = .category then if ofBytes v = 0 then .immediate else .ramped else k.category := by
  cases x <;> rfl
theorem write_routes : (k.write x i v).routes =
    if x = .route then vset k.routes (Fin.ofNat 32 i) (Route.ofBytes v) else k.routes := by
  cases x <;> rfl

/-- The configuration of the input that a write names, if it names one. -/
def InputConfig.written (c : InputConfig) (x : ConstName) (n : Nat) : InputConfig :=
  match x with
  | .polarity => { c with polarity := if n = 0 then .activeHigh else .activeLow }
  | .mode => { c with mode := if n = 0 then .level else .edge }
  | .debounce => { c with debounceMs := n }
  | .binding => { c with binding := Binding.ofNat n }
  | _ => c

theorem write_inputs : (k.write x i v).inputs =
    vset k.inputs (Fin.ofNat 16 i) ((vget k.inputs (Fin.ofNat 16 i)).written x (ofBytes v)) := by
  cases x <;> first | rfl | exact (vset_vget_self _ _).symm

variable {x}

theorem written_polarity (c : InputConfig) (n : Nat) (h : x ≠ .polarity) : (c.written x n).polarity = c.polarity := by
  cases x <;> first | rfl | exact absurd rfl h
theorem written_mode (c : InputConfig) (n : Nat) (h : x ≠ .mode) : (c.written x n).mode = c.mode := by
  cases x <;> first | rfl | exact absurd rfl h
theorem written_debounceMs (c : InputConfig) (n : Nat) (h : x ≠ .debounce) : (c.written x n).debounceMs = c.debounceMs := by
  cases x <;> first | rfl | exact absurd rfl h
theorem written_binding (c : InputConfig) (n : Nat) (h : x ≠ .binding) : (c.written x n).binding = c.binding := by
  cases x <;> first | rfl | exact absurd rfl h

end

/-! ### The written constant read back -/

theorem beBytes_ofBytes_one (a : Byte) : beBytes 1 (ofBytes [a]) = [a] := by
  have : a.toNat < 256 := a.isLt
  simp [beBytes, ofBytes]

theorem beBytes_ofBytes_two (a b : Byte) : beBytes 2 (ofBytes [a, b]) = [a, b] := by
  have := a.isLt
  have := b.isLt
  simp only [beBytes, ofBytes, List.foldl_cons, List.foldl_nil, List.cons.injEq, and_true]
  constructor <;> apply BitVec.eq_of_toNat_eq <;> simp <;> omega

theorem ofBytes_one (a : Byte) : ofBytes [a] = a.toNat := by simp [ofBytes]

theorem flagByte_written (a : Byte) : flagByte (decide (ofBytes [a] ≠ 0)) = if a = 0 then 0 else 1 := by
  rw [ofBytes_one]
  by_cases h : a = 0
  · subst h
    rfl
  · have : a.toNat ≠ 0 := fun h0 => h (BitVec.eq_of_toNat_eq h0)
    rw [if_neg h, decide_eq_true this]
    rfl

/-- A two-valued byte read back from what it chose. -/
theorem chosenByte (a : Byte) (h : ofBytes [a] ≤ 1) : beBytes 1 (if ofBytes [a] = 0 then 0 else 1) = [a] := by
  rw [ofBytes_one] at *
  have : a.toNat = 0 ∨ a.toNat = 1 := by omega
  rcases this with h0 | h1
  · rw [if_pos h0]
    exact congrArg (· :: []) (BitVec.eq_of_toNat_eq h0.symm)
  · rw [if_neg (by omega)]
    exact congrArg (· :: []) (BitVec.eq_of_toNat_eq h1.symm)

theorem beBytes_one (b : Byte) : beBytes 1 b.toNat = [b] := by rw [← ofBytes_one, beBytes_ofBytes_one]

theorem channelByte {b : Byte} (h : b.toNat < 8) : beBytes 1 (Fin.ofNat 8 b.toNat : Chan).val = [b] := by
  have hval : (Fin.ofNat 8 b.toNat : Chan).val = b.toNat := Nat.mod_eq_of_lt h
  rw [hval, beBytes_one]

/-- The list of channels read back from the bytes that made it. -/
theorem listBytes_channels {n : Byte} {items : List Byte} (hn : items.length = n.toNat) (h : ∀ b ∈ items, b.toNat < 8) :
    listBytes ((items.map fun b => Fin.ofNat 8 b.toNat).map fun c : Chan => beBytes 1 c.val) = n :: items := by
  have bytes : ((items.map fun b => Fin.ofNat 8 b.toNat).map fun c : Chan => beBytes 1 c.val) = items.map fun b => [b] := by
    rw [List.map_map]
    exact List.map_congr_left fun b hb => channelByte (h b hb)
  have flat : (items.map fun b => [b]).flatten = items := by
    rw [← List.flatMap_def, List.flatMap_singleton']
  rw [listBytes, bytes, flat, List.length_map, hn, BitVec.ofNat_toNat, BitVec.setWidth_eq]

theorem Binding.bytes_ofNat {a b : Byte} (h4 : ofBytes [a, b] / 256 < 4)
    (h8 : ofBytes [a, b] / 256 ≠ 2 ∨ ofBytes [a, b] % 256 < 8) :
    (Binding.ofNat (ofBytes [a, b])).bytes = [a, if a = 2 then b else 0] := by
  have hb := b.isLt
  have kind : ofBytes [a, b] / 256 = a.toNat := by rw [ofBytes_pair]; omega
  have chan : ofBytes [a, b] % 256 = b.toNat := by rw [ofBytes_pair]; omega
  have kinds : a = 0 ∨ a = 1 ∨ a = 2 ∨ a = 3 := by
    have : a.toNat = 0 ∨ a.toNat = 1 ∨ a.toNat = 2 ∨ a.toNat = 3 := by omega
    exact this.imp BitVec.eq_of_toNat_eq (Or.imp BitVec.eq_of_toNat_eq (Or.imp BitVec.eq_of_toNat_eq BitVec.eq_of_toNat_eq))
  rw [kind, chan] at h8
  unfold Binding.ofNat
  rw [kind, chan]
  rcases kinds with rfl | rfl | rfl | rfl
  · rfl
  · rfl
  · exact congrArg (2 :: ·) (channelByte (h8.resolve_left fun h => h rfl))
  · rfl

theorem Route.bytes_ofBytes {valid tag ports c : Byte} (hp : ports.toNat < 16) (hc : c.toNat < 8) :
    (Route.ofBytes [valid, tag, ports, c]).bytes = [if valid = 0 then 0 else 1, tag, ports, c] := by
  have flag : flagByte (decide (valid ≠ 0#8)) = if valid = 0 then 0 else 1 := by
    by_cases h : valid = 0
    · subst h
      rfl
    · have set : decide (valid ≠ 0#8) = true := decide_eq_true h
      rw [if_neg h, set]
      rfl
  have mask : (ports.setWidth 4).toNat = ports.toNat := by
    rw [BitVec.toNat_setWidth, Nat.mod_eq_of_lt hp]
  show [flagByte (decide (valid ≠ 0#8))] ++ beBytes 1 tag.toNat ++ beBytes 1 (ports.setWidth 4).toNat ++
    beBytes 1 (Fin.ofNat 8 c.toNat : Chan).val = _
  rw [flag, mask, beBytes_one, beBytes_one, channelByte hc]
  rfl

end Sys2Proof.Machine


namespace Sys2Proof.Machine

/-- The bytes that a written value reads back as: a flag as 0 or 1, a binding without a channel with 0 in its place. -/
def writtenBytes (x : ConstName) (v : List Byte) : List Byte :=
  match x, v with
  | .wakePermit, [b] | .present, [b] | .tandem, [b] => [if b = 0 then 0 else 1]
  | .binding, [k, c] => [k, if k = 2 then c else 0]
  | .route, [valid, tag, ports, c] => [if valid = 0 then 0 else 1, tag, ports, c]
  | _, v => v

theorem chosen_polarity (n : Nat) : (if (if n = 0 then Polarity.activeHigh else .activeLow) = .activeHigh then 0 else 1) =
    if n = 0 then 0 else 1 := by
  by_cases h : n = 0 <;> simp [h]

theorem chosen_mode (n : Nat) : (if (if n = 0 then InputMode.level else .edge) = .level then 0 else 1) =
    if n = 0 then 0 else 1 := by
  by_cases h : n = 0 <;> simp [h]

theorem chosen_category (n : Nat) :
    (if (if n = 0 then Category.immediate else .ramped) = .immediate then 0 else 1) = if n = 0 then 0 else 1 := by
  by_cases h : n = 0 <;> simp [h]

theorem pair_of_length {α : Type} : ∀ {l : List α}, l.length = 2 → ∃ a b, l = [a, b]
  | [a, b], _ => ⟨a, b, rfl⟩

section

variable {x : ConstName} {v : List Byte}

theorem one_of_fits (h : valueFits x v = true) (hs : x.size = some 1) : ∃ a, v = [a] := by
  unfold valueFits at h
  rw [hs] at h
  exact List.length_eq_one_iff.mp (of_decide_eq_true h)

theorem two_of_fits (h : valueFits x v = true) (hs : x.size = some 2) : ∃ a b, v = [a, b] := by
  unfold valueFits at h
  rw [hs] at h
  exact pair_of_length (of_decide_eq_true h)

theorem four_of_fits (h : valueFits .route v = true) : ∃ a b c d, v = [a, b, c, d] := by
  have hl : v.length = 4 := of_decide_eq_true h
  match v, hl with
  | [a, b, c, d], _ => exact ⟨a, b, c, d, rfl⟩

end

/-- An accepted value reads back (R183). -/
theorem valueBytes_write_self {k : Constants} {x : ConstName} {i : Nat} {v : List Byte} (hf : valueFits x v = true)
    (hr : x.rangeOk v = true) : (k.write x i v).valueBytes x i = writtenBytes x v := by
  have chosen {a : Byte} (h : inRange 0 1 (ofBytes [a]) = true) := chosenByte a (inRange_iff.mp h).2
  cases x with
  | periodCode | settleCode =>
    obtain ⟨a, rfl⟩ := one_of_fits hf rfl
    exact beBytes_ofBytes_one a
  | rank =>
    obtain ⟨a, rfl⟩ := one_of_fits hf rfl
    exact (congrArg (beBytes 1) (vget_vset_self _ _ _)).trans (beBytes_ofBytes_one a)
  | wakePermit | present | tandem =>
    obtain ⟨a, rfl⟩ := one_of_fits hf rfl
    exact congrArg (· :: []) ((congrArg flagByte (vget_vset_self _ _ _)).trans (flagByte_written a))
  | category =>
    obtain ⟨a, rfl⟩ := one_of_fits hf rfl
    exact (congrArg (beBytes 1) (chosen_category _)).trans (chosen hr)
  | polarity =>
    obtain ⟨a, rfl⟩ := one_of_fits hf rfl
    unfold Constants.valueBytes
    rw [write_inputs, vget_vset_self]
    exact (congrArg (beBytes 1) (chosen_polarity _)).trans (chosen hr)
  | mode =>
    obtain ⟨a, rfl⟩ := one_of_fits hf rfl
    unfold Constants.valueBytes
    rw [write_inputs, vget_vset_self]
    exact (congrArg (beBytes 1) (chosen_mode _)).trans (chosen hr)
  | silenceLimit | ceiling | reserve =>
    obtain ⟨a, b, rfl⟩ := two_of_fits hf rfl
    exact (congrArg (beBytes 2) (vget_vset_self _ _ _)).trans (beBytes_ofBytes_two a b)
  | linkRating | safeLevel | failLevel | readyLevel | highLevel | chargeLimit | handoverLimit | proposalWindow =>
    obtain ⟨a, b, rfl⟩ := two_of_fits hf rfl
    exact beBytes_ofBytes_two a b
  | debounce =>
    obtain ⟨a, b, rfl⟩ := two_of_fits hf rfl
    unfold Constants.valueBytes
    rw [write_inputs, vget_vset_self]
    exact beBytes_ofBytes_two a b
  | binding =>
    obtain ⟨a, b, rfl⟩ := two_of_fits hf rfl
    simp only [ConstName.rangeOk, Bool.and_eq_true, Bool.or_eq_true, decide_eq_true_eq] at hr
    unfold Constants.valueBytes
    rw [write_inputs, vget_vset_self]
    exact Binding.bytes_ofNat hr.1 hr.2
  | route =>
    obtain ⟨valid, tag, ports, c, rfl⟩ := four_of_fits hf
    simp only [ConstName.rangeOk, Bool.and_eq_true, decide_eq_true_eq] at hr
    obtain ⟨⟨-, hp⟩, hc⟩ := hr
    exact (congrArg Route.bytes (vget_vset_self _ _ _)).trans (Route.bytes_ofBytes hp hc)
  | order =>
    match v, hf with
    | n :: items, hf =>
      have channels : ∀ b ∈ items, b.toNat < 8 := fun b hb => of_decide_eq_true (List.all_eq_true.mp hr b hb)
      exact listBytes_channels (of_decide_eq_true hf) channels

/-! ### Every other constant -/

theorem ofNat_ne {n : Nat} [NeZero n] {i j : Nat} (hi : i < n) (hj : j < n) (h : j ≠ i) : Fin.ofNat n i ≠ Fin.ofNat n j := by
  intro he
  have := congrArg Fin.val he
  rw [Fin.val_ofNat, Fin.val_ofNat, Nat.mod_eq_of_lt hi, Nat.mod_eq_of_lt hj] at this
  exact h this.symm

/-- A copy of a table that a write leaves alone: another constant's write, or a write of another copy. -/
theorem vget_written {α : Type} {n : Nat} (t : Vector α n) {i j : Fin n} (a : α) {c : Prop} [Decidable c]
    (h : c → i ≠ j) : vget (if c then vset t i a else t) j = vget t j := by
  split
  · next hc => exact vget_vset_ne t a (h hc)
  · rfl

/-- A field of an input's configuration that a write leaves alone. -/
theorem inputs_kept {β : Type} (field : InputConfig → β) {k : Constants} {x y : ConstName} {i : Nat} {v : List Byte}
    {j : Input} (kept : ∀ c n, x ≠ y → field (c.written x n) = field c) (h : x = y → Fin.ofNat 16 i ≠ j) :
    field (vget (k.write x i v).inputs j) = field (vget k.inputs j) := by
  rw [write_inputs, vget_vset]
  split
  · next hij => rw [kept _ _ fun he => h he hij, hij]
  · rfl

theorem tandemIndex_ne {i j : Nat} (hi : ConstName.indexOk .tandem i = true) (hj : ConstName.indexOk .tandem j = true)
    (h : j ≠ i) : Fin.ofNat 3 (i / 2) ≠ Fin.ofNat 3 (j / 2) := by
  simp only [ConstName.indexOk, Bool.or_eq_true, decide_eq_true_eq] at hi hj
  exact ofNat_ne (by omega) (by omega) (by omega)

/-- A write leaves every other name, and every other index of its own, as it was (R183). -/
theorem valueBytes_write_other {k : Constants} {x y : ConstName} {i j : Nat} {v : List Byte}
    (hi : x.indexOk i = true) (hj : y.indexOk j = true) (h : y ≠ x ∨ (x.copies.isSome = true ∧ j ≠ i)) :
    (k.write x i v).valueBytes y j = k.valueBytes y j := by
  have copy (he : x = y) : j ≠ i := (h.resolve_left fun hn => hn he.symm).2
  have single (hy : y.copies = none) : ¬ x = y := by
    rintro rfl
    rcases h with h | ⟨h, -⟩
    · exact h rfl
    · rw [hy] at h
      cases h
  have apart {n : Nat} [NeZero n] (bound : ∀ m, y.indexOk m = true → m < n) (he : x = y) :
      Fin.ofNat n i ≠ Fin.ofNat n j := ofNat_ne (bound i (he ▸ hi)) (bound j hj) (copy he)
  cases y with
  | periodCode => unfold Constants.valueBytes; rw [write_periodCode, if_neg (single rfl)]
  | linkRating => unfold Constants.valueBytes; rw [write_linkRating, if_neg (single rfl)]
  | safeLevel => unfold Constants.valueBytes; rw [write_safeLevel, if_neg (single rfl)]
  | failLevel => unfold Constants.valueBytes; rw [write_failLevel, if_neg (single rfl)]
  | readyLevel => unfold Constants.valueBytes; rw [write_readyLevel, if_neg (single rfl)]
  | highLevel => unfold Constants.valueBytes; rw [write_highLevel, if_neg (single rfl)]
  | settleCode => unfold Constants.valueBytes; rw [write_settleCode, if_neg (single rfl)]
  | chargeLimit => unfold Constants.valueBytes; rw [write_chargeLimitMs, if_neg (single rfl)]
  | handoverLimit => unfold Constants.valueBytes; rw [write_handoverMs, if_neg (single rfl)]
  | proposalWindow => unfold Constants.valueBytes; rw [write_proposalMs, if_neg (single rfl)]
  | category => unfold Constants.valueBytes; rw [write_category, if_neg (single rfl)]
  | order => unfold Constants.valueBytes; rw [write_order, if_neg (single rfl)]
  | rank =>
    unfold Constants.valueBytes
    rw [write_rank, vget_written _ _ (apart fun _ => of_decide_eq_true)]
  | wakePermit =>
    unfold Constants.valueBytes
    rw [write_wakePermit, vget_written _ _ (apart fun _ => of_decide_eq_true)]
  | silenceLimit =>
    unfold Constants.valueBytes
    rw [write_silenceLimitMs, vget_written _ _ (apart fun _ => of_decide_eq_true)]
  | present =>
    unfold Constants.valueBytes
    rw [write_present, vget_written _ _ (apart fun _ => of_decide_eq_true)]
  | ceiling =>
    unfold Constants.valueBytes
    rw [write_ceiling, vget_written _ _ (apart fun _ => of_decide_eq_true)]
  | reserve =>
    unfold Constants.valueBytes
    rw [write_reserve, vget_written _ _ (apart fun _ => of_decide_eq_true)]
  | route =>
    unfold Constants.valueBytes
    rw [write_routes, vget_written _ _ (apart fun _ => of_decide_eq_true)]
  | tandem =>
    unfold Constants.valueBytes
    rw [write_tandem, vget_written _ _ fun he => tandemIndex_ne (he ▸ hi) hj (copy he)]
  | polarity =>
    unfold Constants.valueBytes
    dsimp only
    rw [inputs_kept InputConfig.polarity written_polarity (apart fun _ => of_decide_eq_true)]
  | mode =>
    unfold Constants.valueBytes
    dsimp only
    rw [inputs_kept InputConfig.mode written_mode (apart fun _ => of_decide_eq_true)]
  | debounce =>
    unfold Constants.valueBytes
    dsimp only
    rw [inputs_kept InputConfig.debounceMs written_debounceMs (apart fun _ => of_decide_eq_true)]
  | binding =>
    unfold Constants.valueBytes
    dsimp only
    rw [inputs_kept InputConfig.binding written_binding (apart fun _ => of_decide_eq_true)]

end Sys2Proof.Machine


namespace Sys2Proof.Machine

/-! ### WRITE_CONSTANT (11, R183) -/

theorem exec_writeConstant {p : Port} {n : W16} {fields : List Byte} {f : ConstFields} {s u : State} {r : Reply}
    (h : s.offers p n 2 fields) (hf : readWriteConstant fields = some f)
    (ho : writeConstantOwner p f (s.taken p) = (u, r)) : exec (.writeConstant p) s = .next (u.replied p n r) :=
  done_serve_owner (owner := writeConstantOwner p) h hf ho

/-- The value of a readable WRITE_CONSTANT has its constant's size. -/
theorem valueFits_of_read {fields : List Byte} {f : ConstFields} {x : ConstName} (h : readWriteConstant fields = some f)
    (hx : f.name = some x) : valueFits x f.value = true := by
  unfold readWriteConstant at h
  split at h
  · cases h
  · next g hg =>
    split at h
    · next hn =>
      cases h
      rw [hx] at hn
      cases hn
    · next y hn =>
      split at h
      · next hfit =>
        cases h
        rw [hx] at hn
        cases hn
        exact hfit
      · cases h

section

variable {p : Port} {f : ConstFields} {x : ConstName} {s : State}

theorem writeConstantOwner_notSafety (hp : p ≠ s.safetyPort) : writeConstantOwner p f s = (s, .bare .notSafety) := if_pos hp

theorem writeConstantOwner_frozen (hp : p = s.safetyPort) (hop : s.phase = .operating) :
    writeConstantOwner p f s = (s, .bare .frozen) := by
  rw [writeConstantOwner, if_neg (not_not_intro hp), if_pos (by rw [inConfig_eq_false.mpr hop]; rfl)]

theorem writeConstantOwner_unnamed (hp : p = s.safetyPort) (hc : s.phase = .config) (hx : f.name = none) :
    writeConstantOwner p f s = (s, .bare .field) := by
  rw [writeConstantOwner, if_neg (not_not_intro hp), if_neg (by rw [inConfig_eq_true.mpr hc]; exact Bool.false_ne_true), hx]

theorem writeConstantOwner_named (hp : p = s.safetyPort) (hc : s.phase = .config) (hx : f.name = some x) :
    writeConstantOwner p f s =
      if !(x.indexOk f.index && x.fieldOk f.value) then (s, .bare .field)
      else if !x.rangeOk f.value then (s, ⟨.range, f.item x⟩)
      else (storeConstant x f.index f.value s, .bare .ok) := by
  rw [writeConstantOwner, if_neg (not_not_intro hp), if_neg (by rw [inConfig_eq_true.mpr hc]; exact Bool.false_ne_true), hx]

theorem writeConstantOwner_stores (hp : p = s.safetyPort) (hc : s.phase = .config) (hx : f.name = some x)
    (hok : (x.indexOk f.index && x.fieldOk f.value) = true) (hr : x.rangeOk f.value = true) :
    writeConstantOwner p f s = (storeConstant x f.index f.value s, .bare .ok) := by
  rw [writeConstantOwner_named hp hc hx, hok, hr]
  rfl

end

/-! #### What a write moves in the Input Block (08, R157, R160) -/

section

variable {x : ConstName} {i : Input} {b : Binding} {s : State}

theorem afterWrite_other (hp : x ≠ .polarity) (hb : x ≠ .binding) : afterWrite x i b s = s := by
  unfold afterWrite
  split
  · exact absurd rfl hp
  · exact absurd rfl hb
  · rfl

theorem afterWrite_binding_same (h : (s.inputConfig i).binding = b) : afterWrite .binding i b s = s := if_pos h

theorem afterWrite_binding_changed (h : (s.inputConfig i).binding ≠ b) :
    afterWrite .binding i b s = recordLevel (s.inputConfig i).binding i (s.inp i).level s := if_neg h

theorem actOnActive_config (h : s.phase = .config) : actOnActive b s = if b = .wake then wakeLink s else s := by
  cases b with
  | safeStop => exact if_pos (inConfig_eq_true.mpr h)
  | wake => rfl
  | none | brakeFb c => rfl

/-- A level that a polarity write changes follows at once and is delivered, with no flag, count or notice. -/
theorem changeLevel_silent {level : Bool} (h : s.phase = .config) {u : State}
    (hu : u = recordLevel (s.inputConfig i).binding i level
      { s with inputs := vset s.inputs i { s.inp i with level := level, debounce := none } }) :
    changeLevel i level s = if level = true ∧ (s.inputConfig i).binding = .wake then wakeLink u else u := by
  have changed : (s.inp i).changed level (!s.inConfig) = { s.inp i with level := level, debounce := none } := by
    rw [inConfig_eq_true.mpr h, InputBlock.changed, Bool.not_true, Bool.and_false]
    rfl
  have phase : u.phase = .config := by rw [hu, recordLevel_phase, h]
  have delivered : changeLevel i level s = if level then actOnActive (s.inputConfig i).binding u else u := by
    unfold changeLevel
    rw [changed, inConfig_eq_true.mpr h, hu]
    cases level <;> rfl
  rw [delivered, actOnActive_config phase]
  split
  · next hl => exact ite_of_iff ⟨fun hw => ⟨hl, hw⟩, fun hw => hw.2⟩
  · next hl => exact (if_neg fun hc => hl hc.1).symm

end

/-- Settles O27: the checks in their order, the value read back, and what the Input Block does with it. -/
theorem writeConstantStoresOneValue : Obligations.WriteConstantStoresOneValue := by
  refine ⟨fun p n fields f s h hf => ⟨fun hp => exec_writeConstant h hf (writeConstantOwner_notSafety (s := s.taken p) hp),
    fun hp hop => exec_writeConstant h hf (writeConstantOwner_frozen (s := s.taken p) hp hop),
    fun hp hc => ⟨fun hx => exec_writeConstant h hf (writeConstantOwner_unnamed (s := s.taken p) hp hc hx),
      fun x hx => ?named⟩⟩, fun s hl => wakeLink_idle hl, fun i level s => ⟨rfl, rfl, rfl, fun c => rfl⟩⟩
  have named := writeConstantOwner_named (s := s.taken p) hp hc hx
  refine ⟨fun hbad => ?field, fun hok hr => ?range, fun hok hr i old new level w answers hi hw hold hnew hlevel hans => ?store⟩
  case field => exact exec_writeConstant h hf (named.trans (if_pos (by rw [hbad]; rfl)))
  case range =>
    exact exec_writeConstant h hf (named.trans ((if_neg (by rw [hok]; exact Bool.false_ne_true)).trans
      (if_pos (by rw [hr]; rfl))))
  case store =>
    have fits := valueFits_of_read hf hx
    have indexed : x.indexOk f.index = true := (Bool.and_eq_true _ _).mp hok |>.1
    have stored {u : State} (hu : storeConstant x f.index f.value (s.taken p) = u) : answers u :=
      (hans u).mpr (exec_writeConstant h hf ((writeConstantOwner_stores (s := s.taken p) hp hc hx hok hr).trans (by rw [hu])))
    have written : storeConstant x f.index f.value (s.taken p) = afterWrite x i old.binding w := by
      rw [storeConstant, hw, hold, hi]
      rfl
    have consts : w.consts = s.consts.write x f.index f.value := by rw [hw]
    have phase : w.phase = .config := by rw [hw]; exact hc
    have config : w.inputConfig i = new := hnew.symm
    have pinned : w.activeAtPin i = level := by
      rw [State.activeAtPin, config, hlevel, hw]
      rfl
    have input : w.inp i = s.inp i := by rw [hw]; rfl
    refine ⟨?_, fun y j hj hother => ?_, fun hp hb => stored (written.trans (afterWrite_other hp hb)), fun hb => ?_,
      fun hpol => ?_⟩
    · rw [consts]
      exact valueBytes_write_self fits hr
    · rw [consts]
      exact valueBytes_write_other indexed hj hother
    · subst hb
      refine ⟨?_, fun hsame => stored (written.trans (afterWrite_binding_same (by rw [config, hsame]))), fun hne => ?_⟩
      · rw [hnew, consts, write_inputs, hold, hi, vget_vset_self]
        rfl
      · refine stored (written.trans ((afterWrite_binding_changed (by rw [config]; exact hne)).trans ?_))
        rw [config, input]
    · subst hpol
      have judged : storeConstant .polarity f.index f.value (s.taken p) = qualify i w := written
      refine ⟨fun hsame => stored (judged.trans ?_), fun hne => ⟨_, rfl, stored (judged.trans ?_)⟩⟩
      · rw [qualify_agrees (by rw [pinned, input, hsame]), setDebounce, input, hw]
        rfl
      · have inputs : w.inputs = s.inputs := by rw [hw]; rfl
        rw [qualify_atOnce (by rw [pinned, input]; exact hne) (.inl phase), pinned, changeLevel_silent phase rfl, config,
          input, inputs]

end Sys2Proof.Machine


namespace Sys2Proof.Machine

/-! ### The gate enables of a moved group, in closed form (01, R5; 04, R87; 05, R112, R113) -/

theorem group_nodup (k : Constants) (l : Chan) : (k.group l).Nodup := by
  unfold Constants.group
  split
  · match l with
    | 0 | 1 | 2 | 3 | 4 | 5 | 6 | 7 => decide
  · exact List.nodup_cons.mpr ⟨List.not_mem_nil, List.nodup_nil⟩

/-- Steps that do the same on each member do the same on the list. -/
theorem foldl_eq_of_mem {α β : Type} {f g : β → α → β} : ∀ {l : List α} (b : β), (∀ c, ∀ a ∈ l, f c a = g c a) →
    l.foldl f b = l.foldl g b
  | [], _, _ => rfl
  | a :: rest, b, h => by
    rw [List.foldl_cons, List.foldl_cons, h b a List.mem_cons_self,
      foldl_eq_of_mem _ fun c x hx => h c x (List.mem_cons_of_mem _ hx)]

/-- The grants are those of the requests as they stand. -/
def State.recomputed (s : State) : Prop := s.allot.grant = grantsOf s.consts s.allot.budget s.allot.request

section

variable {c l : Chan} {new : ChState} {s : State}

theorem gateSync_stays (hl : s.consts.lead c = l) (hs : (s.eng l).state = new)
    (he : (s.eng c).gateEnable = s.gateIn new c) : (gateSync c s).allot = s.allot := by
  rw [gateSync_eq hl hs]
  exact if_pos he

theorem gateSync_changes (hl : s.consts.lead c = l) (hs : (s.eng l).state = new)
    (he : (s.eng c).gateEnable ≠ s.gateIn new c) : (gateSync c s).allot = { s.allot with
      request := vset s.allot.request c 0
      grant := grantsOf s.consts s.allot.budget (vset s.allot.request c 0) } := by
  rw [gateSync_eq hl hs]
  exact if_neg he

theorem gateSync_budget (c : Chan) (s : State) : (gateSync c s).allot.budget = s.allot.budget := by
  rw [gateSync_eq rfl rfl]
  dsimp only
  split <;> rfl

theorem gateSync_request (hl : s.consts.lead c = l) (hs : (s.eng l).state = new) (d : Chan) :
    vget (gateSync c s).allot.request d =
      if d = c ∧ (s.eng c).gateEnable ≠ s.gateIn new c then 0 else vget s.allot.request d := by
  by_cases he : (s.eng c).gateEnable = s.gateIn new c
  · rw [gateSync_stays hl hs he, if_neg fun hc => hc.2 he]
  · rw [gateSync_changes hl hs he, vget_vset]
    by_cases hd : c = d
    · rw [if_pos hd, if_pos ⟨hd.symm, he⟩]
    · rw [if_neg hd, if_neg fun hc => hd hc.1.symm]

theorem gateSync_recomputed (h : s.recomputed) (c : Chan) : (gateSync c s).recomputed := by
  unfold State.recomputed
  rw [gateSync_consts]
  by_cases he : (s.eng c).gateEnable = s.gateIn (s.eng (s.consts.lead c)).state c
  · rw [gateSync_stays rfl rfl he]
    exact h
  · rw [gateSync_changes rfl rfl he]

theorem gateSync_engine (hl : s.consts.lead c = l) (hs : (s.eng l).state = new) (d : Chan) :
    (gateSync c s).eng d = if d = c then (s.eng c).gated (s.gateIn new c) else s.eng d := by
  rw [gateSync_eq hl hs]
  exact (vget_vset _ _ _ _).trans (ite_of_iff eq_comm)

theorem gateSync_gateIn (c d : Chan) (x : ChState) (s : State) : (gateSync c s).gateIn x d = s.gateIn x d := by
  unfold State.gateIn State.present
  rw [gateSync_consts, gateSync_link]

theorem gateSync_wire (hl : s.consts.lead c = l) (hs : (s.eng l).state = new) : (gateSync c s).wire =
    if (s.eng c).gateEnable && !s.gateIn new c then .bridge c (gateRecord s.stamp16 Duties.zero false s.standby) :: s.wire
    else s.wire := by
  rw [gateSync_eq hl hs]

end

/-! #### One group after another channel's gate has followed -/

/-- The channels of the list are led by `l`, whose state is `new`. -/
def State.ledBy (s : State) (g : List Chan) (l : Chan) (new : ChState) : Prop :=
  (∀ c ∈ g, s.consts.lead c = l) ∧ (s.eng l).state = new

theorem State.ledBy.head {s : State} {c : Chan} {g : List Chan} {l : Chan} {new : ChState} (h : s.ledBy (c :: g) l new) :
    s.consts.lead c = l := h.1 c List.mem_cons_self

theorem State.ledBy.tail {s : State} {c : Chan} {g : List Chan} {l : Chan} {new : ChState} (h : s.ledBy (c :: g) l new) :
    (gateSync c s).ledBy g l new := by
  refine ⟨fun d hd => ?_, ?_⟩
  · rw [gateSync_consts]
    exact h.1 d (List.mem_cons_of_mem _ hd)
  · rw [State.eng, gateSync_state]
    exact h.2

section

variable {l : Chan} {new : ChState}

theorem gateSyncs_engine (d : Chan) : ∀ {g : List Chan} {s : State}, g.Nodup → s.ledBy g l new →
    (gateSyncs g s).eng d = if d ∈ g then (s.eng d).gated (s.gateIn new d) else s.eng d
  | [], s, _, _ => (if_neg List.not_mem_nil).symm
  | c :: rest, s, hn, h => by
    rw [List.nodup_cons] at hn
    rw [gateSyncs, gateSyncs_engine d hn.2 h.tail, gateSync_gateIn, gateSync_engine h.head h.2]
    by_cases hd : d = c
    · rw [if_neg (hd ▸ hn.1), if_pos hd, if_pos (hd ▸ List.mem_cons_self), hd]
    · simp only [hd, if_false, List.mem_cons, false_or]

theorem gateSyncs_wire : ∀ {g : List Chan} {s : State}, g.Nodup → s.ledBy g l new → (gateSyncs g s).wire =
    g.foldl (fun w c => if (s.eng c).gateEnable && !s.gateIn new c then
      .bridge c (gateRecord s.stamp16 Duties.zero false s.standby) :: w else w) s.wire
  | [], s, _, _ => rfl
  | c :: rest, s, hn, h => by
    rw [List.nodup_cons] at hn
    rw [gateSyncs, gateSyncs_wire hn.2 h.tail, List.foldl_cons, gateSync_wire h.head h.2]
    refine foldl_eq_of_mem _ fun w d hd => ?_
    have other : d ≠ c := fun he => hn.1 (he ▸ hd)
    unfold State.stamp16 State.standby
    rw [gateSync_engine h.head h.2, if_neg other, gateSync_gateIn, gateSync_period, gateSync_link]

theorem gateSyncs_budget (g : List Chan) (s : State) : (gateSyncs g s).allot.budget = s.allot.budget :=
  gateSyncs_induct (fun u => u.allot.budget = s.allot.budget) (fun c u hu => (gateSync_budget c u).trans hu) g s rfl

theorem gateSyncs_request (d : Chan) : ∀ {g : List Chan} {s : State}, g.Nodup → s.ledBy g l new →
    vget (gateSyncs g s).allot.request d =
      if d ∈ g ∧ (s.eng d).gateEnable ≠ s.gateIn new d then 0 else vget s.allot.request d
  | [], s, _, _ => (if_neg fun h => List.not_mem_nil h.1).symm
  | c :: rest, s, hn, h => by
    rw [List.nodup_cons] at hn
    rw [gateSyncs, gateSyncs_request d hn.2 h.tail, gateSync_gateIn, gateSync_engine h.head h.2,
      gateSync_request h.head h.2]
    by_cases hd : d = c
    · subst hd
      simp [hn.1]
    · simp [hd]

theorem gateSyncs_stays : ∀ {g : List Chan} {s : State}, g.Nodup → s.ledBy g l new →
    (∀ c ∈ g, (s.eng c).gateEnable = s.gateIn new c) → (gateSyncs g s).allot = s.allot
  | [], s, _, _, _ => rfl
  | c :: rest, s, hn, h, he => by
    rw [List.nodup_cons] at hn
    have head := he c List.mem_cons_self
    rw [gateSyncs, gateSyncs_stays hn.2 h.tail fun d hd => ?_, gateSync_stays h.head h.2 head]
    have other : d ≠ c := fun hdc => hn.1 (hdc ▸ hd)
    rw [gateSync_engine h.head h.2, if_neg other, gateSync_gateIn]
    exact he d (List.mem_cons_of_mem _ hd)

theorem gateSyncs_recomputed : ∀ {g : List Chan} {s : State}, g.Nodup → s.ledBy g l new →
    (∃ c ∈ g, (s.eng c).gateEnable ≠ s.gateIn new c) → (gateSyncs g s).recomputed
  | [], s, _, _, ⟨c, hc, _⟩ => absurd hc List.not_mem_nil
  | c :: rest, s, hn, h, ⟨d, hd, he⟩ => by
    rw [List.nodup_cons] at hn
    rw [gateSyncs]
    by_cases hdc : d = c
    · subst hdc
      refine gateSyncs_induct State.recomputed (fun _ _ hu => gateSync_recomputed hu _) rest _ ?_
      rw [State.recomputed, gateSync_changes h.head h.2 he, gateSync_consts]
    · refine gateSyncs_recomputed hn.2 h.tail ⟨d, (List.mem_cons.mp hd).resolve_left hdc, ?_⟩
      rw [gateSync_engine h.head h.2, if_neg hdc, gateSync_gateIn]
      exact he

end

end Sys2Proof.Machine


namespace Sys2Proof.Machine

/-! ### A move of a group (01, R2, R4, R5, R7; 02, R45) -/

/-- The state in which the gates of a moved group follow. -/
abbrev State.entered (s : State) (l : Chan) (new : ChState) (timer : Option Nat) : State :=
  { s with engines := vset s.engines l { s.eng l with state := new, timer := timer, holdFault := false } }

theorem State.group_nodup (s : State) (l : Chan) : (s.group l).Nodup := Machine.group_nodup s.consts l

section

variable {l : Chan} {new : ChState} {timer : Option Nat} {s : State}

theorem entered_engine (c : Chan) : (s.entered l new timer).eng c =
    if c = l then { s.eng c with state := new, timer := timer, holdFault := false } else s.eng c := by
  refine (vget_vset _ _ _ _).trans ?_
  by_cases h : c = l
  · rw [if_pos h, if_pos h.symm, h]
  · rw [if_neg h, if_neg fun he => h he.symm]
    rfl

theorem entered_gateEnable (c : Chan) : ((s.entered l new timer).eng c).gateEnable = (s.eng c).gateEnable := by
  rw [entered_engine]
  split <;> rfl

theorem entered_ledBy (hf : s.consts.isFollower l = false) : (s.entered l new timer).ledBy (s.group l) l new :=
  ⟨fun c hc => lead_of_mem_group hf hc, by rw [entered_engine, if_pos rfl]⟩

theorem entered_gated (c : Chan) (on : Bool) : ((s.entered l new timer).eng c).gated on =
    if c = l then { (s.eng c).gated on with state := new, timer := timer, holdFault := false } else (s.eng c).gated on := by
  rw [entered_engine]
  by_cases h : c = l
  · rw [if_pos h, if_pos h]
    unfold Engine.gated
    split <;> rfl
  · rw [if_neg h, if_neg h]

/-- The group's gates have followed its new state. -/
abbrev State.followed (s : State) (l : Chan) (new : ChState) (timer : Option Nat) : State :=
  gateSyncs (s.group l) (s.entered l new timer)

theorem followed_engine (hf : s.consts.isFollower l = false) (c : Chan) :
    (s.followed l new timer).eng c = s.movedEngine l new timer c := by
  rw [State.followed, gateSyncs_engine c (s.group_nodup l) (entered_ledBy hf), entered_gated]
  by_cases hc : c ∈ s.group l
  · rw [if_pos hc, State.movedEngine, if_pos hc]
    rfl
  · have other : c ≠ l := fun he => hc (he ▸ mem_group_self _ _)
    rw [if_neg hc, State.movedEngine, if_neg hc, entered_engine, if_neg other]

theorem followed_wire (hf : s.consts.isFollower l = false) : (s.followed l new timer).wire = s.cutRecords l new := by
  rw [State.followed, gateSyncs_wire (s.group_nodup l) (entered_ledBy hf)]
  refine foldl_eq_of_mem _ fun w c _ => ?_
  rw [entered_gateEnable]
  rfl

/-- What the gates' following writes. -/
theorem followed_writes (s : State) (l : Chan) (new : ChState) (timer : Option Nat) : ∃ engines allot wire,
    s.followed l new timer = { s with engines := engines, allot := allot, wire := wire } :=
  gateSyncs_induct (fun u => ∃ engines allot wire, u = { s with engines := engines, allot := allot, wire := wire })
    (fun c u ⟨engines, allot, wire, hu⟩ => by
      rw [gateSync_eq (c := c) (s := u) rfl rfl, hu]
      exact ⟨_, _, _, rfl⟩) _ _ ⟨_, _, _, rfl⟩

end

/-- The state whose change of channel state is handed to the ports. -/
def State.moved (s : State) (l : Chan) (new : ChState) (timer : Option Nat) : State :=
  if (s.eng l).state.running && !new.running then dropHandover l (s.followed l new timer) else s.followed l new timer

section

variable {l : Chan} {new : ChState} {timer : Option Nat} {s : State}

theorem moveGroup_eq : moveGroup l new timer s = broadcast .channelState (s.moved l new timer) := rfl

theorem moved_engines : (s.moved l new timer).engines = (s.followed l new timer).engines := by
  unfold State.moved
  split <;> rfl

theorem moved_allot : (s.moved l new timer).allot = (s.followed l new timer).allot := by
  unfold State.moved
  split <;> rfl

theorem moved_wire : (s.moved l new timer).wire = (s.followed l new timer).wire := by
  unfold State.moved
  split <;> rfl

theorem moved_auRec (c : Chan) : (s.moved l new timer).auRec c =
    if c = l ∧ (s.eng l).state.running = true ∧ new.running = false then { s.auRec c with handover := none }
    else s.auRec c := by
  have auth : (s.followed l new timer).auth = s.auth := gateSyncs_auth _ _
  unfold State.moved
  split
  · next h =>
    rw [Bool.and_eq_true, Bool.not_eq_true'] at h
    refine (vget_vset _ _ _ _).trans ?_
    rw [State.auRec, auth]
    by_cases hc : c = l
    · rw [if_pos hc.symm, if_pos ⟨hc, h⟩, hc]
      rfl
    · rw [if_neg fun he => hc he.symm, if_neg fun he => hc he.1]
      rfl
  · next h =>
    rw [Bool.and_eq_true, Bool.not_eq_true'] at h
    rw [if_neg fun hc => h hc.2, State.auRec, auth]
    rfl

/-- What a move leaves alone. -/
theorem moved_eq : s.moved l new timer = { s with
    engines := (s.moved l new timer).engines, auth := (s.moved l new timer).auth, allot := (s.moved l new timer).allot
    wire := (s.moved l new timer).wire } := by
  obtain ⟨engines, allot, wire, written⟩ := followed_writes s l new timer
  unfold State.moved
  rw [written]
  split <;> rfl

end

/-- Settles O4: the leader enters the state, the gates of its group follow one after another, and the ports are told. -/
theorem moveFollowsItsGroup : Obligations.MoveFollowsItsGroup := by
  intro l new timer s hf
  have led := entered_ledBy (new := new) (timer := timer) hf
  have nodup := s.group_nodup l
  refine ⟨s.moved l new timer, moveGroup_eq, ?frame, fun c => ?engine, moved_auRec, ?budget, fun c => ?request,
    fun h => ?stays, fun h => ?changes⟩
  case frame =>
    rw [← followed_wire (timer := timer) hf, ← moved_wire]
    exact moved_eq
  case engine =>
    rw [State.eng, moved_engines]
    exact followed_engine hf c
  case budget =>
    rw [moved_allot]
    exact gateSyncs_budget _ _
  case request =>
    rw [moved_allot, gateSyncs_request c nodup led, entered_gateEnable]
    rfl
  case stays =>
    rw [moved_allot]
    exact gateSyncs_stays nodup led fun c hc => by rw [entered_gateEnable]; exact h c hc
  case changes =>
    obtain ⟨c, hc, he⟩ := h
    have recomputed := gateSyncs_recomputed nodup led ⟨c, hc, by rw [entered_gateEnable]; exact he⟩
    unfold State.recomputed at recomputed
    rw [gateSyncs_budget, gateSyncs_consts] at recomputed
    rw [moved_allot]
    exact recomputed

end Sys2Proof.Machine


namespace Sys2Proof.Machine

/-! ### What reactions, moves and link changes leave alone, and what the ports have heard (10, R177) -/

/-- The blocks of the frame are as they were, and no port has forgotten a notice. -/
def State.framed (s t : State) : Prop :=
  s.sameFrame t ∧ ∀ q j, (s.port q).summary.getLsbD j = true → (t.port q).summary.getLsbD j = true

section

variable {s t u : State}

theorem State.framed.frame (h : s.framed t) : s.sameFrame t := h.1

theorem State.framed.heard (h : s.framed t) {q : Port} {k : NoticeKind}
    (hk : (s.port q).summary.getLsbD k.index = true) : (t.port q).summary.getLsbD k.index = true := h.2 q k.index hk

theorem PortBlock.sameLink.trans {a b c : PortBlock} (h : b.sameLink a) (h' : c.sameLink b) : c.sameLink a := by
  obtain ⟨link, silence, inbound, overrun, damaged, subscribed, pacing⟩ := h
  obtain ⟨link', silence', inbound', overrun', damaged', subscribed', pacing'⟩ := h'
  exact ⟨link'.trans link, silence'.trans silence, inbound'.trans inbound, overrun'.trans overrun, damaged'.trans damaged,
    subscribed'.trans subscribed, pacing'.trans pacing⟩

theorem State.sameFrame.trans (h : s.sameFrame t) (h' : t.sameFrame u) : s.sameFrame u := by
  obtain ⟨phase, safety, resetting, consts, signals, pins, period, started, inputs, pending, cause, ports⟩ := h
  obtain ⟨phase', safety', resetting', consts', signals', pins', period', started', inputs', pending', cause', ports'⟩ := h'
  exact ⟨phase'.trans phase, safety'.trans safety, resetting'.trans resetting, consts'.trans consts,
    signals'.trans signals, pins'.trans pins, period'.trans period, started'.trans started, inputs'.trans inputs,
    pending'.trans pending, cause'.trans cause, fun q => (ports q).trans (ports' q)⟩

theorem State.framed.trans (h : s.framed t) (h' : t.framed u) : s.framed u :=
  ⟨h.1.trans h'.1, fun q j hj => h'.2 q j (h.2 q j hj)⟩

variable (s)

theorem framed_refl : s.framed s := ⟨⟨rfl, rfl, rfl, rfl, rfl, rfl, rfl, rfl, rfl, rfl, rfl, fun _ => ⟨rfl, rfl, rfl, rfl, rfl, rfl, rfl⟩⟩,
  fun _ _ h => h⟩

theorem framed_link (b : LinkBlock) : s.framed { s with link := b } := framed_refl s

theorem framed_react (b : ReactionBlock) : s.framed { s with react := b } := framed_refl s

theorem PortBlock.note_heard (k : NoticeKind) (b : PortBlock) {j : Nat} (h : b.summary.getLsbD j = true) :
    (b.note k).summary.getLsbD j = true := by
  rw [PortBlock.note, BitVec.getLsbD_or, h, Bool.true_or]

theorem PortBlock.note_told (k : NoticeKind) (b : PortBlock) : (b.note k).summary.getLsbD k.index = true := by
  have small : k.index < 12 := by cases k <;> decide
  rw [PortBlock.note, BitVec.getLsbD_or, NoticeKind.bit, one_shiftLeft_getLsbD small, decide_eq_true rfl, Bool.or_true]

theorem handTo_port (p : Port) (k : NoticeKind) (q : Port) :
    (handTo p k s).port q = if p = q then (s.port q).note k else s.port q := by
  refine (vget_vset _ _ _ _).trans ?_
  split
  · next h => rw [h]
  · rfl

theorem handTo_told (p : Port) (k : NoticeKind) : ((handTo p k s).port p).summary.getLsbD k.index = true := by
  rw [handTo_port, if_pos rfl]
  exact PortBlock.note_told _ _

theorem broadcast_port (k : NoticeKind) (q : Port) :
    (broadcast k s).port q = if (s.port q).subscribes k then (s.port q).note k else s.port q :=
  vget_vmap_ports _ _ _

variable {s} in
theorem broadcast_told {k : NoticeKind} {q : Port} (h : (s.port q).subscribes k = true) :
    ((broadcast k s).port q).summary.getLsbD k.index = true := by
  rw [broadcast_port, if_pos h]
  exact PortBlock.note_told _ _

variable {s} in
theorem State.framed.subscribes (h : s.framed t) (q : Port) (k : NoticeKind) :
    (t.port q).subscribes k = (s.port q).subscribes k := by
  obtain ⟨⟨-, -, -, -, -, -, -, -, -, -, -, ports⟩, -⟩ := h
  obtain ⟨-, -, -, -, -, subscribed, -⟩ := ports q
  rw [PortBlock.subscribes, subscribed, PortBlock.subscribes]

/-- A change of the ports that only notes. -/
theorem framed_ports {ports : Vector PortBlock 4}
    (h : ∀ q, ∃ k, vget ports q = s.port q ∨ vget ports q = (s.port q).note k) : s.framed { s with ports := ports } := by
  refine ⟨⟨rfl, rfl, rfl, rfl, rfl, rfl, rfl, rfl, rfl, rfl, rfl, fun q => ?_⟩, fun q j hj => ?_⟩
  · show (vget ports q).sameLink (s.port q)
    obtain ⟨k, same | noted⟩ := h q
    · rw [same]
      exact ⟨rfl, rfl, rfl, rfl, rfl, rfl, rfl⟩
    · rw [noted]
      exact ⟨rfl, rfl, rfl, rfl, rfl, rfl, rfl⟩
  · show (vget ports q).summary.getLsbD j = true
    obtain ⟨k, same | noted⟩ := h q
    · rw [same]
      exact hj
    · rw [noted]
      exact PortBlock.note_heard k _ hj

theorem handTo_framed (p : Port) (k : NoticeKind) : s.framed (handTo p k s) := by
  refine framed_ports s fun q => ⟨k, ?_⟩
  have noted := handTo_port s p k q
  split at noted
  · exact .inr noted
  · exact .inl noted

theorem broadcast_framed (k : NoticeKind) : s.framed (broadcast k s) := by
  refine framed_ports s fun q => ⟨k, ?_⟩
  have noted := broadcast_port s k q
  split at noted
  · exact .inr noted
  · exact .inl noted

/-! #### Moves and changes of holder -/

theorem moveGroup_framed (l : Chan) (new : ChState) (timer : Option Nat) : s.framed (moveGroup l new timer s) := by
  rw [moveGroup_eq]
  refine State.framed.trans ?_ (broadcast_framed _ _)
  rw [moved_eq]
  exact framed_refl s

theorem toOff_framed (l : Chan) : s.framed (toOff l s) := moveGroup_framed _ _ _ _

theorem toHolding_framed (l : Chan) : s.framed (toHolding l s) := moveGroup_framed _ _ _ _

theorem toStopping_framed (l : Chan) : s.framed (toStopping l s) := moveGroup_framed _ _ _ _

theorem fillTrips_framed (r : TripRecord) : ∀ (g : List Chan) (s : State), s.framed (fillTrips r g s)
  | [], s => framed_refl s
  | _ :: rest, s => (framed_refl s).trans (fillTrips_framed r rest _)

theorem toTripped_framed (l : Chan) (k : FaultKind) (d : Nat) : s.framed (toTripped l k d s) :=
  (fillTrips_framed _ (s.group l) s).trans (moveGroup_framed (flushQueue l (fillTrips _ (s.group l) s)) _ _ _)

theorem changeHolder_framed (l : Chan) (new : Option Port) : s.framed (changeHolder l new s) := by
  unfold changeHolder
  dsimp only
  split
  · exact toHolding_framed _ l
  · exact framed_refl s

theorem installHead_framed (l : Chan) : s.framed (installHead l s) := by
  rw [installHead_eq]
  exact changeHolder_framed _ l _

theorem noticeHolder_framed (l : Chan) : s.framed (noticeHolder l s) := by
  unfold noticeHolder
  split
  · exact handTo_framed s _ _
  · exact framed_refl s

theorem displace_framed (l : Chan) (old : Port) : s.framed (displace l old s) :=
  ((installHead_framed s l).trans (handTo_framed _ _ _)).trans (noticeHolder_framed _ l)

theorem revokePortFrom_framed (p : Port) (l : Chan) : s.framed (revokePortFrom p l s) := by
  unfold revokePortFrom
  dsimp only
  split
  · exact displace_framed _ l p
  · exact framed_refl s

theorem revokePortFroms_framed (p : Port) (g : List Chan) : s.framed (revokePortFroms p g s) :=
  revokePortFroms_induct s.framed p (fun l u hu _ => hu.trans (revokePortFrom_framed u p l)) g s (framed_refl s)

theorem proposalNotices_framed (e : ProposalEnd) (p : Port) : s.framed (proposalNotices e p s) := by
  cases e
  case confirmed | rejected => exact handTo_framed s _ _
  case cancelled => exact handTo_framed s _ _
  case expired | withdrawn => exact (handTo_framed s _ _).trans (handTo_framed _ _ _)

theorem endProposal_framed (l : Chan) (e : ProposalEnd) : s.framed (endProposal l e s) := by
  unfold endProposal
  split
  · exact framed_refl s
  · exact proposalNotices_framed _ _ _

theorem withdrawProposals_framed (p : Port) (g : List Chan) : s.framed (withdrawProposals p g s) :=
  withdrawProposals_induct s.framed p (fun l u hu => hu.trans (endProposal_framed u l _)) g s (framed_refl s)

/-! #### Reactions -/

theorem endSafeStop_framed (e : ReactionEnd) : s.framed (endSafeStop e s) := by
  refine (broadcast_framed (endInService .safeStop .all e s) .safeState).trans ?_
  unfold endSafeStop releaseHeld
  split
  · exact framed_refl _
  · exact framed_refl _

theorem endLinkReaction_framed (k : FaultKind) : s.framed (endLinkReaction k s) :=
  broadcast_framed (endInService k .link .completed s) .linkState

theorem writeSevere_framed (k : FaultKind) (sc : Scope) : s.framed (writeSevere k sc s) := framed_refl s

theorem flushed_framed (x : PendingEntry) : s.framed (flushAll (putInService x s)) := framed_refl s

theorem beginLinkReaction_framed (x : PendingEntry) : s.framed (beginLinkReaction x s) := by
  have told := (flushed_framed s x).trans ((broadcast_framed _ .fault).trans (broadcast_framed _ .linkState))
  have begun := told.trans (writeSevere_framed _ x.kind .link)
  unfold beginLinkReaction
  dsimp only
  split
  · exact begun.trans (endLinkReaction_framed _ _)
  · exact begun

theorem beginSafeStop_framed (x : PendingEntry) : s.framed (beginSafeStop x s) := by
  have begun := ((flushed_framed s x).trans (broadcast_framed _ .safeState)).trans (writeSevere_framed _ .safeStop .all)
  unfold beginSafeStop
  dsimp only
  split
  · exact begun.trans (endSafeStop_framed _ _)
  · exact begun

theorem revokeStarved_framed (l : Chan) (e : Option W16) : s.framed (revokeStarved l e s) := by
  unfold revokeStarved
  split
  · split
    · exact displace_framed s l _
    · exact framed_refl s
  · exact framed_refl s

theorem portSilentReaction_framed (p : Port) : s.framed (portSilentReaction p s) :=
  ((revokePortFroms_framed s p allChans).trans (withdrawProposals_framed _ p allChans)).trans (broadcast_framed _ _)

theorem performReaction_framed (x : PendingEntry) : s.framed (performReaction x s) := by
  unfold performReaction
  split
  · exact beginSafeStop_framed s x
  · exact portSilentReaction_framed s _
  · exact (revokeStarved_framed s _ _).trans (broadcast_framed _ _)
  · exact broadcast_framed (flushQueue _ _) _
  · exact broadcast_framed { s with engines := _ } _
  case h_11 => exact framed_refl s
  all_goals exact beginLinkReaction_framed s x

theorem takeReactions_framed : s.framed (takeReactions s) :=
  takeReactions_induct s.framed (fun u x others hu _ _ => hu.trans (performReaction_framed (withPending others u) x))
    (framed_refl s)

theorem reportLink_framed (k : FaultKind) : s.framed (reportLink k s) := by
  unfold reportLink
  split
  · split
    · exact (endSafeStop_framed s _).trans (takeReactions_framed (pendReport k .link none (endSafeStop .overtaken s)))
    · exact framed_refl s
  · exact takeReactions_framed (pendReport k .link none s)

theorem tripReaction_framed (k : FaultKind) (c : Chan) : s.framed (tripReaction k c s) :=
  broadcast_framed (flushQueue (s.lead c) s) .fault

theorem reportDeparture_framed : s.framed (reportDeparture s) := by
  unfold reportDeparture
  split
  · split
    · exact (endSafeStop_framed s _).trans (takeReactions_framed _)
    · exact framed_refl s
  · exact framed_refl s

theorem reportDischarged_framed : s.framed (reportDischarged s) := by
  unfold reportDischarged
  split
  · split
    · exact (endLinkReaction_framed s _).trans (takeReactions_framed _)
    · exact framed_refl s
  · exact framed_refl s

theorem detectTrip_framed (k : FaultKind) (c : Chan) (d : Nat) : s.framed (detectTrip k c d s) := by
  have tripped : s.framed (takeReactions (toTripped (s.lead c) k d s)) :=
    (toTripped_framed s _ k d).trans (takeReactions_framed _)
  have reacted := tripped.trans (tripReaction_framed _ k c)
  unfold detectTrip
  dsimp only
  split
  · exact framed_refl s
  · split
    · exact (tripped.trans (reportDeparture_framed _)).trans (tripReaction_framed _ k c)
    · exact reacted.trans (reportDeparture_framed _)
  all_goals exact reacted

/-! #### The safe stop and the link -/

theorem assertStopOn_framed (l : Chan) : s.framed (assertStopOn l s) := by
  unfold assertStopOn
  split
  case h_5 | h_6 | h_7 => exact framed_refl s
  all_goals
    split
    · exact toOff_framed s l
    · exact toStopping_framed s l

theorem assertStops_framed (g : List Chan) : s.framed (assertStops g s) :=
  assertStops_induct s.framed (fun l u hu _ => hu.trans (assertStopOn_framed u l)) g s (framed_refl s)

theorem handleStopReport_framed : s.framed (handleStopReport s).1 := by
  unfold handleStopReport
  split
  · exact takeReactions_framed (pendReport .safeStop .all none s)
  · split
    · exact framed_refl s
    · exact framed_refl s

theorem detectSafeStop_framed : s.framed (detectSafeStop s).1 :=
  (assertStops_framed (setLatch true s) allChans).trans (handleStopReport_framed _)

theorem gateSyncs_framed (g : List Chan) : s.framed (gateSyncs g s) := by
  refine gateSyncs_induct s.framed (fun c u hu => hu.trans ?_) g s (framed_refl s)
  rw [gateSync_eq (c := c) (s := u) rfl rfl]
  exact framed_refl u

theorem enterLink_framed (x : LinkState) : s.framed (enterLink x s) :=
  (framed_link s { s.link with state := x, timer := linkTimerOf s.consts x }).trans (gateSyncs_framed _ allChans)

theorem setBudget_framed (b : Nat) : s.framed (setBudget b s) := by
  unfold setBudget
  split
  · exact framed_refl s
  · exact framed_refl s

theorem handLinkState_framed : s.framed (handLinkState s) := by
  have told := broadcast_framed s .linkState
  unfold handLinkState
  dsimp only
  split
  · exact framed_refl s
  · refine State.framed.trans ?_ (setBudget_framed _ _)
    split
    · exact told.trans (reportDischarged_framed _)
    · exact told

theorem changeLink_framed (x : LinkState) : s.framed (changeLink x s) :=
  (enterLink_framed s x).trans (handLinkState_framed _)

theorem tripDriving_framed (k : FaultKind) (g : List Chan) : s.framed (tripDriving k g s) :=
  tripDriving_induct s.framed k (fun l u hu _ _ => hu.trans (toTripped_framed u l k _)) g s (framed_refl s)

theorem linkFault_framed (k : FaultKind) : s.framed (linkFault k s) := by
  unfold linkFault
  dsimp only
  split
  · exact reportLink_framed s k
  · refine State.framed.trans ?_ (reportLink_framed _ k)
    refine State.framed.trans ?_ (handLinkState_framed _)
    split
    · exact (enterLink_framed s _).trans (tripDriving_framed _ k _)
    · exact enterLink_framed s _

end

end Sys2Proof.Machine


namespace Sys2Proof.Machine

/-! ### PORT_SILENT on one channel (07, R146; 02, R47; 06, R130) -/

/-- A channel among all, each channel being handled once. -/
theorem allChans_around (c : Chan) : ∃ before after, allChans = before ++ c :: after ∧ c ∉ before ∧ c ∉ after := by
  obtain ⟨before, after, h⟩ := List.append_of_mem (mem_allChans c)
  obtain ⟨-, from_c, apart⟩ := List.nodup_append.mp (h ▸ nodup_allChans)
  exact ⟨before, after, h, fun early => apart c early c List.mem_cons_self rfl, (List.nodup_cons.mp from_c).1⟩

/-- The record, the queue and the state of a channel are as they were. -/
def State.sameAt (c : Chan) (s t : State) : Prop :=
  t.auRec c = s.auRec c ∧ t.queue c = s.queue c ∧ (t.eng c).state = (s.eng c).state

section

variable {c l : Chan} {p : Port} {s t u : State}

theorem State.sameAt.trans (h : s.sameAt c t) (h' : t.sameAt c u) : s.sameAt c u :=
  ⟨h'.1.trans h.1, h'.2.1.trans h.2.1, h'.2.2.trans h.2.2⟩

theorem sameAt_refl (c : Chan) (s : State) : s.sameAt c s := ⟨rfl, rfl, rfl⟩

/-! #### A displaced holder -/

theorem displace_auRec (old : Port) (s : State) : (displace l old s).auRec c = (installHead l s).auRec c := by
  unfold displace
  simp only [State.auRec, noticeHolder_auth, handTo_auth]

theorem displace_queue (old : Port) (s : State) : (displace l old s).queue c =
    if l = c then (s.queue l).passed else s.queue c := by
  unfold displace
  simp only [State.queue, noticeHolder_queues, handTo_queues, installHead_queues, vget_vset]

theorem displace_state (old : Port) (s : State) : ((displace l old s).eng c).state =
    if l = c ∧ (s.auRec l).waiting = [] ∧ (s.eng l).state.running = true then .holding else (s.eng c).state := by
  unfold displace
  simp only [State.eng, noticeHolder_engines, handTo_engines]
  exact installHead_state l s c

theorem displace_sameAt (old : Port) (s : State) (h : l ≠ c) : s.sameAt c (displace l old s) := by
  refine ⟨?_, ?_, ?_⟩
  · rw [displace_auRec]
    exact (installHead_auth l s c).trans (if_neg h)
  · rw [displace_queue, if_neg h]
  · rw [displace_state, if_neg fun he => h he.1]

theorem displace_told (old : Port) (s : State) :
    ((displace l old s).port old).summary.getLsbD NoticeKind.authority.index = true :=
  (noticeHolder_framed _ l).heard (handTo_told (installHead l s) old .authority)

theorem displace_toldHead {x : Claim} {rest : List Claim} (old : Port) (hw : (s.auRec l).waiting = x :: rest) :
    ((displace l old s).port x.port).summary.getLsbD NoticeKind.authority.index = true := by
  rw [displace_waiting old hw]
  exact handTo_told _ _ _

theorem displace_free (old : Port) (hw : (s.auRec l).waiting = []) :
    (displace l old s).auRec l = ⟨none, none, (s.auRec l).epoch + 1, none, [], none⟩ := by
  rw [displace_auRec]
  refine (installHead_auth l s l).trans ((if_pos rfl).trans ?_)
  rw [hw]
  rfl

theorem displace_installed {x : Claim} {rest : List Claim} (old : Port) (hw : (s.auRec l).waiting = x :: rest) :
    (displace l old s).auRec l = ⟨some x.port, some (s.rank x.port), (s.auRec l).epoch + 1, none, rest,
      if (s.eng l).state.running then some ⟨(s.auRec l).holder, x.port, s.periods s.consts.handoverMs⟩
      else (s.auRec l).handover⟩ := by
  rw [displace_auRec]
  refine (installHead_auth l s l).trans ((if_pos rfl).trans ?_)
  rw [hw]
  rfl

/-! #### The revocation, channel after channel -/

/-- The channel's record without the port's claims. -/
abbrev State.unclaimed (s : State) (p : Port) (l : Chan) : State :=
  { s with auth := vset s.auth l { s.auRec l with waiting := (s.auRec l).waiting.filter fun x => decide (x.port ≠ p) } }

theorem unclaimed_auRec : (s.unclaimed p l).auRec l =
    { s.auRec l with waiting := (s.auRec l).waiting.filter fun x => decide (x.port ≠ p) } := vget_vset_self _ _ _

theorem unclaimed_sameAt (h : l ≠ c) : s.sameAt c (s.unclaimed p l) := ⟨vget_vset_ne _ _ h, rfl, rfl⟩

theorem revokePortFrom_held (h : (s.auRec l).holder = some p) : revokePortFrom p l s = displace l p (s.unclaimed p l) :=
  if_pos h

theorem revokePortFrom_notHeld (h : (s.auRec l).holder ≠ some p) : revokePortFrom p l s = s.unclaimed p l := if_neg h

theorem revokePortFrom_sameAt (h : l ≠ c) : s.sameAt c (revokePortFrom p l s) := by
  by_cases hh : (s.auRec l).holder = some p
  · rw [revokePortFrom_held hh]
    exact (unclaimed_sameAt h).trans (displace_sameAt p _ h)
  · rw [revokePortFrom_notHeld hh]
    exact unclaimed_sameAt h

theorem revokePortFroms_sameAt : ∀ {g : List Chan} {s : State}, c ∉ g → s.sameAt c (revokePortFroms p g s)
  | [], s, _ => sameAt_refl c s
  | l :: rest, s, h => by
    obtain ⟨hl, hrest⟩ := not_or.mp (mt List.mem_cons.mpr h)
    unfold revokePortFroms
    refine State.sameAt.trans ?_ (revokePortFroms_sameAt hrest)
    split
    · exact revokePortFrom_sameAt (Ne.symm hl)
    · exact sameAt_refl c s

theorem revokePortFroms_append (p : Port) (b : List Chan) : ∀ (a : List Chan) (s : State),
    revokePortFroms p (a ++ b) s = revokePortFroms p b (revokePortFroms p a s)
  | [], _ => rfl
  | _ :: rest, _ => revokePortFroms_append p b rest _

/-- The revocation handles the channel once, in a state that has it as it was. -/
theorem revoked_once (p : Port) (c : Chan) (s : State) : ∃ u, s.framed u ∧ s.sameAt c u ∧
    (if u.served c then revokePortFrom p c u else u).framed (revokePortFroms p allChans s) ∧
    (if u.served c then revokePortFrom p c u else u).sameAt c (revokePortFroms p allChans s) := by
  obtain ⟨before, after, h, hb, ha⟩ := allChans_around c
  refine ⟨revokePortFroms p before s, revokePortFroms_framed s p before, revokePortFroms_sameAt hb, ?_⟩
  rw [h, revokePortFroms_append]
  exact ⟨revokePortFroms_framed _ p after, revokePortFroms_sameAt ha⟩

/-! #### The withdrawal, channel after channel -/

theorem endProposal_env (e : ProposalEnd) (h : l ≠ c) : (endProposal l e s).env c = s.env c := by
  cases hx : (s.env l).proposal with
  | none =>
    unfold endProposal
    rw [hx]
  | some x =>
    rw [endProposal_some e hx, State.env, proposalNotices_envs]
    exact vget_vset_ne _ _ h

theorem endProposal_env_self {x : Proposal} (e : ProposalEnd) (hx : (s.env l).proposal = some x) : (endProposal l e s).env l =
    { s.env l with proposal := none, last := some ⟨x.proposer, x.number, e, s.period⟩ } := by
  rw [endProposal_some e hx, State.env, proposalNotices_envs]
  exact vget_vset_self _ _ _

theorem withdrawProposals_env : ∀ {g : List Chan} {s : State}, c ∉ g → (withdrawProposals p g s).env c = s.env c
  | [], _, _ => rfl
  | l :: rest, s, h => by
    obtain ⟨hl, hrest⟩ := not_or.mp (mt List.mem_cons.mpr h)
    unfold withdrawProposals
    refine (withdrawProposals_env hrest).trans ?_
    split
    · exact endProposal_env _ (Ne.symm hl)
    · rfl

theorem withdrawProposals_append (p : Port) (b : List Chan) : ∀ (a : List Chan) (s : State),
    withdrawProposals p (a ++ b) s = withdrawProposals p b (withdrawProposals p a s)
  | [], _ => rfl
  | _ :: rest, _ => withdrawProposals_append p b rest _

/-- So does the withdrawal. -/
theorem withdrawn_once (p : Port) (c : Chan) (s : State) : ∃ u, s.framed u ∧ u.env c = s.env c ∧
    (if (u.env c).proposal.any (fun x => decide (x.proposer = p)) then endProposal c .withdrawn u else u).framed
      (withdrawProposals p allChans s) ∧
    (withdrawProposals p allChans s).env c =
      (if (u.env c).proposal.any (fun x => decide (x.proposer = p)) then endProposal c .withdrawn u else u).env c := by
  obtain ⟨before, after, h, hb, ha⟩ := allChans_around c
  refine ⟨withdrawProposals p before s, withdrawProposals_framed s p before, withdrawProposals_env hb, ?_⟩
  rw [h, withdrawProposals_append]
  exact ⟨withdrawProposals_framed _ p after, withdrawProposals_env ha⟩

theorem withdrawn_other (h : ∀ x, (s.env c).proposal = some x → x.proposer ≠ p) :
    (withdrawProposals p allChans s).env c = s.env c := by
  obtain ⟨u, -, same, -, env⟩ := withdrawn_once p c s
  have none : (u.env c).proposal.any (fun x => decide (x.proposer = p)) = false := by
    rw [same]
    cases hx : (s.env c).proposal with
    | none => rfl
    | some x => exact decide_eq_false (h x hx)
  rw [none] at env
  exact env.trans same

theorem withdrawn_own {x : Proposal} (hx : (s.env c).proposal = some x) (hp : x.proposer = p) :
    (withdrawProposals p allChans s).env c =
      { s.env c with proposal := none, last := some ⟨p, x.number, .withdrawn, s.period⟩ } ∧
    ((withdrawProposals p allChans s).port p).summary.getLsbD NoticeKind.proposalResult.index = true ∧
    ((withdrawProposals p allChans s).port s.safetyPort).summary.getLsbD NoticeKind.proposal.index = true := by
  obtain ⟨u, framed, same, ended, env⟩ := withdrawn_once p c s
  have hu : (u.env c).proposal = some x := by rw [same]; exact hx
  have own : (u.env c).proposal.any (fun x => decide (x.proposer = p)) = true := by
    rw [hu]
    exact decide_eq_true hp
  rw [if_pos own] at ended env
  obtain ⟨-, safety, -, -, -, -, period, -⟩ := framed.frame
  refine ⟨?_, ended.heard ?_, ended.heard ?_⟩
  · rw [env, endProposal_env_self _ hu, same, period, hp]
  · rw [endProposal_some _ hu, hp]
    exact (handTo_framed _ _ _).heard (handTo_told _ _ _)
  · rw [endProposal_some _ hu, ← safety]
    exact handTo_told _ _ _

/-! #### What the reaction leaves on a channel -/

/-- The reaction leaves a channel as its revocation left it. -/
theorem portSilentReaction_sameAt (p : Port) (c : Chan) (s : State) :
    (revokePortFroms p allChans s).sameAt c (portSilentReaction p s) := by
  unfold portSilentReaction State.sameAt
  simp only [State.auRec, State.queue, State.eng, broadcast_auth, broadcast_queues, broadcast_engines,
    withdrawProposals_auth, withdrawProposals_queues, withdrawProposals_engines, and_self]

theorem portSilentReaction_env (p : Port) (c : Chan) (s : State) :
    (portSilentReaction p s).env c = (withdrawProposals p allChans (revokePortFroms p allChans s)).env c := by
  unfold portSilentReaction
  rw [State.env, broadcast_envs, State.env]

theorem portSilent_once (p : Port) (c : Chan) (s : State) : ∃ u, s.framed u ∧ s.sameAt c u ∧
    (if u.served c then revokePortFrom p c u else u).framed (portSilentReaction p s) ∧
    (if u.served c then revokePortFrom p c u else u).sameAt c (portSilentReaction p s) := by
  obtain ⟨u, framed, same, framed', same'⟩ := revoked_once p c s
  have rest : (revokePortFroms p allChans s).framed (portSilentReaction p s) :=
    (withdrawProposals_framed _ p allChans).trans (broadcast_framed _ _)
  exact ⟨u, framed, same, framed'.trans rest, same'.trans (portSilentReaction_sameAt p c s)⟩

theorem State.framed.consts (h : s.framed t) : t.consts = s.consts := by
  obtain ⟨-, -, -, consts, -⟩ := h.frame
  exact consts

theorem State.framed.served (h : s.framed t) (c : Chan) : t.served c = s.served c := by
  unfold State.served State.present
  rw [h.consts]

theorem portSilent_notServed (h : s.served c = false) : (portSilentReaction p s).auRec c = s.auRec c := by
  obtain ⟨u, framed, same, -, same'⟩ := portSilent_once p c s
  rw [framed.served, h] at same'
  exact (same.trans same').1

theorem portSilent_notHeld (h : s.served c = true) (hh : (s.auRec c).holder ≠ some p) :
    (portSilentReaction p s).auRec c =
      { s.auRec c with waiting := (s.auRec c).waiting.filter fun x => decide (x.port ≠ p) } ∧
    (portSilentReaction p s).queue c = s.queue c ∧ ((portSilentReaction p s).eng c).state = (s.eng c).state := by
  obtain ⟨u, framed, same, -, same'⟩ := portSilent_once p c s
  obtain ⟨auRec, queue, state⟩ := same
  have notHeld : (u.auRec c).holder ≠ some p := by rw [auRec]; exact hh
  rw [framed.served, if_pos h, revokePortFrom_notHeld notHeld] at same'
  obtain ⟨auRec', queue', state'⟩ := same'
  exact ⟨by rw [auRec', unclaimed_auRec, auRec], queue'.trans queue, state'.trans state⟩

/-- The state in which a holder is displaced for its silence. -/
theorem portSilent_held (h : s.served c = true) (hh : (s.auRec c).holder = some p) : ∃ v, s.framed v ∧
    v.auRec c = { s.auRec c with waiting := (s.auRec c).waiting.filter fun x => decide (x.port ≠ p) } ∧
    v.queue c = s.queue c ∧ (v.eng c).state = (s.eng c).state ∧
    (displace c p v).framed (portSilentReaction p s) ∧ (displace c p v).sameAt c (portSilentReaction p s) := by
  obtain ⟨u, framed, same, framed', same'⟩ := portSilent_once p c s
  obtain ⟨auRec, queue, state⟩ := same
  have held : (u.auRec c).holder = some p := by rw [auRec]; exact hh
  rw [framed.served, if_pos h, revokePortFrom_held held] at same' framed'
  exact ⟨u.unclaimed p c, framed, by rw [unclaimed_auRec, auRec], queue, state, framed', same'⟩

end

end Sys2Proof.Machine


namespace Sys2Proof.Machine

/-! ### The pending set's order and what may be taken (07, R134, R137, R145) -/

/-- A report passes the entries of smaller keys. -/
theorem insertPending_append {x : PendingEntry} (l : List PendingEntry) : ∀ {before : List PendingEntry},
    (∀ z ∈ before, keyOrder z.kind z.scope < keyOrder x.kind x.scope) → insertPending x (before ++ l) = before ++ insertPending x l
  | [], _ => rfl
  | z :: rest, h => by
    have smaller := h z List.mem_cons_self
    have key : ¬(z.kind = x.kind ∧ z.scope = x.scope) := by
      rintro ⟨hk, hs⟩
      rw [hk, hs] at smaller
      exact Nat.lt_irrefl _ smaller
    rw [List.cons_append, insertPending, if_neg key, if_neg (Nat.lt_asymm smaller),
      insertPending_append l fun w hw => h w (List.mem_cons_of_mem _ hw)]
    rfl

theorem insertPending_merges {x y : PendingEntry} (after : List PendingEntry) (hk : y.kind = x.kind) (hs : y.scope = x.scope) :
    insertPending x (y :: after) =
      { y with count := min 255 (y.count + x.count), epoch := if x.epoch.isSome then x.epoch else y.epoch } :: after :=
  if_pos ⟨hk, hs⟩

theorem insertPending_first {x : PendingEntry} {after : List PendingEntry}
    (h : ∀ z ∈ after, keyOrder x.kind x.scope < keyOrder z.kind z.scope) : insertPending x after = x :: after := by
  cases after with
  | nil => rfl
  | cons z rest =>
    have larger := h z List.mem_cons_self
    have key : ¬(z.kind = x.kind ∧ z.scope = x.scope) := by
      rintro ⟨hk, hs⟩
      rw [hk, hs] at larger
      exact Nat.lt_irrefl _ larger
    rw [insertPending, if_neg key, if_pos larger]

theorem takeable_severe {x : PendingEntry} {s : State} (h : x.kind.ordinary = false) : s.takeable x = true := by
  rw [State.takeable, h]
  rfl

theorem takeable_ordinary_iff {x : PendingEntry} {s : State} (h : x.kind.ordinary = true) :
    s.takeable x = true ↔ s.react.mask.has x.kind = false ∧ s.deferred x.scope = false := by
  rw [State.takeable, h, Bool.not_true, Bool.false_or, Bool.and_eq_true, Bool.not_eq_true', Bool.not_eq_true']

theorem handoverHolds_eq_false_iff {l : Chan} {s : State} :
    s.handoverHolds l = false ↔ (s.auRec l).handover = none ∧ vget s.react.untilTake l = false := by
  rw [State.handoverHolds, Bool.or_eq_false_iff, Option.isSome_eq_false_iff, Option.isNone_iff_eq_none]

theorem deferred_port_eq_false_iff {p : Port} {s : State} : s.deferred (.port p) = false ↔
    ∀ c, (s.auRec c).holder = some p → (s.auRec c).handover = none ∧ vget s.react.untilTake c = false := by
  simp only [State.deferred, List.any_eq_false, mem_allChans, forall_const, Bool.and_eq_true, decide_eq_true_eq, not_and,
    Bool.not_eq_true, handoverHolds_eq_false_iff]

/-! ### One ordinary report (07, R144) -/

/-- The ordinary reactions write nothing of the Reaction Controller's. -/
theorem performReaction_react {x : PendingEntry} (ho : x.kind.ordinary = true)
    (s : State) : (performReaction x s).react = s.react := by
  unfold performReaction
  split
  · next h => rw [h] at ho; cases ho
  · exact portSilentReaction_react _ s
  · exact starvedReaction_react _ _ s
  · exact brakeFaultReaction_react _ s
  · exact thermalReaction_react _ s
  case h_11 => rfl
  all_goals next h => rw [h] at ho; cases ho

section

variable {k : FaultKind} {sc : Scope} {e : Option W16} {s : State}

theorem pendReport_empty (h : s.react.pendingSet = []) :
    pendReport k sc e s = { s with react := { s.react with pendingSet := [⟨k, sc, s.period, 1, e⟩] } } := by
  unfold pendReport
  rw [h]
  rfl

/-- Nothing else being pending, the set without the report is the one before it. -/
theorem withPending_pendReport (h : s.react.pendingSet = []) : withPending [] (pendReport k sc e s) = s := by
  have same : { s.react with pendingSet := [] } = s.react := by rw [← h]
  unfold withPending pendReport
  dsimp only
  rw [same]

theorem reportOrdinary_taken {x : PendingEntry} (ho : k.ordinary = true)
    (hp : s.react.pendingSet = []) (hx : x = ⟨k, sc, s.period, 1, e⟩) (hi : s.react.inService = none)
    (ht : s.takeable x = true) : reportOrdinary k sc e s = performReaction x s := by
  subst hx
  have pending : (pendReport k sc e s).react.pendingSet = [⟨k, sc, s.period, 1, e⟩] := by rw [pendReport_empty hp]
  have taken : takeFirst (pendReport k sc e s).takeable (pendReport k sc e s).react.pendingSet =
      some (⟨k, sc, s.period, 1, e⟩, []) := by
    rw [pending]
    exact if_pos ht
  unfold reportOrdinary
  rw [takeReactions_taken (s := pendReport k sc e s) hi taken, withPending_pendReport hp]
  refine takeReactions_of_quiet (quiet_of_empty ?_)
  rw [performReaction_react ho, hp]

theorem reportOrdinary_waits {x : PendingEntry} (hp : s.react.pendingSet = []) (hx : x = ⟨k, sc, s.period, 1, e⟩)
    (h : s.react.inService.isSome = true ∨ s.takeable x = false) :
    reportOrdinary k sc e s = { s with react := { s.react with pendingSet := [x] } } := by
  subst hx
  unfold reportOrdinary
  rw [pendReport_empty hp]
  refine takeReactions_of_quiet (h.imp_right fun ht y hy => ?_)
  rw [List.mem_singleton.mp hy]
  exact ht

end

/-! ### STARVED (07, R147; 02, R46) -/

section

variable {c : Chan} {first : W32} {n : Nat} {e : Option W16} {s : State} {l : Chan}

theorem starved_passed (hl : l = s.lead c) (h : (s.auRec l).holder = none ∨ e ≠ some (s.auRec l).epoch) :
    performReaction ⟨.starved, .channel c, first, n, e⟩ s = broadcast .fault s := by
  subst hl
  show broadcast .fault (revokeStarved (s.lead c) e s) = _
  congr 1
  unfold revokeStarved
  split
  · next old hold =>
    refine if_neg fun he => ?_
    rcases h with h | h
    · rw [h] at hold
      cases hold
    · exact h he.symm
  · rfl

theorem starved_displaces {old : Port} (hl : l = s.lead c) (ho : (s.auRec l).holder = some old)
    (he : e = some (s.auRec l).epoch) :
    performReaction ⟨.starved, .channel c, first, n, e⟩ s = broadcast .fault (displace l old s) := by
  subst hl
  show broadcast .fault (revokeStarved (s.lead c) e s) = _
  congr 1
  unfold revokeStarved
  rw [ho]
  exact if_pos he.symm

end

/-! ### PORT_SILENT (07, R146) -/

section

variable {l : Chan} {p q : Port} {s : State}

theorem portSilent_displaced {ws : List Claim} (hs : s.served l = true) (hh : (s.auRec l).holder = some p)
    (hws : ws = (s.auRec l).waiting.filter fun x => decide (x.port ≠ p)) :
    (portSilentReaction p s).queue l = { s.queue l with entries := [], gap := 0, starved := false } ∧
    ((portSilentReaction p s).port p).summary.getLsbD NoticeKind.authority.index = true ∧
    (ws = [] → (portSilentReaction p s).auRec l = ⟨none, none, (s.auRec l).epoch + 1, none, [], none⟩ ∧
      ((portSilentReaction p s).eng l).state = if (s.eng l).state.running then .holding else (s.eng l).state) ∧
    ∀ x rest, ws = x :: rest → ((portSilentReaction p s).eng l).state = (s.eng l).state ∧
      ((portSilentReaction p s).port x.port).summary.getLsbD NoticeKind.authority.index = true ∧
      (portSilentReaction p s).auRec l = ⟨some x.port, some (s.rank x.port), (s.auRec l).epoch + 1, none, rest,
        if (s.eng l).state.running then some ⟨some p, x.port, s.periods s.consts.handoverMs⟩
        else (s.auRec l).handover⟩ := by
  obtain ⟨v, framed, auRec, queue, state, framed', same⟩ := portSilent_held hs hh
  obtain ⟨auRec', queue', state'⟩ := same
  rw [← hws] at auRec
  have waiting : (v.auRec l).waiting = ws := by rw [auRec]
  have holder : (v.auRec l).holder = some p := by rw [auRec]; exact hh
  have epoch : (v.auRec l).epoch = (s.auRec l).epoch := by rw [auRec]
  have handover : (v.auRec l).handover = (s.auRec l).handover := by rw [auRec]
  refine ⟨?_, framed'.heard (displace_told p v), fun hw => ⟨?_, ?_⟩, fun x rest hw => ⟨?_, ?_, ?_⟩⟩
  · rw [queue', displace_queue, if_pos rfl, queue]
    rfl
  · rw [auRec', displace_free p (waiting.trans hw), epoch]
  · rw [state', displace_state, state]
    exact ite_of_iff ⟨fun h => h.2.2, fun h => ⟨rfl, waiting.trans hw, h⟩⟩
  · have some : (v.auRec l).waiting ≠ [] := by
      rw [waiting, hw]
      exact List.cons_ne_nil _ _
    rw [state', displace_state, if_neg fun h => some h.2.1, state]
  · exact framed'.heard (displace_toldHead p (waiting.trans hw))
  · rw [auRec', displace_installed p (waiting.trans hw), epoch, holder, handover, state]
    unfold State.rank State.periods
    rw [framed.consts]

theorem revokePortFroms_env (p : Port) (g : List Chan) (l : Chan) (s : State) : (revokePortFroms p g s).env l = s.env l := by
  rw [State.env, revokePortFroms_envs, State.env]

theorem portSilent_envKept (h : ∀ x, (s.env l).proposal = some x → x.proposer ≠ p) :
    (portSilentReaction p s).env l = s.env l := by
  rw [portSilentReaction_env, withdrawn_other, revokePortFroms_env]
  rw [revokePortFroms_env]
  exact h

theorem portSilent_withdrawn {x : Proposal} (hx : (s.env l).proposal = some x) (hp : x.proposer = p) :
    (portSilentReaction p s).env l =
      { s.env l with proposal := none, last := some ⟨p, x.number, .withdrawn, s.period⟩ } ∧
    ((portSilentReaction p s).port p).summary.getLsbD NoticeKind.proposalResult.index = true ∧
    ((portSilentReaction p s).port s.safetyPort).summary.getLsbD NoticeKind.proposal.index = true := by
  obtain ⟨env, result, withdrawal⟩ :=
    withdrawn_own (p := p) ((congrArg (·.proposal) (revokePortFroms_env p allChans l s)).trans hx) hp
  have framed : (withdrawProposals p allChans (revokePortFroms p allChans s)).framed (portSilentReaction p s) :=
    broadcast_framed _ _
  rw [revokePortFroms_env, revokePortFroms_period] at env
  rw [revokePortFroms_safetyPort] at withdrawal
  exact ⟨(portSilentReaction_env p l s).trans env, framed.heard result, framed.heard withdrawal⟩

theorem portSilent_told (h : (s.port q).subscribes .fault = true) :
    ((portSilentReaction p s).port q).summary.getLsbD NoticeKind.fault.index = true := by
  have framed := (revokePortFroms_framed s p allChans).trans (withdrawProposals_framed _ p allChans)
  exact broadcast_told ((framed.subscribes q .fault).trans h)

end

/-- Settles O6. -/
theorem takingTakesInOrderUntilNothingIsTakeable : Obligations.TakingTakesInOrderUntilNothingIsTakeable := by
  refine ⟨⟨fun s h => takeReactions_of_quiet h, fun s before after x hi hp hb hx => ?taken⟩, takeReactions_quieted,
    fun _ _ _ _ => keyOrder_lt, fun x y before after h => ⟨fun hk hs => ?merges, fun ha => ?joins⟩,
    fun k first n e s => ⟨fun sc ho => takeable_severe ho, fun c ho => ?channel, fun p ho => ?port⟩,
    fun _ _ _ _ => rfl, fun k sc e s x _ ho hp hx => ⟨reportOrdinary_taken ho hp hx, reportOrdinary_waits hp hx⟩,
    fun c first n e s => ⟨rfl, rfl, fun l hl => ⟨starved_passed hl, fun old ho he => ⟨fun hw => ?revoked,
      fun x rest hw => ?installed⟩⟩⟩,
    fun p first n e s t ht => ⟨fun l ws hws => ⟨fun hs => ?notServed, fun hs hh => ?notHeld, fun hs hh => ?held⟩,
      fun l => ⟨fun h => ?kept, fun x hx hp => ?withdrawn⟩, fun q hq => ?told⟩⟩
  case taken =>
    have first : takeFirst s.takeable s.react.pendingSet = some (x, before ++ after) := by
      rw [hp]
      exact takeFirst_append hx hb
    exact takeReactions_taken hi first
  case merges => rw [insertPending_append _ h, insertPending_merges after hk hs]
  case joins => rw [insertPending_append _ h, insertPending_first ha]
  case channel => exact (takeable_ordinary_iff ho).trans (and_congr_right' handoverHolds_eq_false_iff)
  case port => exact (takeable_ordinary_iff ho).trans (and_congr_right' deferred_port_eq_false_iff)
  case revoked => rw [starved_displaces hl ho he, displace_empty old hw]
  case installed => rw [starved_displaces hl ho he, displace_waiting old hw]
  all_goals obtain rfl : t = portSilentReaction p s := ht
  case notServed => exact portSilent_notServed hs
  case notHeld => exact hws ▸ portSilent_notHeld hs hh
  case held => exact portSilent_displaced hs hh hws
  case kept => exact portSilent_envKept h
  case withdrawn => exact portSilent_withdrawn hx hp
  case told => exact portSilent_told hq

end Sys2Proof.Machine


namespace Sys2Proof.Machine

/-! ### A change of link state in OPERATING (05, R95, R111; 01, R5) -/

theorem setBudget_budget (b : Nat) (s : State) : (setBudget b s).allot.budget = b := by
  unfold setBudget
  split
  · next h => exact h.symm
  · rfl

section

variable {x : LinkState} {s t : State}

theorem enterLink_link (x : LinkState) (s : State) :
    (enterLink x s).link = { s.link with state := x, timer := linkTimerOf s.consts x } := by
  rw [enterLink, gateSyncs_link]

theorem enterLink_gatesOk (x : LinkState) (s : State) : (enterLink x s).gatesOk :=
  gateSyncs_gatesOk _ _ fun c hc => absurd (mem_allChans c) hc

theorem changeLink_gatesOk (x : LinkState) (s : State) : (changeLink x s).gatesOk :=
  keptMoves_gates.kept.handLinkState (enterLink_gatesOk x s)

/-- Out of READY no gate is on. -/
theorem gateEnable_off (h : s.gatesOk) (hl : s.link.state ≠ .ready) (c : Chan) : (s.eng c).gateEnable = false := by
  rw [h c, State.gateValue, decide_eq_false hl, Bool.and_false]

theorem gateEnable_ready (h : s.gatesOk) (hl : s.link.state = .ready) (c : Chan) :
    (s.eng c).gateEnable = (s.present c && (s.chState c).driving) := by
  rw [h c, State.gateValue, decide_eq_true hl, Bool.and_true]

/-- The state whose budget is set once a new link state has been announced and reported. -/
def State.linkReported (s : State) : State :=
  if s.link.state = .discharged then reportDischarged (broadcast .linkState s) else broadcast .linkState s

theorem handLinkState_operating (hop : s.phase = .operating) :
    handLinkState s = setBudget (budgetFor s.linkReported.consts s.linkReported.link) s.linkReported :=
  if_neg (inConfig_operating hop)

theorem linkReported_framed (s : State) : (broadcast .linkState s).framed s.linkReported := by
  unfold State.linkReported
  split
  · exact reportDischarged_framed _
  · exact framed_refl _

theorem linkReported_link (s : State) : s.linkReported.link = s.link := by
  unfold State.linkReported
  split
  · rw [reportDischarged_link, broadcast_link]
  · rw [broadcast_link]

theorem linkReported_consts (s : State) : s.linkReported.consts = s.consts := (linkReported_framed s).consts

theorem handLinkState_budget (hop : s.phase = .operating) :
    (handLinkState s).allot.budget = budgetFor s.consts s.link := by
  rw [handLinkState_operating hop, setBudget_budget, linkReported_link, linkReported_consts]

theorem handLinkState_told (hop : s.phase = .operating) {q : Port} (h : (s.port q).subscribes .linkState = true) :
    ((handLinkState s).port q).summary.getLsbD NoticeKind.linkState.index = true := by
  rw [handLinkState_operating hop]
  exact ((linkReported_framed s).trans (setBudget_framed _ _)).heard (broadcast_told h)

theorem enterLink_operating (h : s.phase = .operating) : (enterLink x s).phase = .operating := by rw [enterLink_phase, h]

theorem changeLink_budget (hop : s.phase = .operating) :
    (changeLink x s).allot.budget = budgetFor s.consts (changeLink x s).link := by
  rw [changeLink, handLinkState_budget (enterLink_operating hop), handLinkState_link, enterLink_consts]

theorem budgetFor_ready {k : Constants} {b : LinkBlock} {d : SupplyData} (hl : b.state = .ready) (hs : b.supply = some d) :
    budgetFor k b = min k.linkRating d.available := by
  unfold budgetFor
  rw [hl, hs]

theorem budgetFor_none {k : Constants} {b : LinkBlock} (h : b.state ≠ .ready ∨ b.supply = none) : budgetFor k b = 0 := by
  unfold budgetFor
  split
  · next hl =>
    rw [h.resolve_left (not_not_intro hl)]
  all_goals rfl

theorem changeLink_supply : (changeLink x s).link.supply = s.link.supply := by rw [changeLink_link]

theorem changeLink_told (hop : s.phase = .operating) {q : Port} (h : (s.port q).subscribes .linkState = true) :
    ((changeLink x s).port q).summary.getLsbD NoticeKind.linkState.index = true :=
  handLinkState_told (enterLink_operating hop) (((enterLink_framed s x).subscribes q _).trans h)

end

/-! ### The discrete outputs (05, R95; 07, R140; 01, R5; 10, R177) -/

theorem brk_iff {l c : Chan} {s : State} (hf : s.consts.isFollower l = false) (hc : c ∈ s.group l) :
    s.brk c = true ↔ (s.eng l).state = .releasing ∨ (s.eng l).state = .run := by
  have lead : s.lead c = l := lead_of_mem_group hf hc
  unfold State.brk State.chState
  rw [lead]
  cases (s.eng l).state <;> simp [ChState.running]

theorem nl_iff {p : Port} {s : State} : s.nl p = true ↔ (s.port p).summary ≠ 0 ∨ (s.port p).notice ≠ none := by
  rw [State.nl, Bool.or_eq_true, decide_eq_true_eq, Option.isSome_iff_ne_none]

/-- Settles O7. -/
theorem linkChangeMovesGatesAndBudget : Obligations.LinkChangeMovesGatesAndBudget := by
  refine ⟨fun x s t hop ht => ?changed, fun s => ⟨?prechg, ?main, ?rdy, ?standby, fun l c => brk_iff, fun p => nl_iff⟩⟩
  case changed =>
    rw [ht]
    have gates := changeLink_gatesOk x s
    have consts : (changeLink x s).consts = s.consts := (changeLink_framed s x).consts
    refine ⟨?link, gates, ?budget, fun hx c => ?on, fun hx c => ?off, fun q => ?told, ?frame⟩
    case link =>
      rw [changeLink_link]
      cases x <;> rfl
    case budget =>
      rw [changeLink_budget hop]
      split
      · next d hd => exact budgetFor_ready (changeLink_state _ s) (changeLink_supply.trans hd)
      · next hn =>
        refine budgetFor_none ?_
        rw [changeLink_state, changeLink_supply]
        exact Classical.or_iff_not_imp_left.mpr fun hx => Option.eq_none_iff_forall_ne_some.mpr fun d => hn d (Classical.not_not.mp hx)
    case told => exact changeLink_told hop
    case frame => exact (changeLink_framed s x).frame
    case on =>
      rw [gateEnable_ready gates ((changeLink_state x s).trans hx), State.present, consts]
      rfl
    case off => exact gateEnable_off gates (fun ready => hx ((changeLink_state x s).symm.trans ready)) c
  case prechg => rw [State.prechg, Bool.or_eq_true, decide_eq_true_eq, decide_eq_true_eq]
  case main => simp only [State.main, Bool.or_eq_true, decide_eq_true_eq, or_assoc]
  case rdy => rw [State.rdy, Bool.and_eq_true, decide_eq_true_eq, Bool.not_eq_true']
  case standby => rw [State.standby, decide_eq_true_eq]

end Sys2Proof.Machine


namespace Sys2Proof.Machine

/-! ### A channel that reactions pass by (07, R137; 01, R11)

Reactions move a running channel only. Of the other engines they write the marks and what follows the gate. -/

/-- An engine without its gate, its marks and its trip record. -/
def Engine.course (e : Engine) : Engine :=
  { e with
    gateEnable := false, lastDraw := 0, lastDuties := Duties.zero, brakeMark := false, derate := false, trip := none
    holdFault := false }

theorem Engine.course_gated (e : Engine) (on : Bool) : (e.gated on).course = e.course := by
  unfold Engine.gated
  split <;> rfl

theorem Engine.trip_gated (e : Engine) (on : Bool) : (e.gated on).trip = e.trip := by
  unfold Engine.gated
  split <;> rfl

/-- The engine of `c` holds its course, a flushed queue there stays empty, and no trip record changes. -/
def State.still (c : Chan) (s t : State) : Prop :=
  (t.eng c).course = (s.eng c).course ∧ ((s.queue c).entries = [] → (t.queue c).entries = []) ∧
    ∀ d, (t.eng d).trip = (s.eng d).trip

section

variable {c l : Chan} {s t u : State}

theorem State.still.trans (h : s.still c t) (h' : t.still c u) : s.still c u := by
  obtain ⟨course, empty, trip⟩ := h
  obtain ⟨course', empty', trip'⟩ := h'
  exact ⟨course'.trans course, fun hq => empty' (empty hq), fun d => (trip' d).trans (trip d)⟩

theorem still_refl (c : Chan) (s : State) : s.still c s := ⟨rfl, id, fun _ => rfl⟩

theorem still_of_eq (he : t.engines = s.engines) (hq : t.queues = s.queues) : s.still c t := by
  unfold State.still State.eng State.queue
  rw [he, hq]
  exact ⟨rfl, id, fun _ => rfl⟩

theorem State.still.state (h : s.still c t) : (t.eng c).state = (s.eng c).state := (congrArg Engine.state h.1 :)
theorem State.still.timer (h : s.still c t) : (t.eng c).timer = (s.eng c).timer := (congrArg Engine.timer h.1 :)
theorem State.still.active (h : s.still c t) : (t.eng c).active = (s.eng c).active := (congrArg Engine.active h.1 :)
theorem State.still.idTarget (h : s.still c t) : (t.eng c).idTarget = (s.eng c).idTarget := (congrArg Engine.idTarget h.1 :)
theorem State.still.rampStart (h : s.still c t) : (t.eng c).rampStart = (s.eng c).rampStart := (congrArg Engine.rampStart h.1 :)
theorem State.still.rampTotal (h : s.still c t) : (t.eng c).rampTotal = (s.eng c).rampTotal := (congrArg Engine.rampTotal h.1 :)

/-! #### Moves -/

theorem moveGroup_trip (l : Chan) (new : ChState) (timer : Option Nat) (s : State) (d : Chan) :
    ((moveGroup l new timer s).eng d).trip = (s.eng d).trip :=
  moveGroup_field Engine.trip Engine.trip_gated (fun _ _ _ => rfl) l new timer s d

theorem moveGroup_course (l : Chan) (new : ChState) (timer : Option Nat) (s : State) (c : Chan) :
    ((moveGroup l new timer s).eng c).course =
      if l = c then { (s.eng l).course with state := new, timer := timer } else (s.eng c).course := by
  unfold State.eng
  rw [moveGroup_engines, gateSyncs_field Engine.course Engine.course_gated, vget_vset]
  split <;> rfl

/-- A move passes by the channels of other groups' leaders. -/
theorem moveGroup_still (new : ChState) (timer : Option Nat) (s : State) (h : l ≠ c) : s.still c (moveGroup l new timer s) := by
  refine ⟨?_, fun hq => ?_, moveGroup_trip l new timer s⟩
  · rw [moveGroup_course, if_neg h]
  · rw [State.queue, moveGroup_queues]
    exact hq

theorem engine_still {e : Engine} (he : l = c → e.course = (s.eng l).course) (ht : e.trip = (s.eng l).trip) :
    s.still c { s with engines := vset s.engines l e } := by
  refine ⟨?_, id, fun d => ?_⟩
  · refine (congrArg Engine.course (vget_vset s.engines l c e)).trans ?_
    split
    · next h => rw [he h, h]
    · rfl
  · refine (congrArg Engine.trip (vget_vset s.engines l d e)).trans ?_
    split
    · next h => rw [ht, h]
    · rfl

theorem queues_still {v : Vector DemandQueue 8} (h : ∀ d, (s.queue d).entries = [] → (vget v d).entries = []) :
    s.still c { s with queues := v } := ⟨rfl, h c, fun _ => rfl⟩

theorem flushQueue_still (l : Chan) (s : State) : s.still c (flushQueue l s) := by
  refine queues_still fun d hd => ?_
  rw [vget_vset]
  split
  · rfl
  · exact hd

theorem flushAll_still (s : State) : s.still c (flushAll s) := by
  refine queues_still fun d hd => ?_
  rw [vget_vmap_chans]
  split
  · rfl
  · exact hd

/-! #### Changes of holder -/

theorem toHolding_still (s : State) (h : l ≠ c) : s.still c (toHolding l s) :=
  (flushQueue_still l s).trans (moveGroup_still _ _ _ h)

theorem passed_still (r : AuthRecord) (s : State) : s.still c { s with
    auth := vset s.auth l r, queues := vset s.queues l (s.queue l).passed } := by
  refine ⟨rfl, fun hq => ?_, fun _ => rfl⟩
  refine (congrArg DemandQueue.entries (vget_vset s.queues l c _)).trans ?_
  split
  · rfl
  · exact hq

/-- A channel that loses its holder is moved only if it runs. -/
theorem changeHolder_still (l : Chan) (new : Option Port) (hc : (s.eng c).state.running = false) :
    s.still c (changeHolder l new s) := by
  have passed := passed_still (c := c) (heldBy s l new) (l := l) s
  unfold changeHolder
  dsimp only
  split
  · next h =>
    have other : l ≠ c := by
      rintro rfl
      rw [hc, Bool.and_false] at h
      exact Bool.false_ne_true h
    exact passed.trans (toHolding_still _ other)
  · exact passed

theorem installHead_still (l : Chan) (hc : (s.eng c).state.running = false) : s.still c (installHead l s) := by
  rw [installHead_eq]
  exact (still_of_eq (t := { s with auth := _ }) rfl rfl).trans (changeHolder_still (s := { s with auth := _ }) l _ hc)

theorem displace_still (l : Chan) (old : Port) (hc : (s.eng c).state.running = false) : s.still c (displace l old s) :=
  (installHead_still l hc).trans (still_of_eq (by simp [displace]) (by simp [displace]))

theorem revokePortFrom_still (p : Port) (l : Chan) (hc : (s.eng c).state.running = false) :
    s.still c (revokePortFrom p l s) := by
  have unclaimed : s.still c (s.unclaimed p l) := still_of_eq rfl rfl
  by_cases hh : (s.auRec l).holder = some p
  · rw [revokePortFrom_held hh]
    exact unclaimed.trans (displace_still l p hc)
  · rw [revokePortFrom_notHeld hh]
    exact unclaimed

/-! #### Reactions -/

/-- What keeps a stopped channel still step by step keeps it still. -/
theorem still_step (h : s.still c t) (hc : (s.eng c).state.running = false)
    (step : (t.eng c).state.running = false → t.still c u) : s.still c u := h.trans (step (h.state ▸ hc))

theorem portSilentReaction_still (p : Port) (hc : (s.eng c).state.running = false) : s.still c (portSilentReaction p s) :=
  (revokePortFroms_induct (s.still c) p (fun l _ hu _ => still_step hu hc (revokePortFrom_still p l)) allChans s
    (still_refl c s)).trans (still_of_eq (by simp [portSilentReaction]) (by simp [portSilentReaction]))

theorem revokeStarved_still (l : Chan) (e : Option W16) (hc : (s.eng c).state.running = false) :
    s.still c (revokeStarved l e s) := by
  unfold revokeStarved
  split
  · split
    · exact displace_still l _ hc
    · exact still_refl c s
  · exact still_refl c s

theorem endSafeStop_still (e : ReactionEnd) (s : State) : s.still c (endSafeStop e s) :=
  still_of_eq (by simp) (by simp)

theorem begun_still (x : PendingEntry) (k : NoticeKind) (s : State) :
    s.still c (broadcast k (flushAll (putInService x s))) := flushAll_still (putInService x s)

theorem beginLinkReaction_still (x : PendingEntry) (s : State) : s.still c (beginLinkReaction x s) := by
  have begun := begun_still (c := c) x .fault s
  have served : s.still c (writeSevere x.kind .link (broadcast .linkState (broadcast .fault (flushAll (putInService x s))))) :=
    begun.trans (still_of_eq (by simp) (by simp))
  unfold beginLinkReaction
  dsimp only
  split
  · exact served.trans (still_of_eq (by simp [endLinkReaction]) (by simp [endLinkReaction]))
  · exact served

theorem beginSafeStop_still (x : PendingEntry) (s : State) : s.still c (beginSafeStop x s) := by
  have served : s.still c (writeSevere .safeStop .all (broadcast .safeState (flushAll (putInService x s)))) :=
    (begun_still (c := c) x .safeState s).trans (still_of_eq (by simp) (by simp))
  unfold beginSafeStop
  dsimp only
  split
  · exact served.trans (endSafeStop_still _ _)
  · exact served

theorem brakeFaultReaction_still (l : Chan) (s : State) : s.still c (brakeFaultReaction l s) := by
  have marked : s.still c { s with engines := vset s.engines l { s.eng l with brakeMark := true } } := engine_still (fun _ => rfl) rfl
  exact (marked.trans (flushQueue_still _ _)).trans (still_of_eq (broadcast_engines _ _) (broadcast_queues _ _))

theorem thermalReaction_still (l : Chan) (s : State) : s.still c (thermalReaction l s) := by
  have marked : s.still c { s with engines := vset s.engines l { s.eng l with derate := true } } := engine_still (fun _ => rfl) rfl
  exact marked.trans (still_of_eq (broadcast_engines _ _) (broadcast_queues _ _))

theorem performReaction_still (x : PendingEntry) (hc : (s.eng c).state.running = false) :
    s.still c (performReaction x s) := by
  unfold performReaction
  split
  · exact beginSafeStop_still x s
  · exact portSilentReaction_still _ hc
  · exact (revokeStarved_still _ _ hc).trans (still_of_eq (broadcast_engines _ _) (broadcast_queues _ _))
  · exact brakeFaultReaction_still _ s
  · exact thermalReaction_still _ s
  case h_11 => exact still_refl c s
  all_goals exact beginLinkReaction_still x s

theorem takeReactions_still (hc : (s.eng c).state.running = false) : s.still c (takeReactions s) :=
  takeReactions_induct (s.still c)
    (fun u x others hu _ _ => still_step hu hc fun h => performReaction_still (s := withPending others u) x h)
    (still_refl c s)

theorem handleStopReport_still (hc : (s.eng c).state.running = false) : s.still c (handleStopReport s).1 := by
  unfold handleStopReport
  split
  · exact takeReactions_still (s := pendReport .safeStop .all none s) hc
  · split
    · exact still_of_eq rfl rfl
    · exact still_of_eq rfl rfl

theorem reportLink_still (k : FaultKind) (hc : (s.eng c).state.running = false) : s.still c (reportLink k s) := by
  have pended (u : State) : u.still c (pendReport k .link none u) := still_of_eq rfl rfl
  unfold reportLink
  split
  · split
    · exact still_step ((endSafeStop_still _ s).trans (pended _)) hc takeReactions_still
    · exact pended s
  · exact still_step (pended s) hc takeReactions_still

end

end Sys2Proof.Machine


namespace Sys2Proof.Machine

/-! ### The assertion of a safe stop (01, R8, R13, R16; 07, R141) -/

section

variable {c l : Chan} {s u : State}

theorem assertStopOn_stoppable (h : (s.eng l).state.stoppable = true) :
    assertStopOn l s = match s.consts.category with
      | .immediate => toOff l s
      | .ramped => toStopping l s := by
  unfold assertStopOn
  split
  case h_5 hs | h_6 hs | h_7 hs => rw [hs] at h; cases h
  all_goals rfl

theorem assertStopOn_stays (h : (s.eng l).state.stoppable = false) : assertStopOn l s = s := by
  unfold assertStopOn
  split
  case h_5 hs | h_6 hs | h_7 hs => rfl
  all_goals next hs => rw [hs] at h; cases h

theorem assertStopOn_immediate (h : (s.eng l).state.stoppable = true) (hk : s.consts.category = .immediate) :
    assertStopOn l s = toOff l s := by
  rw [assertStopOn_stoppable h, hk]

theorem assertStopOn_ramped (h : (s.eng l).state.stoppable = true) (hk : s.consts.category = .ramped) :
    assertStopOn l s = toStopping l s := by
  rw [assertStopOn_stoppable h, hk]

theorem assertStopOn_cases (l : Chan) (s : State) :
    assertStopOn l s = s ∨ assertStopOn l s = toOff l s ∨ assertStopOn l s = toStopping l s := by
  cases hs : (s.eng l).state.stoppable with
  | false => exact .inl (assertStopOn_stays hs)
  | true =>
    cases hk : s.consts.category with
    | immediate => exact .inr (.inl (assertStopOn_immediate hs hk))
    | ramped => exact .inr (.inr (assertStopOn_ramped hs hk))

/-- What every assertion leaves alone. -/
theorem assertStops_same (g : List Chan) (s : State) : (assertStops g s).consts = s.consts ∧
    (assertStops g s).envs = s.envs ∧ (assertStops g s).react = s.react ∧ (assertStops g s).retained = s.retained := by
  refine assertStops_induct (fun u => u.consts = s.consts ∧ u.envs = s.envs ∧ u.react = s.react ∧ u.retained = s.retained)
    (fun l u hu _ => ?_) g s ⟨rfl, rfl, rfl, rfl⟩
  rcases assertStopOn_cases l u with h | h | h
  · rw [h]
    exact hu
  · rw [h, toOff_consts, toOff_envs, toOff_react, toOff_retained]
    exact hu
  · rw [h, toStopping_consts, toStopping_envs, toStopping_react, toStopping_retained]
    exact hu

/-! #### One channel -/

theorem toOff_still (s : State) (h : l ≠ c) : s.still c (toOff l s) := by
  have zeroed : s.still c { s with engines := vset s.engines l { s.eng l with active := (s.eng l).zeroDemand } } :=
    engine_still (fun _ => by contradiction) rfl
  exact zeroed.trans (moveGroup_still _ _ _ h)

theorem toStopping_still (s : State) (h : l ≠ c) : s.still c (toStopping l s) := by
  have started : s.still c (recordStart l (s.periods (s.env l).guarded.stopMs) s) :=
    engine_still (fun he => absurd he h) rfl
  exact (started.trans (flushQueue_still l _)).trans (moveGroup_still _ _ _ h)

theorem assertStopOn_still (s : State) (h : l ≠ c) : s.still c (assertStopOn l s) := by
  rcases assertStopOn_cases l s with he | he | he
  · rw [he]
    exact still_refl c s
  · rw [he]
    exact toOff_still s h
  · rw [he]
    exact toStopping_still s h

theorem assertStops_still : ∀ {g : List Chan} {s : State}, c ∉ g → s.still c (assertStops g s)
  | [], s, _ => still_refl c s
  | l :: rest, s, h => by
    obtain ⟨hl, hrest⟩ := not_or.mp (mt List.mem_cons.mpr h)
    unfold assertStops
    refine State.still.trans ?_ (assertStops_still hrest)
    split
    · exact assertStopOn_still s (Ne.symm hl)
    · exact still_refl c s

theorem assertStops_append (b : List Chan) : ∀ (a : List Chan) (s : State),
    assertStops (a ++ b) s = assertStops b (assertStops a s)
  | [], _ => rfl
  | _ :: rest, _ => assertStops_append b rest _

/-- The assertion handles a served channel once, in a state that has it as it was. -/
theorem asserted_once (s : State) (h : s.served c = true) : ∃ u, s.still c u ∧ u.consts = s.consts ∧ u.envs = s.envs ∧
    (assertStopOn c u).still c (assertStops allChans s) := by
  obtain ⟨before, after, split, hb, ha⟩ := allChans_around c
  obtain ⟨consts, envs, -⟩ := assertStops_same before s
  refine ⟨assertStops before s, assertStops_still hb, consts, envs, ?_⟩
  have served : (assertStops before s).served c = true := by
    rw [State.served, State.present, consts]
    exact h
  rw [split, assertStops_append, assertStops, if_pos served]
  exact assertStops_still ha

theorem toOff_engine (l : Chan) (s : State) : ((toOff l s).eng l).course =
    { (s.eng l).course with state := .off, timer := none, active := ⟨0, (s.eng l).idTarget, 0, 0⟩ } := by
  refine (moveGroup_course _ _ _ _ _).trans ((if_pos rfl).trans ?_)
  rw [State.eng, vget_vset_self]
  rfl

theorem toStopping_engine (l : Chan) (s : State) : ((toStopping l s).eng l).course =
    { (s.eng l).course with
      state := .stopping, timer := some (s.periods (s.env l).guarded.stopMs)
      rampStart := (s.eng l).active, rampTotal := s.periods (s.env l).guarded.stopMs } := by
  refine (moveGroup_course _ _ _ _ _).trans ((if_pos rfl).trans ?_)
  rw [State.eng, flushQueue_engines, recordStart, vget_vset_self]
  rfl

theorem toStopping_empty (l : Chan) (s : State) : ((toStopping l s).queue l).entries = [] := by
  rw [State.queue, toStopping, moveGroup_queues, flushQueue, vget_vset_self]

/-- An engine that has ended IMMEDIATELY. -/
theorem asserted_immediate (h : s.served c = true) (hs : (s.eng c).state.stoppable = true)
    (hk : s.consts.category = .immediate) : ((assertStops allChans s).eng c).state = .off ∧
      ((assertStops allChans s).eng c).timer = none ∧
      ((assertStops allChans s).eng c).active = ⟨0, (s.eng c).idTarget, 0, 0⟩ := by
  obtain ⟨u, same, consts, -, same'⟩ := asserted_once s h
  rw [assertStopOn_immediate (by rw [same.state]; exact hs) (by rw [consts]; exact hk)] at same'
  have ended := toOff_engine c u
  refine ⟨same'.state.trans (congrArg Engine.state ended :), same'.timer.trans (congrArg Engine.timer ended :),
    (same'.active.trans (congrArg Engine.active ended :)).trans ?_⟩
  rw [same.idTarget]

/-- An engine that stops over the stop time. -/
theorem asserted_ramped (h : s.served c = true) (hs : (s.eng c).state.stoppable = true)
    (hk : s.consts.category = .ramped) : ((assertStops allChans s).eng c).state = .stopping ∧
      ((assertStops allChans s).queue c).entries = [] ∧
      ((assertStops allChans s).eng c).rampStart = (s.eng c).active ∧
      ((assertStops allChans s).eng c).rampTotal = s.periods (s.env c).guarded.stopMs ∧
      ((assertStops allChans s).eng c).timer = some (s.periods (s.env c).guarded.stopMs) := by
  obtain ⟨u, same, consts, envs, same'⟩ := asserted_once s h
  rw [assertStopOn_ramped (by rw [same.state]; exact hs) (by rw [consts]; exact hk)] at same'
  have stops := toStopping_engine c u
  have time : u.periods (u.env c).guarded.stopMs = s.periods (s.env c).guarded.stopMs := by
    unfold State.periods State.env
    rw [consts, envs]
  rw [time, same.active] at stops
  exact ⟨same'.state.trans (congrArg Engine.state stops :), same'.2.1 (toStopping_empty c u),
    same'.rampStart.trans (congrArg Engine.rampStart stops :), same'.rampTotal.trans (congrArg Engine.rampTotal stops :),
    same'.timer.trans (congrArg Engine.timer stops :)⟩

theorem asserted_stays (h : s.served c = true) (hs : (s.eng c).state.stoppable = false) :
    s.still c (assertStops allChans s) := by
  obtain ⟨u, same, -, -, same'⟩ := asserted_once s h
  rw [assertStopOn_stays (by rw [same.state]; exact hs)] at same'
  exact same.trans same'

end

end Sys2Proof.Machine


namespace Sys2Proof.Machine

/-! ### The SAFE_STOP report (07, R134, R137, R141, R142, R153) -/

/-- An assertion, written as one pass over the channels. -/
theorem assertStops_foldl {s : State} {step : State → Chan → State}
    (h : ∀ x c, x.consts = s.consts → x.envs = s.envs → step x c = if x.served c then assertStopOn c x else x) :
    ∀ (g : List Chan) (x : State), x.consts = s.consts → x.envs = s.envs → g.foldl step x = assertStops g x
  | [], _, _, _ => rfl
  | c :: rest, x, consts, envs => by
    have next := assertStops_same [c] x
    rw [List.foldl_cons, h x c consts envs]
    exact assertStops_foldl h rest _ (next.1.trans consts) (next.2.1.trans envs)

/-- A severe report is the first of a set of ordinary kinds. -/
theorem insertPending_severe {x : PendingEntry} {l : List PendingEntry} (hx : x.kind.index < 9)
    (h : ∀ y ∈ l, y.kind.ordinary = true) : insertPending x l = x :: l :=
  insertPending_first fun y hy => by
    have := of_decide_eq_true (h y hy)
    exact keyOrder_lt.mpr (.inl (by omega))

/-- With nothing in service, a report that comes first in the set is taken at once. -/
theorem takeReactions_pended {k : FaultKind} {sc : Scope} {s : State} (hi : s.react.inService = none)
    (ho : k.ordinary = false) (hp : insertPending ⟨k, sc, s.period, 1, none⟩ s.react.pendingSet =
      ⟨k, sc, s.period, 1, none⟩ :: s.react.pendingSet) :
    takeReactions (pendReport k sc none s) = takeReactions (performReaction ⟨k, sc, s.period, 1, none⟩ s) := by
  have first : takeFirst (pendReport k sc none s).takeable (pendReport k sc none s).react.pendingSet =
      some (⟨k, sc, s.period, 1, none⟩, s.react.pendingSet) := by
    have pending : (pendReport k sc none s).react.pendingSet =
        ⟨k, sc, s.period, 1, none⟩ :: s.react.pendingSet := hp
    rw [pending]
    exact takeFirst_append (takeable_severe ho) (before := []) (fun _ h => absurd h List.not_mem_nil)
  exact takeReactions_taken (s := pendReport k sc none s) hi first

section

variable {s w u v : State} {h : StopHandling}

theorem handleStopReport_none (hi : w.react.inService = none) :
    handleStopReport w = (takeReactions (pendReport .safeStop .all none w), .taken) := by
  unfold handleStopReport
  rw [hi]

theorem handleStopReport_held {i : InService} (hi : w.react.inService = some i) (hk : i.kind = .safeStop) :
    handleStopReport w = (holdRepeat w, .heldRepeat) := by
  unfold handleStopReport
  rw [hi]
  exact if_pos hk

theorem handleStopReport_pended {i : InService} (hi : w.react.inService = some i) (hk : i.kind ≠ .safeStop) :
    handleStopReport w = (pendReport .safeStop .all none w, .pended) := by
  unfold handleStopReport
  rw [hi]
  exact if_neg hk

theorem holdRepeat_eq {held : Option HeldRepeat} {n : W32} (hh : w.react.held = held) (hn : w.period = n) :
    holdRepeat w = { w with react := { w.react with
      held := some (match (generalizing := false) held with
        | none => ⟨n, 1⟩
        | some x => { x with count := min 255 (x.count + 1) }) } } := by
  subst hh hn
  unfold holdRepeat
  cases w.react.held <;> rfl

/-- No held repeat: the reaction's end is a notice and a record. -/
theorem endSafeStop_notHeld (e : ReactionEnd) (hh : w.react.held = none) :
    endSafeStop e w = broadcast .safeState (endInService .safeStop .all e w) := by
  have held : (broadcast .safeState (endInService .safeStop .all e w)).react.held = none := hh
  unfold endSafeStop releaseHeld
  rw [held]

/-- The reaction as it is put in service (07, R141). -/
abbrev State.stopBegun (w : State) : State :=
  writeSevere .safeStop .all (broadcast .safeState (flushAll (putInService ⟨.safeStop, .all, w.period, 1, none⟩ w)))

theorem stopBegun_noneStopping (w : State) : w.stopBegun.noneStopping = w.noneStopping := rfl

theorem beginSafeStop_lasts (hn : w.noneStopping = false) :
    beginSafeStop ⟨.safeStop, .all, w.period, 1, none⟩ w = w.stopBegun :=
  if_neg (ne_true_of_eq_false ((stopBegun_noneStopping w).trans hn))

theorem beginSafeStop_completes (hn : w.noneStopping = true) :
    beginSafeStop ⟨.safeStop, .all, w.period, 1, none⟩ w = endSafeStop .completed w.stopBegun :=
  if_pos ((stopBegun_noneStopping w).trans hn)

theorem stopReport_taken (hi : w.react.inService = none) (ho : ∀ x ∈ w.react.pendingSet, x.kind.ordinary = true) :
    handleStopReport w = (takeReactions (beginSafeStop ⟨.safeStop, .all, w.period, 1, none⟩ w), .taken) := by
  rw [handleStopReport_none hi]
  exact congrArg (·, StopHandling.taken) (takeReactions_pended hi rfl (insertPending_severe (Nat.le_of_ble_eq_true rfl) ho))

theorem stopReport_lasts (hi : w.react.inService = none) (ho : ∀ x ∈ w.react.pendingSet, x.kind.ordinary = true)
    (hn : w.noneStopping = false) : handleStopReport w = (w.stopBegun, .taken) := by
  rw [stopReport_taken hi ho, beginSafeStop_lasts hn,
    takeReactions_of_quiet (s := w.stopBegun) (quiet_of_inService (i := ⟨.safeStop, .all, w.period, w.period⟩) rfl)]

theorem stopReport_completes (hi : w.react.inService = none) (ho : ∀ x ∈ w.react.pendingSet, x.kind.ordinary = true)
    (hh : w.react.held = none) (hn : w.noneStopping = true) : handleStopReport w =
      (takeReactions (broadcast .safeState (endInService .safeStop .all .completed w.stopBegun)), .taken) := by
  rw [stopReport_taken hi ho, beginSafeStop_completes hn, endSafeStop_notHeld .completed (w := w.stopBegun) hh]

theorem handleStopReport_latch (hl : w.react.latch = true) : (handleStopReport w).1.react.latch = true := by
  have taken {t : State} : t.react.latch = true → (takeReactions t).react.latch = true :=
    keptCounts_latch.toKeptMoves.kept.takeReactions
  unfold handleStopReport
  split
  · exact taken (t := pendReport .safeStop .all none w) hl
  · split
    · exact hl
    · exact hl

end

/-- Settles O9. -/
theorem safeStopEndsEveryDrivingChannel : Obligations.SafeStopEndsEveryDrivingChannel := by
  intro s u w v h detected hw hv
  have asserted : w = assertStops allChans (setLatch true s) := by
    rw [hw]
    refine assertStops_foldl (s := s) (fun x c consts envs => ?_) allChans (setLatch true s) rfl rfl
    have served : x.served c = s.served c := by
      rw [State.served, State.present, consts]
      rfl
    have time : x.periods (x.env c).guarded.stopMs = s.periods (s.env c).guarded.stopMs := by
      unfold State.periods State.env
      rw [consts, envs]
    rw [served]
    cases hs : s.served c with
    | false => rfl
    | true =>
      cases hst : (x.eng c).state.stoppable with
      | false => exact (assertStopOn_stays hst).symm
      | true =>
        rw [if_pos ⟨rfl, rfl⟩, if_pos rfl]
        split
        · next hk => exact (assertStopOn_immediate hst (consts ▸ hk)).symm
        · next hk =>
          rw [assertStopOn_ramped hst (consts ▸ hk), toStopping]
          dsimp only
          rw [time]
          rfl
  clear hw
  obtain ⟨consts, envs, react, retained⟩ := assertStops_same allChans (setLatch true s)
  have period : w.period = s.period := by rw [asserted, assertStops_period]; rfl
  rw [← asserted] at consts envs react retained
  have inService : w.react.inService = s.react.inService := by rw [react]; rfl
  have held : w.react.held = s.react.held := by rw [react]; rfl
  have pending : w.react.pendingSet = s.react.pendingSet := by rw [react]; rfl
  have begun : w.stopBegun = v := by
    have present (c : Chan) : s.present c = w.present c := by
      rw [State.present, State.present, consts]
      rfl
    have kept : w.retained = s.retained := retained
    rw [hv, ← period, ← kept]
    simp only [present]
    rfl
  have begunPeriod : v.period = s.period := by rw [← begun, ← period]; rfl
  have handled : handleStopReport w = (u, h) := asserted ▸ detected
  have left : u = (handleStopReport w).1 := (congrArg Prod.fst handled).symm
  refine ⟨?latch, fun c hc => ⟨fun hs => ⟨fun hk => ?immediate, fun hk => ?ramped⟩, fun hs => ?stays⟩,
    fun i hi => ⟨fun hk => ?held, fun hk => ?pended⟩, fun hi => ⟨?taken, fun hh ho => ⟨fun hn => ?lasts, fun hn => ?completes⟩⟩, ?frame⟩
  case latch =>
    rw [left]
    exact handleStopReport_latch (by rw [react]; rfl)
  case immediate =>
    obtain ⟨state, timer, active⟩ := asserted_immediate (s := setLatch true s) hc hs hk
    rw [← asserted] at state timer active
    have still : w.still c u := left ▸ handleStopReport_still (by rw [state]; rfl)
    exact ⟨still.state.trans state, still.timer.trans timer, still.active.trans active⟩
  case ramped =>
    obtain ⟨state, empty, start, total, timer⟩ := asserted_ramped (s := setLatch true s) hc hs hk
    rw [← asserted] at state empty start total timer
    have still : w.still c u := left ▸ handleStopReport_still (by rw [state]; rfl)
    exact ⟨still.state.trans state, still.2.1 empty, still.rampStart.trans start, still.rampTotal.trans total,
      still.timer.trans timer⟩
  case stays =>
    have stays := asserted_stays (s := setLatch true s) hc hs
    rw [← asserted] at stays
    have stopped : (w.eng c).state.running = false := by
      rw [stays.state]
      exact Bool.eq_false_iff.mpr fun hr => Bool.false_ne_true (hs.symm.trans (ChState.stoppable_of_running hr))
    have still : w.still c u := left ▸ handleStopReport_still stopped
    exact ⟨still.state.trans stays.state, still.timer.trans stays.timer⟩
  case held =>
    have repeated := (handleStopReport_held (inService.trans hi) hk).symm.trans handled
    exact ⟨(congrArg Prod.snd repeated).symm, (congrArg Prod.fst repeated).symm.trans (holdRepeat_eq held period)⟩
  case pended =>
    have pended := (handleStopReport_pended (inService.trans hi) hk).symm.trans handled
    refine ⟨(congrArg Prod.snd pended).symm, (congrArg Prod.fst pended).symm.trans ?_⟩
    rw [pendReport, pending, period]
  case taken =>
    exact ((congrArg Prod.snd (handleStopReport_none (inService.trans hi))).symm.trans (congrArg Prod.snd handled)).symm
  case lasts =>
    rw [left, stopReport_lasts (inService.trans hi) (pending ▸ ho) hn, begun]
  case completes =>
    rw [left, stopReport_completes (inService.trans hi) (pending ▸ ho) (held.trans hh) hn, begun,
      endInService, begunPeriod]
  case frame =>
    have framed := detectSafeStop_framed s
    rw [detected] at framed
    exact framed.frame

end Sys2Proof.Machine


namespace Sys2Proof.Machine

/-! ### What every taking keeps (07, R137)

`Reacts P` lists the writes that reactions are made of. A property that they keep, a taking keeps. -/

structure Reacts (P : State → Prop) : Prop where
  write : ∀ {s : State} (auth : Vector AuthRecord 8) (queues : Vector DemandQueue 8) (ports : Vector PortBlock 4)
    (react : ReactionBlock) (retained : Retained), P s →
    P { s with auth := auth, queues := queues, ports := ports, react := react, retained := retained }
  envs : ∀ {s : State} (v : Vector Envelope 8),
    (∀ c, (vget v c).guarded = (vget s.envs c).guarded ∧ (vget v c).opens = (vget s.envs c).opens) → P s →
    P { s with envs := v }
  brakeMark : ∀ {s : State} (c : Chan), P s → P { s with engines := vset s.engines c { s.eng c with brakeMark := true } }
  derate : ∀ {s : State} (c : Chan), P s → P { s with engines := vset s.engines c { s.eng c with derate := true } }
  hold : ∀ {s : State} (l : Chan) (timer : Option Nat), (s.eng l).state.running = true → P s →
    P (moveGroup l .holding timer s)

section

variable {P : State → Prop} (K : Reacts P)
include K

theorem Reacts.react {s : State} (r : ReactionBlock) (h : P s) : P { s with react := r } := K.write _ _ _ r _ h

theorem Reacts.queues {s : State} (v : Vector DemandQueue 8) (h : P s) : P { s with queues := v } := K.write _ v _ _ _ h

theorem Reacts.auth {s : State} (v : Vector AuthRecord 8) (h : P s) : P { s with auth := v } := K.write v _ _ _ _ h

theorem Reacts.broadcast {s : State} (k : NoticeKind) (h : P s) : P (broadcast k s) := K.write _ _ _ _ _ h

theorem Reacts.handTo {s : State} (p : Port) (k : NoticeKind) (h : P s) : P (handTo p k s) := K.write _ _ _ _ _ h

theorem Reacts.writeSevere {s : State} (k : FaultKind) (sc : Scope) (h : P s) : P (writeSevere k sc s) :=
  K.write _ _ _ _ _ h

theorem Reacts.flushQueue {s : State} (c : Chan) (h : P s) : P (flushQueue c s) := K.queues _ h

theorem Reacts.flushAll {s : State} (h : P s) : P (flushAll s) := K.queues _ h

/-! #### Authority and proposals -/

theorem Reacts.changeHolder {s : State} (l : Chan) (new : Option Port) (h : P s) : P (changeHolder l new s) := by
  have held : P { s with auth := vset s.auth l (heldBy s l new), queues := vset s.queues l (s.queue l).passed } :=
    K.write _ _ _ _ _ h
  unfold Machine.changeHolder
  dsimp only
  split
  · next hr =>
    rw [Bool.and_eq_true] at hr
    exact K.hold l _ hr.2 (K.flushQueue l held)
  · exact held

theorem Reacts.displace {s : State} (l : Chan) (old : Port) (h : P s) : P (displace l old s) := by
  have installed : P (installHead l s) := by
    rw [installHead_eq]
    exact K.changeHolder l _ (K.auth _ h)
  unfold Machine.displace noticeHolder
  split
  · exact K.handTo _ _ (K.handTo _ _ installed)
  · exact K.handTo _ _ installed

theorem Reacts.revokePortFrom {s : State} (p : Port) (l : Chan) (h : P s) : P (revokePortFrom p l s) := by
  have unclaimed : P (s.unclaimed p l) := K.auth _ h
  by_cases hh : (s.auRec l).holder = some p
  · rw [revokePortFrom_held hh]
    exact K.displace l p unclaimed
  · rw [revokePortFrom_notHeld hh]
    exact unclaimed

theorem Reacts.revokeStarved {s : State} (l : Chan) (e : Option W16) (h : P s) : P (revokeStarved l e s) := by
  unfold Machine.revokeStarved
  split
  · split
    · exact K.displace l _ h
    · exact h
  · exact h

theorem Reacts.proposalNotices {s : State} (e : ProposalEnd) (p : Port) (h : P s) : P (proposalNotices e p s) := by
  cases e
  case confirmed | rejected | cancelled => exact K.handTo _ _ h
  case expired | withdrawn => exact K.handTo _ _ (K.handTo _ _ h)

theorem Reacts.endProposal {s : State} (l : Chan) (e : ProposalEnd) (h : P s) : P (endProposal l e s) := by
  unfold Machine.endProposal
  split
  · exact h
  · refine K.proposalNotices e _ (K.envs _ (fun c => ?_) h)
    rw [vget_vset]
    split
    · next hc => exact hc ▸ ⟨rfl, rfl⟩
    · exact ⟨rfl, rfl⟩

/-! #### Reactions and reports -/

theorem Reacts.endSafeStop {s : State} (e : ReactionEnd) (h : P s) : P (endSafeStop e s) := by
  have ended : P (Machine.broadcast .safeState (endInService .safeStop .all e s)) :=
    K.broadcast _ (s := endInService .safeStop .all e s) (K.react _ h)
  unfold Machine.endSafeStop releaseHeld
  split
  · exact ended
  · exact K.react _ ended

theorem Reacts.beginSafeStop {s : State} (x : PendingEntry) (h : P s) : P (beginSafeStop x s) := by
  have begun := K.writeSevere .safeStop .all (K.broadcast .safeState (K.flushAll (s := putInService x s) (K.react _ h)))
  unfold Machine.beginSafeStop
  dsimp only
  split
  · exact K.endSafeStop _ begun
  · exact begun

theorem Reacts.endLinkReaction {s : State} (k : FaultKind) (h : P s) : P (endLinkReaction k s) :=
  K.broadcast _ (s := endInService k .link .completed s) (K.react _ h)

theorem Reacts.beginLinkReaction {s : State} (x : PendingEntry) (h : P s) : P (beginLinkReaction x s) := by
  have begun := K.writeSevere x.kind .link
    (K.broadcast .linkState (K.broadcast .fault (K.flushAll (s := putInService x s) (K.react _ h))))
  unfold Machine.beginLinkReaction
  dsimp only
  split
  · exact K.endLinkReaction _ begun
  · exact begun

theorem Reacts.performReaction {s : State} (x : PendingEntry) (h : P s) : P (performReaction x s) := by
  unfold Machine.performReaction
  split
  · exact K.beginSafeStop x h
  · exact K.broadcast _ (withdrawProposals_induct P _ (fun l _ hu => K.endProposal l _ hu) _ _
      (revokePortFroms_induct P _ (fun l _ hu _ => K.revokePortFrom _ l hu) _ _ h))
  · exact K.broadcast _ (K.revokeStarved _ _ h)
  · exact K.broadcast _ (K.flushQueue _ (K.brakeMark _ h))
  · exact K.broadcast _ (K.derate _ h)
  case h_11 => exact h
  all_goals exact K.beginLinkReaction x h

theorem Reacts.takeReactions {s : State} (h : P s) : P (takeReactions s) :=
  takeReactions_induct P (fun u x others hu _ _ => K.performReaction x (s := withPending others u) (K.react _ hu)) h

theorem Reacts.reportOrdinary {s : State} (k : FaultKind) (sc : Scope) (e : Option W16) (h : P s) :
    P (reportOrdinary k sc e s) := K.takeReactions (s := pendReport k sc e s) (K.react _ h)

theorem Reacts.reportLink {s : State} (k : FaultKind) (h : P s) : P (reportLink k s) := by
  have pended {u : State} (hu : P u) : P (pendReport k .link none u) := K.react _ hu
  unfold Machine.reportLink
  split
  · split
    · exact K.takeReactions (pended (K.endSafeStop _ h))
    · exact pended h
  · exact K.takeReactions (pended h)

theorem Reacts.tripReaction {s : State} (k : FaultKind) (c : Chan) (h : P s) : P (tripReaction k c s) :=
  K.writeSevere _ _ (K.broadcast _ (K.flushQueue _ h))

theorem Reacts.reportDeparture {s : State} (h : P s) : P (reportDeparture s) := by
  unfold Machine.reportDeparture
  split
  · split
    · exact K.takeReactions (K.endSafeStop _ h)
    · exact h
  · exact h

theorem Reacts.reportDischarged {s : State} (h : P s) : P (reportDischarged s) := by
  unfold Machine.reportDischarged
  split
  · split
    · exact K.takeReactions (K.endLinkReaction _ h)
    · exact h
  · exact h

/-- A trip is its entry to TRIPPED and what reacts to it. -/
theorem Reacts.detectTrip {s : State} {k : FaultKind} {c : Chan} {d : Nat} (ht : P (toTripped (s.lead c) k d s)) (h : P s) :
    P (detectTrip k c d s) := by
  have tripped := K.takeReactions ht
  have reacted := K.tripReaction k c tripped
  unfold Machine.detectTrip
  dsimp only
  split
  · exact h
  · split
    · exact K.tripReaction k c (K.reportDeparture tripped)
    · exact K.reportDeparture reacted
  all_goals exact reacted

end

/-! ### Reactions leave the budget (05, R111) -/

theorem moveGroup_budget (l : Chan) (new : ChState) (timer : Option Nat) (s : State) :
    (moveGroup l new timer s).allot.budget = s.allot.budget := by
  rw [moveGroup_eq, broadcast_allot, moved_allot]
  exact gateSyncs_budget _ _

theorem reacts_budget (b : Nat) : Reacts (fun u => u.allot.budget = b) where
  write _ _ _ _ _ h := h
  envs _ _ h := h
  brakeMark _ h := h
  derate _ h := h
  hold l timer _ h := (moveGroup_budget l _ timer _).trans h

/-! ### The trips of a link fault (05, R103; 01, R14, R15) -/

section

variable {c l : Chan} {s t u : State}

/-- The engine, the queue and the trip records of a group are as they were. -/
def State.untouched (c : Chan) (s t : State) : Prop :=
  t.consts = s.consts ∧ (t.eng c).course = (s.eng c).course ∧ t.queue c = s.queue c ∧
    ∀ d ∈ s.group c, (t.eng d).trip = (s.eng d).trip

theorem untouched_refl (c : Chan) (s : State) : s.untouched c s := ⟨rfl, rfl, rfl, fun _ _ => rfl⟩

theorem State.untouched.trans (h : s.untouched c t) (h' : t.untouched c u) : s.untouched c u := by
  obtain ⟨consts, course, queue, trip⟩ := h
  obtain ⟨consts', course', queue', trip'⟩ := h'
  refine ⟨consts'.trans consts, course'.trans course, queue'.trans queue, fun d hd => (trip' d ?_).trans (trip d hd)⟩
  rw [State.group, consts]
  exact hd

theorem fillTrips_course (r : TripRecord) (c : Chan) : ∀ (g : List Chan) (s : State),
    ((fillTrips r g s).eng c).course = (s.eng c).course
  | [], _ => rfl
  | d :: rest, s => by
    refine (fillTrips_course r c rest _).trans ?_
    refine (congrArg Engine.course (vget_vset s.engines d c _)).trans ?_
    split
    · next h => rw [← h]; rfl
    · rfl

theorem fillTrips_trip (r : TripRecord) (d : Chan) : ∀ (g : List Chan) (s : State),
    ((fillTrips r g s).eng d).trip = if d ∈ g then some r else (s.eng d).trip
  | [], _ => (if_neg List.not_mem_nil).symm
  | c :: rest, s => by
    refine (fillTrips_trip r d rest _).trans ?_
    by_cases hr : d ∈ rest
    · rw [if_pos hr, if_pos (List.mem_cons_of_mem _ hr)]
    · rw [if_neg hr]
      refine (congrArg Engine.trip (vget_vset s.engines c d _)).trans ?_
      by_cases hc : c = d
      · rw [if_pos hc, if_pos (hc ▸ List.mem_cons_self)]
      · rw [if_neg hc, if_neg fun h => (List.mem_cons.mp h).elim (fun he => hc he.symm) hr]
        rfl

theorem toTripped_course (l : Chan) (k : FaultKind) (n : Nat) (s : State) (c : Chan) : ((toTripped l k n s).eng c).course =
    if l = c then { (s.eng l).course with state := .tripped, timer := none } else (s.eng c).course := by
  unfold toTripped
  dsimp only
  rw [moveGroup_course, State.eng, State.eng, flushQueue_engines, ← State.eng, ← State.eng, fillTrips_course, fillTrips_course]

theorem toTripped_trip (l : Chan) (k : FaultKind) (n : Nat) (s : State) (d : Chan) : ((toTripped l k n s).eng d).trip =
    if d ∈ s.group l then some ⟨k, s.period, n⟩ else (s.eng d).trip := by
  unfold toTripped
  dsimp only
  rw [moveGroup_trip, State.eng, flushQueue_engines, ← State.eng, fillTrips_trip]

theorem toTripped_queue (l : Chan) (k : FaultKind) (n : Nat) (s : State) (c : Chan) : (toTripped l k n s).queue c =
    if l = c then { s.queue l with entries := [] } else s.queue c := by
  unfold toTripped
  dsimp only
  rw [State.queue, moveGroup_queues, flushQueue, vget_vset, State.queue, fillTrips_queues]
  rfl

/-- A group's trip passes by the others. -/
theorem toTripped_untouched (k : FaultKind) (n : Nat) (hl : s.served l = true) (hc : s.served c = true) (h : l ≠ c) :
    s.untouched c (toTripped l k n s) := by
  have single {d : Chan} (hd : s.served d = true) : s.consts.isFollower d = false := by
    rw [State.served, Bool.and_eq_true, Bool.not_eq_true'] at hd
    exact hd.2
  refine ⟨toTripped_consts _ _ _ _, ?_, ?_, fun d hd => ?_⟩
  · rw [toTripped_course, if_neg h]
  · rw [toTripped_queue, if_neg h]
  · refine (toTripped_trip _ _ _ _ _).trans (if_neg fun hd' => h ?_)
    exact (lead_of_mem_group (single hl) hd').symm.trans (lead_of_mem_group (single hc) hd)

theorem State.untouched.served (h : s.untouched c t) (d : Chan) : t.served d = s.served d := by
  rw [State.served, State.present, h.1]
  rfl

theorem tripDriving_untouched (k : FaultKind) : ∀ {g : List Chan} {s : State}, c ∉ g → s.served c = true →
    s.untouched c (tripDriving k g s)
  | [], s, _, _ => untouched_refl c s
  | l :: rest, s, h, hc => by
    obtain ⟨hl, hrest⟩ := not_or.mp (mt List.mem_cons.mpr h)
    have first : s.untouched c (if s.served l && (s.eng l).state.driving then toTripped l k s.vlink s else s) := by
      split
      · next hs =>
        rw [Bool.and_eq_true] at hs
        exact toTripped_untouched k _ hs.1 hc (Ne.symm hl)
      · exact untouched_refl c s
    exact first.trans (tripDriving_untouched k hrest (by rw [first.served]; exact hc))

theorem tripDriving_append (k : FaultKind) (b : List Chan) : ∀ (a : List Chan) (s : State),
    tripDriving k (a ++ b) s = tripDriving k b (tripDriving k a s)
  | [], _ => rfl
  | _ :: rest, _ => tripDriving_append k b rest _

/-- A driving group trips with the link kind and the link voltage. -/
theorem tripDriving_trips (k : FaultKind) (hc : s.served c = true) (hd : (s.eng c).state.driving = true) :
    ((tripDriving k allChans s).eng c).state = .tripped ∧ ((tripDriving k allChans s).eng c).timer = none ∧
    ((tripDriving k allChans s).queue c).entries = [] ∧
    ∀ d ∈ s.group c, ((tripDriving k allChans s).eng d).trip = some ⟨k, s.period, s.vlink⟩ := by
  obtain ⟨before, after, split, hb, ha⟩ := allChans_around c
  have passed := tripDriving_untouched k hb hc
  obtain ⟨consts, ran, -, -⟩ := id passed
  have state : ((tripDriving k before s).eng c).state = (s.eng c).state := (congrArg Engine.state ran :)
  have vlink : (tripDriving k before s).vlink = s.vlink := by
    unfold State.vlink
    rw [tripDriving_link]
  have drives : ((tripDriving k before s).served c && ((tripDriving k before s).eng c).state.driving) = true := by
    rw [passed.served, hc, state]
    exact hd
  have all : tripDriving k allChans s =
      tripDriving k after (toTripped c k s.vlink (tripDriving k before s)) := by
    rw [split, tripDriving_append, tripDriving, if_pos drives, vlink]
  have group : (tripDriving k before s).group c = s.group c := by rw [State.group, consts]; rfl
  obtain ⟨-, course, queue, trip⟩ := tripDriving_untouched (s := toTripped c k s.vlink (tripDriving k before s)) k ha
    (by rw [State.served, State.present, toTripped_consts]; exact (passed.served c).trans hc)
  rw [toTripped_course, if_pos rfl] at course
  rw [toTripped_queue, if_pos rfl] at queue
  rw [all]
  refine ⟨(congrArg Engine.state course :), (congrArg Engine.timer course :), (congrArg DemandQueue.entries queue :),
    fun d hd => (trip d ?_).trans ?_⟩
  · rw [State.group, toTripped_consts]
    exact (group.symm ▸ hd : d ∈ (tripDriving k before s).group c)
  · rw [toTripped_trip, group, if_pos hd, tripDriving_period]

end

end Sys2Proof.Machine


namespace Sys2Proof.Machine

/-! ### The report of a link kind (07, R134, R138, R142, R143, R153) -/

section

variable {k : FaultKind} {s u : State}

/-- The link reaction as it is put in service. -/
abbrev State.linkBegun (s : State) (k : FaultKind) : State :=
  broadcast .linkState (broadcast .fault { s with
    queues := vmap allChans (fun c q => if s.present c then { q with entries := [] } else q) s.queues
    react := { s.react with inService := some ⟨k, .link, s.period, s.period⟩ }
    retained := { s.retained with severe := some ⟨k, .link, s.period⟩ } })

theorem FaultKind.index_lt_of_isLink {k : FaultKind} (h : k.isLink = true) : k.index < 5 := by
  cases k <;> first | decide | cases h

theorem FaultKind.le_index_of_not_isLink {k : FaultKind} (h : k.isLink = false) : 5 ≤ k.index := by
  cases k <;> first | decide | cases h

/-- A link report is the first of a set without link kinds. -/
theorem insertPending_link {x : PendingEntry} {l : List PendingEntry} (hx : x.kind.isLink = true)
    (h : ∀ y ∈ l, y.kind.isLink = false) : insertPending x l = x :: l :=
  insertPending_first fun y hy => by
    have := FaultKind.index_lt_of_isLink hx
    have := FaultKind.le_index_of_not_isLink (h y hy)
    exact keyOrder_lt.mpr (.inl (by omega))

theorem performReaction_ofLink {x : PendingEntry} (h : x.kind.isLink = true) (s : State) :
    performReaction x s = beginLinkReaction x s := by
  obtain ⟨k, sc, first, n, e⟩ := x
  cases k
  case supplyLost | linkLow | linkHigh | chargeFail | wakeFail => rfl
  all_goals cases h

theorem beginLinkReaction_lasts (hl : s.link.state ≠ .discharged) :
    beginLinkReaction ⟨k, .link, s.period, 1, none⟩ s = s.linkBegun k := by
  refine Eq.trans (if_neg ?_) rfl
  exact hl

/-- With nothing in service and no link kind pending, the reaction is taken at once. -/
theorem linkReport_taken (hk : k.isLink = true) (hl : s.link.state ≠ .discharged) (hi : s.react.inService = none)
    (hp : ∀ x ∈ s.react.pendingSet, x.kind.isLink = false) :
    takeReactions (pendReport k .link none s) = s.linkBegun k := by
  have severe : k.ordinary = false := by cases k <;> first | rfl | cases hk
  rw [takeReactions_pended hi severe (insertPending_link hk hp), performReaction_ofLink hk, beginLinkReaction_lasts hl]
  exact takeReactions_of_quiet (quiet_of_inService (i := ⟨k, .link, s.period, s.period⟩) rfl)

theorem reportLink_none (hi : s.react.inService = none) : reportLink k s = takeReactions (pendReport k .link none s) := by
  unfold reportLink
  rw [hi]

theorem reportLink_overtakes {i : InService} (hi : s.react.inService = some i) (hs : i.kind = .safeStop) :
    reportLink k s = takeReactions (pendReport k .link none (endSafeStop .overtaken s)) := by
  unfold reportLink
  rw [hi]
  exact if_pos hs

theorem reportLink_pended {i : InService} (hi : s.react.inService = some i) (hs : i.kind ≠ .safeStop) :
    reportLink k s = pendReport k .link none s := by
  unfold reportLink
  rw [hi]
  exact if_neg hs

theorem ReactionBlock.notHeld {r : ReactionBlock} (x : Option LastEnded) (h : r.held = none) :
    { r with inService := none, lastEnded := x } = { r with inService := none, lastEnded := x, held := none } := by
  cases r
  cases h
  rfl

/-- The end of a SAFE_STOP reaction, its held repeat joining the set. -/
theorem endSafeStop_eq (e : ReactionEnd) (s : State) :
    endSafeStop e s = broadcast .safeState { s with react := { s.react with
      inService := none, lastEnded := some ⟨.safeStop, .all, e, s.period⟩, held := none
      pendingSet := match s.react.held with
        | none => s.react.pendingSet
        | some h => insertPending ⟨.safeStop, .all, h.first, h.count, none⟩ s.react.pendingSet } } := by
  have held : (broadcast .safeState (endInService .safeStop .all e s)).react.held = s.react.held := rfl
  unfold endSafeStop releaseHeld
  rw [held]
  cases hh : s.react.held with
  | none => exact congrArg (fun r => broadcast .safeState { s with react := r }) (ReactionBlock.notHeld _ hh)
  | some h => rfl

theorem endSafeStop_noLink (e : ReactionEnd) (h : ∀ x ∈ s.react.pendingSet, x.kind.isLink = false) :
    ∀ x ∈ (endSafeStop e s).react.pendingSet, x.kind.isLink = false := by
  rw [endSafeStop_eq, broadcast_react]
  dsimp only
  split
  · exact h
  · intro x hx
    rcases insertPending_key hx with ⟨hk, -⟩ | ⟨z, hz, hk, -⟩
    · rw [hk]
      rfl
    · rw [hk]
      exact h z hz

/-! ### A link fault out of DRAINING (05, R103) -/

/-- The state in which a link fault is reported. -/
def State.faulted (s : State) (k : FaultKind) : State :=
  handLinkState (if s.link.state = .ready then tripDriving k allChans (enterLink .draining s) else enterLink .draining s)

/-- The drained link, its groups tripped. -/
abbrev State.drained (s : State) (k : FaultKind) : State :=
  if s.link.state = .ready then tripDriving k allChans (enterLink .draining s) else enterLink .draining s

theorem linkFault_draining (h : s.link.state = .draining) : linkFault k s = reportLink k s := if_pos h

theorem linkFault_faulted (h : s.link.state ≠ .draining) : linkFault k s = reportLink k (s.faulted k) := if_neg h

theorem drained_link (k : FaultKind) (s : State) : (s.drained k).link = { s.link with state := .draining, timer := none } := by
  have entered : (enterLink .draining s).link = { s.link with state := .draining, timer := none } := enterLink_link _ _
  unfold State.drained
  split
  · rw [tripDriving_link, entered]
  · exact entered

theorem drained_framed (k : FaultKind) (s : State) : s.framed (s.drained k) := by
  unfold State.drained
  split
  · exact (enterLink_framed s _).trans (tripDriving_framed _ k _)
  · exact enterLink_framed s _

theorem tripDriving_react (k : FaultKind) (g : List Chan) (s : State) :
    (tripDriving k g s).react = s.react ∧ (tripDriving k g s).retained = s.retained :=
  tripDriving_induct (fun u => u.react = s.react ∧ u.retained = s.retained) k
    (fun l u hu _ _ => by rw [toTripped_react, toTripped_retained]; exact hu) g s ⟨rfl, rfl⟩

theorem drained_react (k : FaultKind) (s : State) :
    (s.drained k).react = s.react ∧ (s.drained k).retained = s.retained := by
  have entered : (enterLink .draining s).react = s.react ∧ (enterLink .draining s).retained = s.retained :=
    ⟨enterLink_react _ _, enterLink_retained _ _⟩
  unfold State.drained
  split
  · obtain ⟨react, retained⟩ := tripDriving_react k allChans (enterLink .draining s)
    exact ⟨react.trans entered.1, retained.trans entered.2⟩
  · exact entered

theorem drained_gatesOk (k : FaultKind) (s : State) : (s.drained k).gatesOk := by
  unfold State.drained
  split
  · exact tripDriving_induct State.gatesOk k (fun l u hu _ _ => keptMoves_gates.toTripped l k _ hu) _ _
      (enterLink_gatesOk _ s)
  · exact enterLink_gatesOk _ s

/-- In DRAINING the new state is announced, and the budget is 0. -/
theorem faulted_eq (hop : s.phase = .operating) :
    s.faulted k = setBudget 0 (broadcast .linkState (s.drained k)) := by
  obtain ⟨phase, -⟩ := (drained_framed k s).frame
  have link := drained_link k s
  have announced : (s.drained k).linkReported = broadcast .linkState (s.drained k) :=
    if_neg (by rw [link]; exact nofun)
  have none : budgetFor (broadcast .linkState (s.drained k)).consts (broadcast .linkState (s.drained k)).link = 0 := by
    refine budgetFor_none (.inl ?_)
    rw [broadcast_link, link]
    exact nofun
  rw [State.faulted, handLinkState_operating (s := s.drained k) (phase.trans hop), announced, none]

theorem faulted_framed (k : FaultKind) (s : State) : s.framed (s.faulted k) :=
  (drained_framed k s).trans (handLinkState_framed _)

theorem faulted_link (k : FaultKind) (s : State) : (s.faulted k).link = { s.link with state := .draining, timer := none } := by
  rw [State.faulted, handLinkState_link]
  exact drained_link k s

theorem faulted_react (hop : s.phase = .operating) :
    (s.faulted k).react = s.react ∧ (s.faulted k).retained = s.retained := by
  rw [faulted_eq hop, setBudget_react, setBudget_retained, broadcast_react, broadcast_retained]
  exact drained_react k s

theorem faulted_gatesOk (k : FaultKind) (s : State) : (s.faulted k).gatesOk :=
  keptMoves_gates.kept.handLinkState (drained_gatesOk k s)

/-- Out of READY each driving group has tripped. -/
theorem faulted_trips {c : Chan} (hop : s.phase = .operating) (hl : s.link.state = .ready) (hc : s.served c = true)
    (hd : (s.eng c).state.driving = true) : ((s.faulted k).eng c).state = .tripped ∧ ((s.faulted k).eng c).timer = none ∧
    ((s.faulted k).queue c).entries = [] ∧
    ∀ d ∈ s.group c, ((s.faulted k).eng d).trip = some ⟨k, s.period, s.vlink⟩ := by
  have consts : (enterLink .draining s).consts = s.consts := enterLink_consts _ _
  have served : (enterLink .draining s).served c = true := by
    rw [State.served, State.present, consts]
    exact hc
  have drives : ((enterLink .draining s).eng c).state.driving = true := by
    rw [State.eng, enterLink_state]
    exact hd
  have tripped := tripDriving_trips k served drives
  have vlink : (enterLink .draining s).vlink = s.vlink := by rw [State.vlink, enterLink_link]; rfl
  have group : (enterLink .draining s).group c = s.group c := by rw [State.group, consts]; rfl
  rw [vlink, group, enterLink_period] at tripped
  have drained : s.drained k = tripDriving k allChans (enterLink .draining s) := if_pos hl
  have engines : (s.faulted k).engines = (tripDriving k allChans (enterLink .draining s)).engines := by
    rw [faulted_eq hop, setBudget_engines, broadcast_engines, drained]
  have queues : (s.faulted k).queues = (tripDriving k allChans (enterLink .draining s)).queues := by
    rw [faulted_eq hop, setBudget_queues, broadcast_queues, drained]
  unfold State.eng State.queue
  rw [engines, queues]
  exact tripped

end

/-- Settles O8. -/
theorem linkFaultDrainsAndTrips : Obligations.LinkFaultDrainsAndTrips := by
  refine ⟨fun k s t hop hk ht => ⟨fun hl => ?draining, fun hl => ?_⟩, fun k s v t hk hl hp ht => ⟨fun hi hv => ?free,
    fun i hi hs hv => ?overtaken, fun i hi hs => ?pended⟩⟩
  case draining => rw [ht, linkFault_draining hl]
  case free =>
    rw [reportLink_none hi, linkReport_taken hk hl hi hp, ht, hv]
  case overtaken =>
    have ended : endSafeStop .overtaken s = v := (endSafeStop_eq .overtaken s).trans hv.symm
    have link : v.link = s.link := by rw [hv, broadcast_link]
    have idle : v.react.inService = none := by rw [hv, broadcast_react]
    have set : ∀ x ∈ v.react.pendingSet, x.kind.isLink = false := ended ▸ endSafeStop_noLink .overtaken hp
    rw [reportLink_overtakes hi hs, ended, linkReport_taken hk (by rw [link]; exact hl) idle set, ht, hv]
    rfl
  case pended => exact reportLink_pended hi hs
  have left : t = reportLink k (s.faulted k) := ht.trans (linkFault_faulted hl)
  have link := faulted_link k s
  obtain ⟨react, retained⟩ := faulted_react (k := k) hop
  have framed := faulted_framed k s
  refine ⟨?link, ?budget, fun c => ?gate, fun hr c hc hd => ?trips, ⟨s.faulted k, left, link, react, retained, framed.frame⟩,
    fun hi hp => ?taken, ?frame⟩
  case link => rw [left, reportLink_link, link]
  case budget => 
    rw [left]
    exact (reacts_budget 0).reportLink k (by rw [faulted_eq hop, setBudget_budget])
  case gate =>
    have gates : t.gatesOk := left ▸ keptMoves_gates.kept.reportLink hk trivial (faulted_gatesOk k s)
    refine gateEnable_off gates ?_ c
    rw [left, reportLink_link, link]
    exact nofun
  case trips =>
    obtain ⟨state, timer, empty, trip⟩ := faulted_trips (k := k) hop hr hc hd
    have still : (s.faulted k).still c t := left ▸ reportLink_still k (by rw [state]; rfl)
    exact ⟨still.state.trans state, still.timer.trans timer, still.2.1 empty, fun d hm => (still.2.2 d).trans (trip d hm)⟩
  case taken =>
    obtain ⟨-, -, -, -, -, -, period, -⟩ := framed.frame
    have begun : t = (s.faulted k).linkBegun k := by
      rw [left, reportLink_none (by rw [react]; exact hi)]
      refine linkReport_taken hk (by rw [link]; exact nofun) (by rw [react]; exact hi) ?_
      rw [react, hp]
      exact fun x hx => absurd hx List.not_mem_nil
    rw [begun, broadcast_react, broadcast_react, broadcast_retained, broadcast_retained, period, react, hp]
    exact ⟨rfl, rfl, rfl⟩
  case frame =>
    rw [left]
    exact (framed.trans (reportLink_framed _ k)).frame

end Sys2Proof.Machine


namespace Sys2Proof.Machine

/-! ### The arithmetic of the loop (04, R77 to R88) -/

/-! #### Limits -/

theorem clampInt_eq {lo hi : Int} (h : lo ≤ hi) (x : Int) : clampInt lo hi x = max lo (min hi x) := by
  unfold clampInt
  split
  · omega
  · split <;> omega

theorem limitTo_eq (m : Nat) (x : Int) : limitTo m x = max (-(m : Int)) (min m x) := clampInt_eq (by omega) x

theorem limitTo_natAbs (m : Nat) (x : Int) : (limitTo m x).natAbs ≤ m := by
  rw [limitTo_eq]
  omega

theorem clampInt_natAbs {m : Nat} (x : Int) : (clampInt (-(m : Int)) m x).natAbs ≤ m := limitTo_natAbs m x

theorem clampInt_cast {hi : Int} (h : 0 ≤ hi) (x : Int) : ((clampInt 0 hi x).toNat : Int) = max 0 (min hi x) := by
  rw [clampInt_eq h]
  omega

theorem clampInt_toNat {hi : Nat} (x : Int) : (clampInt 0 hi x).toNat ≤ hi := by
  rw [clampInt_eq (by omega)]
  omega

/-! #### The square root rounded down -/

theorem isqrtFrom_spec : ∀ (k n r : Nat), r * r ≤ n → n < (r + 2 ^ k) * (r + 2 ^ k) →
    isqrtFrom k n r * isqrtFrom k n r ≤ n ∧ n < (isqrtFrom k n r + 1) * (isqrtFrom k n r + 1)
  | 0, _, _, hlo, hhi => ⟨hlo, hhi⟩
  | k + 1, n, r, hlo, hhi => by
    unfold isqrtFrom
    split
    · next h =>
      refine isqrtFrom_spec k n _ h ?_
      rw [Nat.pow_succ, Nat.mul_two, ← Nat.add_assoc] at hhi
      exact hhi
    · next h => exact isqrtFrom_spec k n r hlo (Nat.lt_of_not_le h)

theorem isqrt_spec (n : Nat) : isqrt n * isqrt n ≤ n ∧ n < (isqrt n + 1) * (isqrt n + 1) := by
  refine isqrtFrom_spec _ n 0 (Nat.zero_le _) ?_
  rw [Nat.zero_add, ← Nat.pow_add]
  exact Nat.lt_of_lt_of_le Nat.lt_log2_self (Nat.pow_le_pow_right (by decide) (by omega))

/-! #### The targets (04, R83, R84) -/

theorem natAbs_sq_le {m n : Nat} {x : Int} (h : x.natAbs ≤ m) (hm : m * m ≤ n) : x.natAbs * x.natAbs ≤ n :=
  Nat.le_trans (Nat.mul_le_mul h h) hm

/-- What the flux target leaves for the torque target. -/
def peakRoom (peak : Nat) (idD : Int) : Nat :=
  isqrt (peak * peak - (limitTo peak idD).natAbs * (limitTo peak idD).natAbs)

theorem peakRoom_spec (peak : Nat) (idD : Int) :
    (limitTo peak idD).natAbs * (limitTo peak idD).natAbs + peakRoom peak idD * peakRoom peak idD ≤ peak * peak ∧
    peak * peak < (limitTo peak idD).natAbs * (limitTo peak idD).natAbs +
      (peakRoom peak idD + 1) * (peakRoom peak idD + 1) := by
  have root := isqrt_spec (peak * peak - (limitTo peak idD).natAbs * (limitTo peak idD).natAbs)
  have within := natAbs_sq_le (limitTo_natAbs peak idD) (Nat.le_refl _)
  unfold peakRoom
  omega

theorem peakTargets_limited {peak : Nat} {idD iqD : Int} : (peakTargets peak idD iqD).limited = true ↔
    (peakTargets peak idD iqD).idT ≠ idD ∨ (peakTargets peak idD iqD).iqU ≠ iqD := by
  refine (Bool.or_eq_true _ _).to_iff.trans (or_congr decide_eq_true_iff decide_eq_true_iff)

theorem peakTargets_within (peak : Nat) (idD iqD : Int) :
    (peakTargets peak idD iqD).idT.natAbs * (peakTargets peak idD iqD).idT.natAbs +
      (peakTargets peak idD iqD).iqU.natAbs * (peakTargets peak idD iqD).iqU.natAbs ≤ peak * peak := by
  have torque : (peakTargets peak idD iqD).iqU.natAbs * (peakTargets peak idD iqD).iqU.natAbs ≤
      peakRoom peak idD * peakRoom peak idD := natAbs_sq_le (limitTo_natAbs (peakRoom peak idD) iqD) (Nat.le_refl _)
  exact Nat.le_trans (Nat.add_le_add_left torque _) (peakRoom_spec peak idD).1

theorem grantTarget_limits {iqU lastDraw : Int} {grant : Nat} (h : 0 < lastDraw) (hg : (grant : Int) < lastDraw) :
    grantTarget iqU grant lastDraw = ((iqU * grant).tdiv lastDraw, true) := if_pos ⟨h, hg⟩

theorem grantTarget_passes {iqU lastDraw : Int} {grant : Nat} (h : lastDraw ≤ 0 ∨ lastDraw ≤ grant) :
    grantTarget iqU grant lastDraw = (iqU, false) := if_neg (by omega)

theorem grantTarget_natAbs (iqU lastDraw : Int) (grant : Nat) : (grantTarget iqU grant lastDraw).1.natAbs ≤ iqU.natAbs := by
  by_cases h : 0 < lastDraw ∧ (grant : Int) < lastDraw
  · rw [grantTarget_limits h.1 h.2, Int.natAbs_tdiv, Int.natAbs_mul, Int.natAbs_natCast]
    exact Nat.div_le_of_le_mul (Nat.mul_comm iqU.natAbs grant ▸ Nat.mul_le_mul_right _ (by omega))
  · exact Nat.le_of_eq (by rw [grantTarget_passes (by omega)])

theorem grantTarget_unlimited {iqU lastDraw : Int} {grant : Nat} (h : (grantTarget iqU grant lastDraw).2 = false) :
    (grantTarget iqU grant lastDraw).1 = iqU := by
  by_cases hl : 0 < lastDraw ∧ (grant : Int) < lastDraw
  · rw [grantTarget_limits hl.1 hl.2] at h
    cases h
  · rw [grantTarget_passes (by omega)]

/-! #### The duties (04, R86) -/

/-- A whole number is resolved exactly. -/
theorem snapDiv_mul (n : Int) {den : Nat} (h : 0 < den) : snapDiv (n * den) den = n := by
  have pos : (0 : Int) < den := Int.natCast_pos.mpr h
  unfold snapDiv
  generalize snapBits = bits
  have floor : (n * den * (2 ^ (bits + 1) : Nat) + (den : Int)) / (2 * (den : Int)) = n * (2 ^ bits : Nat) := by
    have split : n * den * (2 ^ (bits + 1) : Nat) + (den : Int) = (2 * (n * (2 ^ bits : Nat)) + 1) * den := by
      have double : ((2 ^ (bits + 1) : Nat) : Int) = (2 ^ bits : Nat) * 2 := by rw [Nat.pow_succ, Int.natCast_mul]; rfl
      rw [double, Int.add_mul, Int.one_mul]
      exact congrArg (· + (den : Int)) (by ac_rfl)
    rw [split, Int.mul_ediv_mul_of_pos_left _ _ pos]
    omega
  dsimp only
  rw [floor, Int.mul_tdiv_cancel]
  exact Int.natCast_ne_zero.mpr (Nat.ne_of_gt (Nat.two_pow_pos bits))

theorem dutyOf_le (vlink : Nat) (x : Int) : dutyOf vlink x ≤ 65535 := clampInt_toNat (hi := 65535) _

theorem dutyOf_zero {vlink : Nat} (h : 0 < vlink) : dutyOf vlink 0 = 32768 := by
  have pos : 0 < 4 * voltDen * (fixOne * fixOne * fixOne) * vlink := by
    have one : 0 < fixOne := Nat.two_pow_pos _
    have volt : 0 < voltDen := by decide
    exact Nat.mul_pos (Nat.mul_pos (Nat.mul_pos (by decide) volt) (Nat.mul_pos (Nat.mul_pos one one) one)) h
  unfold dutyOf
  dsimp only
  rw [Int.mul_zero, Int.add_zero, snapDiv_mul 32768 pos]
  rfl

theorem dutiesOf_le (vlink : Nat) (vd vq : Int) (angle : Nat) : (dutiesOf vlink vd vq angle).a ≤ 65535 ∧
    (dutiesOf vlink vd vq angle).b ≤ 65535 ∧ (dutiesOf vlink vd vq angle).c ≤ 65535 :=
  ⟨dutyOf_le _ _, dutyOf_le _ _, dutyOf_le _ _⟩

theorem dutiesOf_zero {vlink : Nat} (h : 0 < vlink) (angle : Nat) : dutiesOf vlink 0 0 angle = ⟨32768, 32768, 32768⟩ := by
  unfold dutiesOf
  simp only [Int.zero_mul, Int.mul_zero, Int.sub_zero, Int.add_zero, Int.neg_zero, Int.max_self, Int.min_self, dutyOf_zero h]

/-! #### The draw and the request (04, R88) -/

theorem voltOver_iff {vlink : Nat} {vd vq : Int} : voltOver vlink vd vq = true ↔
    (577 * vlink * 65536) * (577 * vlink * 65536) < vd.natAbs * vd.natAbs + vq.natAbs * vq.natAbs := decide_eq_true_iff

theorem drawOf_natAbs (vlink : Nat) (vd vq idm iqm : Int) : (drawOf vlink vd vq idm iqm).natAbs ≤ 32767 :=
  clampInt_natAbs (m := 32767) _

theorem drawOf_within {vlink : Nat} {vd vq : Int} (h : voltOver vlink vd vq = false) (idm iqm : Int) :
    drawOf vlink vd vq idm iqm =
      max (-32767) (min 32767 ((15 * (vd * idm + vq * iqm)).tdiv (655360000 * vlink))) := by
  unfold drawOf
  dsimp only
  rw [h, if_neg Bool.false_ne_true, clampInt_eq (by decide)]
  rfl

theorem requestOf_le (draw lastDraw iqU iqT : Int) (l : Bool) : requestOf draw lastDraw iqU iqT l ≤ 32767 :=
  clampInt_toNat (hi := 32767) _

theorem requestOf_base {draw lastDraw iqU iqT : Int} {l : Bool} (h : l = false ∨ iqU = 0) :
    (requestOf draw lastDraw iqU iqT l : Int) = min 32767 (max 0 draw) := by
  have base : (!l || decide (iqU = 0)) = true := by
    rcases h with rfl | rfl
    · rfl
    · exact Bool.or_true _
  unfold requestOf
  dsimp only
  rw [if_pos base, clampInt_cast (by decide)]
  omega

section

variable {draw lastDraw iqU iqT : Int}

theorem not_base (h : iqU ≠ 0) : ¬ (!true || decide (iqU = 0)) = true := by simpa using h

theorem requestOf_scaled (hU : iqU ≠ 0) (hT : iqT ≠ 0) : (requestOf draw lastDraw iqU iqT true : Int) =
    min 32767 ((max 0 draw * iqU.natAbs).tdiv iqT.natAbs) := by
  have nonneg : 0 ≤ (max 0 draw * iqU.natAbs).tdiv iqT.natAbs :=
    Int.tdiv_nonneg (Int.mul_nonneg (by omega) (by omega)) (by omega)
  unfold requestOf
  dsimp only
  rw [if_neg (not_base hU), if_pos hT, clampInt_cast (by decide)]
  omega

theorem requestOf_last (hU : iqU ≠ 0) (hT : iqT = 0) :
    (requestOf draw lastDraw iqU iqT true : Int) = max 0 (min 32767 lastDraw) := by
  unfold requestOf
  dsimp only
  rw [if_neg (not_base hU), if_neg (not_not_intro hT), clampInt_cast (by decide)]

end

/-! #### The integrators, the accumulator, the measured currents, the torque demand (04, R79, R80, R82, R85) -/

theorem integNext_eq (integ error : Int) (ki t : Nat) : integNext integ ki error t = max (-429490176) (min 429490176
    ((integ * 200000000 + ki * error * t * 65536).tdiv 200000000)) := clampInt_eq (by decide) _

theorem heatNext_le (heat ic t : Nat) (idm iqm : Int) : heatNext heat idm iqm ic t ≤ 4294967295 * 65536 :=
  clampInt_toNat (hi := 4294967295 * 65536) _

theorem heatNext_eq (heat ic t : Nat) (idm iqm : Int) : (heatNext heat idm iqm ic t : Int) =
    max 0 (min (4294967295 * 65536)
      ((heat * 20000000000 + (idm * idm + iqm * iqm - ic * ic) * t * 65536).tdiv 20000000000)) := by
  refine (clampInt_cast (hi := heatMax) (by decide) _).trans ?_
  rw [Int.natCast_mul ic ic]
  rfl

theorem measured_natAbs (ia ib : Int) (angle : Nat) :
    (measured ia ib angle).1.natAbs ≤ 32767 ∧ (measured ia ib angle).2.natAbs ≤ 32767 :=
  ⟨clampInt_natAbs (m := 32767) _, clampInt_natAbs (m := 32767) _⟩

section

variable {s : State} {c : Chan} {d : Demand}

theorem torqueDemand_follower (h : s.consts.isFollower c = true) : s.torqueDemand c d = (2 * d.iq - d.split).tdiv 2 := if_pos h

theorem torqueDemand_leader (h : s.consts.isFollower c = false) (hl : s.consts.isLeader c = true) :
    s.torqueDemand c d = (2 * d.iq + d.split).tdiv 2 := by
  unfold State.torqueDemand
  rw [h, hl]
  rfl

theorem torqueDemand_single (h : s.consts.isFollower c = false) (hl : s.consts.isLeader c = false) :
    s.torqueDemand c d = d.iq := by
  unfold State.torqueDemand
  rw [h, hl]
  rfl

end

/-- Settles O19. -/
theorem loopQuantitiesStayInRange : Obligations.LoopQuantitiesStayInRange := by
  refine ⟨fun peak idD iqD t ht => ?targets, fun iqU lastDraw grant => ⟨grantTarget_natAbs _ _ _, grantTarget_unlimited,
      grantTarget_limits, grantTarget_passes⟩,
    fun vlink vd vq angle => ⟨dutyOf_le _ _, dutyOf_le _ _, dutyOf_le _ _, fun h => dutiesOf_zero h angle⟩,
    fun draw lastDraw iqU iqT l => ⟨requestOf_le _ _ _ _ _, requestOf_base, fun hl hU hT => ?scaled, fun hl hU hT => ?last⟩,
    fun vlink vd vq idm iqm => ⟨drawOf_natAbs _ _ _ _ _, voltOver_iff, fun h => drawOf_within h _ _⟩,
    fun integ error ki t => ⟨clampInt_natAbs (m := 429490176) _, integNext_eq _ _ _ _⟩,
    fun heat ic t idm iqm => ⟨heatNext_le _ _ _ _ _, heatNext_eq _ _ _ _ _⟩, measured_natAbs,
    fun s c d => ⟨torqueDemand_follower, torqueDemand_leader, torqueDemand_single⟩,
    fun c angle derate s g o e d t iqT vd vq limited T vlink hg ho he hd hT hlink ht hgrant hvd hvq => ?run⟩
  case targets =>
    subst ht
    refine ⟨peakTargets_within _ _ _, fun h => ?_, limitTo_eq _ _,
      ⟨peakRoom peak idD, (peakRoom_spec peak idD).1, (peakRoom_spec peak idD).2, limitTo_eq _ _⟩, peakTargets_limited⟩
    exact not_or.mp (mt peakTargets_limited.mpr (Bool.eq_false_iff.mp h)) |>.imp Classical.not_not.mp Classical.not_not.mp
  case scaled =>
    subst hl
    exact requestOf_scaled hU hT
  case last =>
    subst hl
    exact requestOf_last hU hT
  case run =>
    subst hg ho he hd hT ht hvd hvq
    obtain rfl : iqT = _ := congrArg Prod.fst hgrant
    obtain rfl : limited = _ := congrArg Prod.snd hgrant
    have voltage : s.vlink = vlink := hlink.symm
    unfold loopRun State.guardedOf
    rw [voltage]
    simp only [axisVoltage, Int.zero_mul, Int.add_zero]

end Sys2Proof.Machine


namespace Sys2Proof.Machine

/-! ### What a sample has kept stays kept (04, R73, R79, R80) -/

/-- An engine with no more than what samples keep of it. -/
def Engine.record (e : Engine) : Engine :=
  { e with
    state := .off, timer := none, holdFault := false, active := ⟨0, 0, 0, 0⟩, rampStart := ⟨0, 0, 0, 0⟩, rampTotal := 0
    gateEnable := false, derate := false, brakeMark := false, trip := none, lastDraw := 0, lastDuties := Duties.zero }

/-- The constants and the channels' sample records stand, a derate mark stays set, and the envelopes' values are as they
were. -/
def State.recorded (s t : State) : Prop :=
  t.consts = s.consts ∧ (∀ c, (t.eng c).record = (s.eng c).record) ∧ (∀ c, (s.eng c).derate = true → (t.eng c).derate = true) ∧
    ∀ c, (t.env c).guarded = (s.env c).guarded ∧ (t.env c).opens = (s.env c).opens

section

variable {s t u : State}

theorem recorded_refl (s : State) : s.recorded s := ⟨rfl, fun _ => rfl, fun _ => id, fun _ => ⟨rfl, rfl⟩⟩

theorem State.recorded.trans (h : s.recorded t) (h' : t.recorded u) : s.recorded u := by
  obtain ⟨consts, record, derate, values⟩ := h
  obtain ⟨consts', record', derate', values'⟩ := h'
  exact ⟨consts'.trans consts, fun c => (record' c).trans (record c), fun c hc => derate' c (derate c hc),
    fun c => ⟨(values' c).1.trans (values c).1, (values' c).2.trans (values c).2⟩⟩

theorem recorded_of_eq (hk : t.consts = s.consts) (he : t.engines = s.engines) (hv : t.envs = s.envs) : s.recorded t := by
  unfold State.recorded State.eng State.env
  rw [hk, he, hv]
  exact recorded_refl s

/-- A write to an engine outside its record. -/
theorem engine_recorded {c : Chan} {e : Engine} (hr : e.record = (s.eng c).record)
    (hd : (s.eng c).derate = true → e.derate = true) : s.recorded { s with engines := vset s.engines c e } := by
  refine ⟨rfl, fun d => ?_, fun d => ?_, fun _ => ⟨rfl, rfl⟩⟩
  · refine (congrArg Engine.record (vget_vset s.engines c d e)).trans ?_
    split
    · next h => rw [hr, h]
    · rfl
  · rw [State.eng, State.eng, vget_vset]
    split
    · next h => exact h ▸ hd
    · exact id

theorem Engine.record_gated (e : Engine) (on : Bool) : (e.gated on).record = e.record := by
  unfold Engine.gated
  split <;> rfl

theorem Engine.derate_gated (e : Engine) (on : Bool) : (e.gated on).derate = e.derate := by
  unfold Engine.gated
  split <;> rfl

theorem moveGroup_recorded (l : Chan) (new : ChState) (timer : Option Nat) (s : State) :
    s.recorded (moveGroup l new timer s) := by
  refine ⟨moveGroup_consts _ _ _ _, moveGroup_field Engine.record Engine.record_gated (fun _ _ _ => rfl) l new timer s, fun c hc => ?_, fun c => ?_⟩
  · exact (moveGroup_field Engine.derate Engine.derate_gated (fun _ _ _ => rfl) l new timer s c).trans hc
  · unfold State.env
    rw [moveGroup_envs]
    exact ⟨rfl, rfl⟩

theorem reacts_recorded (s : State) : Reacts s.recorded where
  write _ _ _ _ _ h := h
  envs _ hv h := h.trans ⟨rfl, fun _ => rfl, fun _ => id, hv⟩
  brakeMark _ h := h.trans (engine_recorded rfl id)
  derate _ h := h.trans (engine_recorded rfl fun _ => rfl)
  hold l timer _ h := h.trans (moveGroup_recorded l _ timer _)

theorem fillTrips_recorded (r : TripRecord) : ∀ (g : List Chan) (s : State), s.recorded (fillTrips r g s)
  | [], s => recorded_refl s
  | c :: rest, s =>
    have filled : s.recorded { s with engines := vset s.engines c { s.eng c with trip := some r } } :=
      engine_recorded rfl id
    filled.trans (fillTrips_recorded r rest _)

theorem toTripped_recorded (l : Chan) (k : FaultKind) (d : Nat) (s : State) : s.recorded (toTripped l k d s) :=
  ((fillTrips_recorded _ (s.group l) s).trans (recorded_of_eq (flushQueue_consts l _) (flushQueue_engines l _) (flushQueue_envs l _))).trans
    (moveGroup_recorded l _ _ _)

theorem detectTrip_recorded (k : FaultKind) (c : Chan) (d : Nat) (s : State) : s.recorded (detectTrip k c d s) :=
  (reacts_recorded s).detectTrip (toTripped_recorded _ k d s) (recorded_refl s)

theorem reportOrdinary_recorded (k : FaultKind) (sc : Scope) (e : Option W16) (s : State) :
    s.recorded (reportOrdinary k sc e s) := (reacts_recorded s).reportOrdinary k sc e (recorded_refl s)

/-! #### The readiness report -/

theorem enterLink_recorded (x : LinkState) (s : State) : s.recorded (enterLink x s) := by
  refine ⟨enterLink_consts _ _, fun c => gateSyncs_field Engine.record Engine.record_gated c allChans _, fun c hc => ?_, fun c => ?_⟩
  · exact (gateSyncs_field Engine.derate Engine.derate_gated c allChans _).trans hc
  · unfold State.env
    rw [enterLink_envs]
    exact ⟨rfl, rfl⟩

theorem handLinkState_recorded (s : State) : s.recorded (handLinkState s) := by
  have told : s.recorded (broadcast .linkState s) := recorded_of_eq rfl rfl rfl
  unfold handLinkState
  dsimp only
  split
  · exact recorded_refl s
  · refine State.recorded.trans ?_ (recorded_of_eq (setBudget_consts _ _) (setBudget_engines _ _) (setBudget_envs _ _))
    split
    · exact (reacts_recorded s).reportDischarged told
    · exact told

theorem changeLink_recorded (x : LinkState) (s : State) : s.recorded (changeLink x s) :=
  (enterLink_recorded x s).trans (handLinkState_recorded _)

theorem reportReady_recorded (c : Chan) (b : Bool) (s : State) : s.recorded (reportReady c b s) := by
  have marked : s.recorded { s with link := { s.link with ready := vset s.link.ready c b } } := recorded_of_eq rfl rfl rfl
  unfold reportReady judgeWake
  split
  · exact marked.trans (changeLink_recorded _ _)
  · exact marked

end

end Sys2Proof.Machine


namespace Sys2Proof.Machine

/-! ### A good sample, step by step (04, R73, R76 to R89) -/

theorem exec_sample_good {c : Chan} {d : SampleData} {bs : List Byte} {s : State} (hp : parseSample bs = some d)
    (hg : s.goodSample c d = true) : exec (.sampleRecord c bs) s = .next (settle (takeSample c d s)) := by
  have received : receiveSample c bs s = takeSample c d s := by
    unfold receiveSample
    rw [hp]
    exact if_pos hg
  show done (receiveSample c bs s) = _
  rw [received]
  rfl

section

variable {c : Chan} {d : SampleData} {idm iqm : Int} {s : State}

theorem recordSample_eq (hm : measured d.ia d.ib d.angle = (idm, iqm)) :
    recordSample c d s = { s with engines := vset s.engines c { s.eng c with
      sampleTaken := true, sampleEver := true, miss := 0, desat := d.desat, overtemp := d.overtemp
      moduleReady := d.ready, idMeas := idm, iqMeas := iqm } } := by
  unfold recordSample Engine.keepSample
  rw [hm]

/-- The state whose phase currents and module are judged. -/
abbrev State.sampled (s : State) (c : Chan) (d : SampleData) : State :=
  noteReadiness c (s.eng c).moduleReady d.ready (recordSample c d s)

/-- The state at the sample's thermal step. -/
abbrev State.checked (s : State) (c : Chan) (d : SampleData) : State := sampleChecks c d (s.sampled c d)

theorem noteReadiness_recorded (before after : Bool) (u : State) : u.recorded (noteReadiness c before after u) := by
  unfold noteReadiness
  split
  · exact recorded_refl u
  · exact reportReady_recorded c after u

theorem sampleChecks_recorded (d : SampleData) (u : State) : u.recorded (sampleChecks c d u) := by
  have first : u.recorded (if tripLevel (vget u.consts.ceiling c) < largestPhase d.ia d.ib then
      detectTrip .overcurrent c (largestPhase d.ia d.ib) u else u) := by
    split
    · exact detectTrip_recorded _ c _ u
    · exact recorded_refl u
  unfold sampleChecks
  dsimp only
  split
  · exact first.trans (detectTrip_recorded _ c _ _)
  · exact first

theorem checked_recorded : (recordSample c d s).recorded (s.checked c d) :=
  (noteReadiness_recorded _ _ _).trans (sampleChecks_recorded _ _)

/-- The engine's record as the sample keeps it. -/
theorem checked_record (hm : measured d.ia d.ib d.angle = (idm, iqm)) : ((s.checked c d).eng c).record =
    Engine.record { s.eng c with
      sampleTaken := true, sampleEver := true, miss := 0, desat := d.desat, overtemp := d.overtemp
      moduleReady := d.ready, idMeas := idm, iqMeas := iqm } := by
  obtain ⟨-, record, -⟩ := checked_recorded (c := c) (d := d) (s := s)
  rw [record c, recordSample_eq hm]
  exact congrArg Engine.record (vget_vset_self _ _ _)

theorem checked_consts : (s.checked c d).consts = s.consts := by
  obtain ⟨consts, -⟩ := checked_recorded (c := c) (d := d) (s := s)
  exact consts

theorem checked_derate (h : (s.eng c).derate = true) : ((s.checked c d).eng c).derate = true := by
  obtain ⟨-, -, derate, -⟩ := checked_recorded (c := c) (d := d) (s := s)
  refine derate c ?_
  rw [recordSample, State.eng, vget_vset_self]
  exact h

/-- The guarded values a channel reads follow the constants and the envelopes' values. -/
theorem guardedOf_recorded {t u : State} (h : t.recorded u) (c : Chan) : u.guardedOf c = t.guardedOf c := by
  obtain ⟨consts, -, -, values⟩ := h
  rw [State.guardedOf, State.lead, consts, (values _).1]
  rfl

theorem checked_guarded : (s.checked c d).guardedOf c = (s.env (s.lead c)).guarded := guardedOf_recorded checked_recorded c

/-! #### The thermal step -/

variable {heat : Nat} {g : Guarded}

theorem checked_heatOf (hm : measured d.ia d.ib d.angle = (idm, iqm)) (hg : g = (s.env (s.lead c)).guarded)
    (hh : heatNext (s.eng c).heat idm iqm g.continuous (Config.periodHalfMicros s.consts.periodCode) = heat) :
    (s.checked c d).heatOf c = heat := by
  have record := checked_record (c := c) (s := s) hm
  have old : ((s.checked c d).eng c).heat = (s.eng c).heat := (congrArg Engine.heat record :)
  have flux : ((s.checked c d).eng c).idMeas = idm := (congrArg Engine.idMeas record :)
  have torque : ((s.checked c d).eng c).iqMeas = iqm := (congrArg Engine.iqMeas record :)
  rw [State.heatOf, old, flux, torque, checked_guarded, checked_consts, ← hg, hh]

/-- The state once the accumulator has its new value. -/
abbrev State.heated (s : State) (c : Chan) (d : SampleData) (heat : Nat) (g : Guarded) : State :=
  chargeHeat c heat (heatAbove heat g.continuous g.tau) (s.checked c d)

theorem thermalUpdate_checked (hm : measured d.ia d.ib d.angle = (idm, iqm)) (hg : g = (s.env (s.lead c)).guarded)
    (hh : heatNext (s.eng c).heat idm iqm g.continuous (Config.periodHalfMicros s.consts.periodCode) = heat) :
    thermalUpdate c (s.checked c d) = s.heated c d heat g := by
  rw [thermalUpdate, checked_heatOf hm hg hh, checked_guarded, ← hg]

/-- A new value of the accumulator, and its indication, pass by the rest of the record. -/
theorem chargeHeat_record (heat : Nat) (above : Bool) (u : State) :
    ((chargeHeat c heat above u).eng c).record =
      { (u.eng c).record with heat := heat, thermalInd := (u.eng c).thermalInd || above } ∧
    ((u.eng c).derate = true → ((chargeHeat c heat above u).eng c).derate = true) ∧
    (chargeHeat c heat above u).guardedOf c = u.guardedOf c ∧ (chargeHeat c heat above u).consts = u.consts := by
  unfold chargeHeat
  dsimp only
  split
  · next h =>
    rw [Bool.and_eq_true, Bool.not_eq_true'] at h
    have marked := reportOrdinary_recorded .thermal (.channel c) none
      { u with engines := vset u.engines c { u.eng c with heat := heat, thermalInd := true } }
    have guarded := guardedOf_recorded marked c
    obtain ⟨consts, record, derate, -⟩ := marked
    refine ⟨?_, fun hd => derate c ?_, guarded, consts⟩
    · rw [record c, State.eng, vget_vset_self, h.1, Bool.or_true]
      rfl
    · rw [State.eng, vget_vset_self]
      exact hd
  · next h =>
    have same : ((u.eng c).thermalInd || above) = (u.eng c).thermalInd := by
      cases ha : above <;> cases ht : (u.eng c).thermalInd <;> simp_all
    refine ⟨?_, fun hd => ?_, rfl, rfl⟩
    · rw [State.eng, vget_vset_self, same]
      rfl
    · rw [State.eng, vget_vset_self]
      exact hd

theorem heated_heat : ((s.heated c d heat g).eng c).heat = heat :=
  (congrArg Engine.heat (chargeHeat_record heat _ (s.checked c d)).1 :)

theorem heated_guarded : (s.heated c d heat g).guardedOf c = (s.env (s.lead c)).guarded :=
  (chargeHeat_record heat _ (s.checked c d)).2.2.1.trans checked_guarded

theorem heated_derate (h : (s.eng c).derate = true) : ((s.heated c d heat g).eng c).derate = true :=
  (chargeHeat_record heat _ (s.checked c d)).2.1 (checked_derate h)

/-- The clearing, by the mark that the sample found. -/
theorem clearThermal_eq (found below : Bool) (y : State) : clearThermal c found below y =
    if below = false then y
    else if found = true then broadcast .thermal
      { y with engines := vset y.engines c { y.eng c with thermalInd := false, derate := false } }
    else { y with engines := vset y.engines c { y.eng c with thermalInd := false } } := by
  unfold clearThermal
  dsimp only
  cases below
  · rfl
  · cases found
    · rw [Bool.not_false, Bool.and_true]
      rfl
    · rw [Bool.not_true, Bool.and_false]
      rfl

theorem clearThermal_engine (found below : Bool) (y : State) : (clearThermal c found below y).eng c =
    if below then { y.eng c with thermalInd := false, derate := (y.eng c).derate && !found } else y.eng c := by
  unfold clearThermal
  dsimp only
  split
  · split
    · rw [State.eng, broadcast_engines, vget_vset_self]
    · rw [State.eng, vget_vset_self]
  · rfl

theorem thermalStep_checked {below : Bool} (hm : measured d.ia d.ib d.angle = (idm, iqm))
    (hg : g = (s.env (s.lead c)).guarded)
    (hh : heatNext (s.eng c).heat idm iqm g.continuous (Config.periodHalfMicros s.consts.periodCode) = heat)
    (hb : below = heatBelowHalf heat g.continuous g.tau) (found : Bool) :
    thermalStep c found (s.checked c d) = clearThermal c found below (s.heated c d heat g) := by
  rw [thermalStep, thermalUpdate_checked hm hg hh, thermalClear, heated_heat, heated_guarded, ← hg, ← hb]

/-- The mark the loop reads: the one found, unless the sample's own thermal step has cleared it. -/
theorem derateFor_cleared (below : Bool) : (clearThermal c (s.eng c).derate below (s.heated c d heat g)).derateFor
    (s.eng c).derate c = ((s.eng c).derate && !below) := by
  rw [State.derateFor, clearThermal_engine]
  cases hf : (s.eng c).derate with
  | false => rfl
  | true =>
    cases below
    · exact heated_derate hf
    · exact Bool.and_false _

/-- Every good sample. -/
theorem takeSample_eq {below : Bool} (hm : measured d.ia d.ib d.angle = (idm, iqm))
    (hg : g = (s.env (s.lead c)).guarded)
    (hh : heatNext (s.eng c).heat idm iqm g.continuous (Config.periodHalfMicros s.consts.periodCode) = heat)
    (hb : below = heatBelowHalf heat g.continuous g.tau) :
    takeSample c d s = loopAndRecord c d.angle ((s.eng c).derate && !below)
      (clearThermal c (s.eng c).derate below (s.heated c d heat g)) := by
  show finishSample c d.angle (s.eng c).derate (s.checked c d) = _
  rw [finishSample, thermalStep_checked hm hg hh hb, derateFor_cleared]

end

end Sys2Proof.Machine


namespace Sys2Proof.Machine

/-! ### Steps 5 to 9 of a good sample (04, R76, R82 to R88; 05, R112, R113) -/

section

variable {c : Chan} {angle : Nat} {derate : Bool} {s : State} {r : LoopRun}

/-- The state after a loop run. -/
abbrev State.ran (s : State) (c : Chan) (r : LoopRun) : State := { s with
  engines := vset s.engines c { s.eng c with
    peakLimited := r.peakLimited, grantLimited := r.grantLimited, voltLimited := r.voltLimited
    integD := r.integD, integQ := r.integQ, lastDraw := r.draw, lastDuties := r.duties }
  allot := { s.allot with
    request := vset s.allot.request c r.request
    grant := grantsOf s.consts s.allot.budget (vset s.allot.request c r.request) }
  wire := .bridge c (gateRecord (s.period.setWidth 16 + 1) r.duties true (decide (s.link.state = .parked))) :: s.wire }

/-- The state after a sample whose gates are off. -/
abbrev State.idled (s : State) (c : Chan) : State := { s with
  engines := vset s.engines c { s.eng c with lastDuties := Duties.zero }
  wire := .bridge c (gateRecord (s.period.setWidth 16 + 1) Duties.zero false (decide (s.link.state = .parked))) :: s.wire }

theorem sendGate_written (n : W16) (duties : Duties) (on : Bool) (e : Engine) (s : State) :
    sendGate c n duties on { s with engines := vset s.engines c e } = { s with
      engines := vset s.engines c { e with lastDuties := duties }
      wire := .bridge c (gateRecord n duties on s.standby) :: s.wire } := by
  have written : ({ s with engines := vset s.engines c e } : State).eng c = e := vget_vset_self _ _ _
  rw [sendGate, written, vset_vset]
  rfl

theorem loopAndRecord_on (h : (s.eng c).gateEnable = true) :
    loopAndRecord c angle derate s = s.ran c (loopRun c angle derate s) := by
  unfold loopAndRecord
  dsimp only
  rw [if_pos h, sendGate_written]
  rfl

theorem loopAndRecord_off (h : (s.eng c).gateEnable = false) : loopAndRecord c angle derate s = s.idled c :=
  if_neg (ne_true_of_eq_false h)

/-- A notice passes by the loop. -/
theorem loopAndRecord_broadcast (k : NoticeKind) (s : State) :
    loopAndRecord c angle derate (broadcast k s) = broadcast k (loopAndRecord c angle derate s) := by
  cases h : (s.eng c).gateEnable with
  | true => 
    have same : loopRun c angle derate (broadcast k s) = loopRun c angle derate s := rfl
    rw [loopAndRecord_on h, loopAndRecord_on (s := broadcast k s) h, same]
    rfl
  | false =>
    rw [loopAndRecord_off h, loopAndRecord_off (s := broadcast k s) h]
    rfl

end

/-! ### Samples without a trip, a change of readiness or a thermal report -/

section

variable {c : Chan} {d : SampleData} {idm iqm : Int} {heat : Nat} {g : Guarded} {below : Bool} {s : State}

theorem sampled_unchanged (h : d.ready = (s.eng c).moduleReady) : s.sampled c d = recordSample c d s := if_pos h.symm

theorem sampleChecks_passed {u : State} (hi : largestPhase d.ia d.ib ≤ tripLevel (vget u.consts.ceiling c))
    (hd : d.desat = false) (ho : d.overtemp = false) : sampleChecks c d u = u := by
  unfold sampleChecks
  dsimp only
  rw [if_neg (Nat.not_lt.mpr hi), hd, ho]
  rfl

/-- The state that a quiet sample is finished in. -/
abbrev State.measuredAt (s : State) (c : Chan) (d : SampleData) (idm iqm : Int) (heat : Nat) (below : Bool) : State :=
  { s with engines := vset s.engines c { s.eng c with
    sampleTaken := true, sampleEver := true, miss := 0, desat := d.desat, overtemp := d.overtemp
    idMeas := idm, iqMeas := iqm, heat := heat, thermalInd := (s.eng c).thermalInd && !below
    derate := (s.eng c).derate && !below } }

theorem chargeHeat_passed {above : Bool} {u : State} (h : above = false ∨ (u.eng c).thermalInd = true) :
    chargeHeat c heat above u = { u with engines := vset u.engines c { u.eng c with heat := heat } } := by
  refine if_neg ?_
  rw [Bool.and_eq_true, Bool.not_eq_true']
  rintro ⟨ha, ht⟩
  rcases h with h | h
  · exact Bool.false_ne_true (h.symm.trans ha)
  · exact Bool.false_ne_true (ht.symm.trans h)

/-- The engine after the thermal step's clearing. -/
def Engine.cleared (e : Engine) (found below : Bool) : Engine :=
  { e with thermalInd := e.thermalInd && !below, derate := e.derate && !(found && below) }

theorem clearThermal_written (found below : Bool) (u : State) (e : Engine) :
    clearThermal c found below { u with engines := vset u.engines c e } =
      if found = true ∧ below = true then broadcast .thermal { u with engines := vset u.engines c (e.cleared found below) }
      else { u with engines := vset u.engines c (e.cleared found below) } := by
  have written : ({ u with engines := vset u.engines c e } : State).eng c = e := vget_vset_self _ _ _
  unfold clearThermal Engine.cleared
  rw [written]
  dsimp only
  rw [vset_vset]
  cases below
  · simp
  · cases found <;> simp

/-- A sample that finds its module as it was and nothing to report. -/
theorem quietSample_cleared (hm : measured d.ia d.ib d.angle = (idm, iqm)) (hr : d.ready = (s.eng c).moduleReady)
    (hx : sampleChecks c d (recordSample c d s) = recordSample c d s)
    (hq : heatAbove heat g.continuous g.tau = false ∨ (s.eng c).thermalInd = true) :
    clearThermal c (s.eng c).derate below (s.heated c d heat g) =
      if (s.eng c).derate = true ∧ below = true then broadcast .thermal (s.measuredAt c d idm iqm heat below)
      else s.measuredAt c d idm iqm heat below := by
  have checked : s.checked c d = recordSample c d s := by
    rw [State.checked, sampled_unchanged hr, hx]
  have engine : (recordSample c d s).eng c = { s.eng c with
      sampleTaken := true, sampleEver := true, miss := 0, desat := d.desat, overtemp := d.overtemp
      moduleReady := d.ready, idMeas := idm, iqMeas := iqm } := by
    rw [recordSample_eq hm]
    exact vget_vset_self _ _ _
  have heated : s.heated c d heat g = { s with engines := vset s.engines c { s.eng c with
      sampleTaken := true, sampleEver := true, miss := 0, desat := d.desat, overtemp := d.overtemp
      idMeas := idm, iqMeas := iqm, heat := heat } } := by
    rw [State.heated, checked, chargeHeat_passed (by rw [engine]; exact hq), engine, recordSample, vset_vset, hr]
  have mark : ((s.eng c).derate && !((s.eng c).derate && below)) = ((s.eng c).derate && !below) := by
    cases (s.eng c).derate <;> rfl
  rw [heated, clearThermal_written]
  unfold Engine.cleared
  dsimp only
  rw [mark]

end

end Sys2Proof.Machine


namespace Sys2Proof.Machine

/-! ### The report of a sample that reaches the threshold (04, R80, R89; 07, R145, R149, R150) -/

section

variable {c : Chan} {d : SampleData} {idm iqm : Int} {heat : Nat} {g : Guarded} {s u : State}

/-- At the threshold an accumulator is not below half of it. -/
theorem not_below_of_above {tau ic : Nat} (h : heatAbove heat ic tau = true) : heatBelowHalf heat ic tau = false := by
  have above := of_decide_eq_true h
  exact decide_eq_false (by omega)

theorem thermal_takeable_iff {first : W32} {n : Nat} {e : Option W16} :
    u.takeable ⟨.thermal, .channel c, first, n, e⟩ = true ↔
      u.react.mask.thermal = false ∧ u.handoverHolds (u.lead c) = false :=
  takeable_ordinary_iff rfl

/-- A sample that finds its module as it was, that does not trip and reaches the threshold. -/
theorem hotSample_heated (hm : measured d.ia d.ib d.angle = (idm, iqm)) (hr : d.ready = (s.eng c).moduleReady)
    (hx : sampleChecks c d (recordSample c d s) = recordSample c d s)
    (ha : heatAbove heat g.continuous g.tau = true) (ht : (s.eng c).thermalInd = false) :
    s.heated c d heat g = reportOrdinary .thermal (.channel c) none { s with engines := vset s.engines c { s.eng c with
      sampleTaken := true, sampleEver := true, miss := 0, desat := d.desat, overtemp := d.overtemp
      idMeas := idm, iqMeas := iqm, heat := heat, thermalInd := true } } := by
  have checked : s.checked c d = recordSample c d s := by
    rw [State.checked, sampled_unchanged hr, hx]
  have engine : (recordSample c d s).eng c = { s.eng c with
      sampleTaken := true, sampleEver := true, miss := 0, desat := d.desat, overtemp := d.overtemp
      moduleReady := d.ready, idMeas := idm, iqMeas := iqm } := by
    rw [recordSample_eq hm]
    exact vget_vset_self _ _ _
  have reports : (heatAbove heat g.continuous g.tau && !(s.eng c).thermalInd) = true := by
    rw [ha, ht]
    rfl
  rw [State.heated, checked, chargeHeat, engine]
  dsimp only
  rw [if_pos reports, recordSample, vset_vset, hr]

end

/-- Settles O18. -/
theorem goodSampleRunsTheLoop : Obligations.GoodSampleRunsTheLoop := by
  refine ⟨fun c d bs idm iqm heat g below s u v w x y hp hg hgd hm hh hb hu hv hw hx hy => ?every,
    fun c d bs idm iqm heat g below s u v r hp hg hon hi hd ho hr hgd hm hh hq hb hu hrun hv => ?driving,
    fun c angle derate s r hr => ⟨fun h => ?on, fun h => loopAndRecord_off h⟩,
    fun c d bs idm iqm heat g x s u v hp hg hi hd ho hr hgd hm hh ha ht hu hv hx => ⟨?reports, fun hs hpend =>
      ⟨fun hmask hhold => ?marked, fun hwait => ?pends⟩⟩⟩
  case every =>
    have sampled : s.sampled c d = v := by
      rw [hv, hu, ← recordSample_eq hm]
      exact ite_of_iff eq_comm
    have consts : v.consts = s.consts := by
      obtain ⟨consts, -⟩ := noteReadiness_recorded (c := c) (s.eng c).moduleReady d.ready (recordSample c d s)
      rw [← sampled]
      exact consts
    have checked : s.checked c d = x := by
      rw [State.checked, sampled, sampleChecks, consts, ← hw, hx]
      exact ite_of_iff (Bool.or_eq_true _ _).to_iff
    have engine := checked_record (s := s) (c := c) hm
    rw [checked] at engine
    have indication : (x.eng c).thermalInd = (s.eng c).thermalInd := (congrArg Engine.thermalInd engine :)
    have heated : s.heated c d heat g = y := by
      rw [State.heated, checked, chargeHeat, hy, ← indication]
      exact ite_of_iff ((Bool.and_eq_true _ _).to_iff.trans (and_congr_right' (Bool.not_eq_true' _).to_iff))
    rw [exec_sample_good hp hg, takeSample_eq hm hgd hh hb, heated, clearThermal_eq]
  case driving =>
    have passed := sampleChecks_passed (c := c) (u := recordSample c d s) hi hd ho
    have cleared : s.measuredAt c d idm iqm heat below = u := by
      rw [hu, State.measuredAt, hd, ho]
    have gate : (u.eng c).gateEnable = true := by
      rw [hu, State.eng, vget_vset_self]
      exact hon
    have ran : loopAndRecord c d.angle ((s.eng c).derate && !below) u = v := by
      rw [loopAndRecord_on gate, hrun, hv, hu, State.ran]
      dsimp only
      rw [vset_vset]
    rw [exec_sample_good hp hg, takeSample_eq hm hgd hh hb, quietSample_cleared hm hr passed hq, cleared, ← ran]
    split
    · rw [loopAndRecord_broadcast]
    · rfl
  case on =>
    rw [← hr]
    exact loopAndRecord_on h
  case reports =>
    have passed := sampleChecks_passed (c := c) (u := recordSample c d s) hi hd ho
    have heated : s.heated c d heat g = v := by
      rw [hotSample_heated hm hr passed ha ht, hv, hu, hd, ho]
    rw [exec_sample_good hp hg, takeSample_eq hm hgd hh (below := false) (not_below_of_above ha).symm, heated]
    rw [clearThermal_eq, if_pos rfl, Bool.not_false, Bool.and_true]
  case marked =>
    have taken : u.takeable x = true := by
      rw [hx]
      refine thermal_takeable_iff.mpr ?_
      rw [hu]
      exact ⟨hmask, hhold⟩
    rw [hv, reportOrdinary_taken (s := u) (x := x) rfl (by rw [hu]; exact hpend) (by rw [hx, hu]) (by rw [hu]; exact hs) taken, hx]
    rfl
  case pends =>
    have waits : u.takeable x = false := by
      rw [hx, Bool.eq_false_iff]
      intro h
      obtain ⟨hmask, hhold⟩ := thermal_takeable_iff.mp h
      rw [hu] at hmask hhold
      rcases hwait with hwait | hwait
      · exact Bool.false_ne_true (hmask.symm.trans hwait)
      · exact Bool.false_ne_true (hhold.symm.trans hwait)
    rw [hv, reportOrdinary_waits (s := u) (x := x) (by rw [hu]; exact hpend) (by rw [hx, hu]) (.inr waits), hu]

end Sys2Proof.Machine


namespace Sys2Proof.Machine

/-! ### Samples that are not good (04, R73) -/

theorem goodSample_iff {s : State} {c : Chan} {d : SampleData} : s.goodSample c d = true ↔ s.phase = .operating ∧
    s.started = true ∧ s.present c = true ∧ d.stamp = s.stamp16 ∧ (s.eng c).sampleTaken = false := by
  simp only [State.goodSample, Bool.and_eq_true, Bool.not_eq_true', decide_eq_true_eq, inConfig_eq_false, and_assoc]

theorem receiveSample_ignored {c : Chan} {bs : List Byte} {s : State}
    (h : ∀ d, parseSample bs = some d → s.goodSample c d = false) : receiveSample c bs s = s := by
  unfold receiveSample
  split
  · rfl
  · next d hd => exact if_neg (ne_true_of_eq_false (h d hd))

/-! ### What a sample leaves on its engine (04, R73, R79 to R81) -/

section

variable {c : Chan} {angle : Nat} {derate : Bool} {s : State}

/-- The loop writes flags, integrators, the draw and the duties. -/
theorem loopAndRecord_engine (c : Chan) (angle : Nat) (derate : Bool) (u : State) :
    ∃ (p g v : Bool) (i j l : Int) (n : Duties), (loopAndRecord c angle derate u).eng c = { u.eng c with
      peakLimited := p, grantLimited := g, voltLimited := v, integD := i, integQ := j, lastDraw := l, lastDuties := n } := by
  cases h : (u.eng c).gateEnable with
  | true =>
    rw [loopAndRecord_on h, State.eng, vget_vset_self]
    exact ⟨_, _, _, _, _, _, _, rfl⟩
  | false =>
    rw [loopAndRecord_off h, State.eng, vget_vset_self]
    exact ⟨_, _, _, _, _, _, _, rfl⟩

theorem loopAndRecord_budget (u : State) : (loopAndRecord c angle derate u).allot.budget = u.allot.budget := by
  unfold loopAndRecord
  dsimp only
  split <;> rfl

theorem toTripped_budget (l : Chan) (k : FaultKind) (n : Nat) (u : State) :
    (toTripped l k n u).allot.budget = u.allot.budget := by
  unfold toTripped
  dsimp only
  rw [moveGroup_budget, flushQueue_allot, fillTrips_allot]

theorem detectTrip_budget (k : FaultKind) (c : Chan) (n : Nat) (u : State) :
    (detectTrip k c n u).allot.budget = u.allot.budget :=
  (reacts_budget u.allot.budget).detectTrip (toTripped_budget _ k n u) rfl

theorem chargeHeat_budget (heat : Nat) (above : Bool) (u : State) :
    (chargeHeat c heat above u).allot.budget = u.allot.budget := by
  unfold chargeHeat
  dsimp only
  split
  · exact (reacts_budget u.allot.budget).reportOrdinary _ _ _ rfl
  · rfl

/-! #### The checks -/

variable {d : SampleData}

theorem sampleChecks_budget (d : SampleData) (u : State) : (sampleChecks c d u).allot.budget = u.allot.budget := by
  unfold sampleChecks
  dsimp only
  split <;> split <;> simp only [detectTrip_budget]

theorem detectTrip_tripped {k : FaultKind} {n : Nat} {u : State} (h : u.chState c = .tripped) : detectTrip k c n u = u := by
  have state : (u.eng (u.lead c)).state = .tripped := h
  unfold detectTrip
  dsimp only
  rw [state]

/-- A tripped group is not tripped again. -/
theorem sampleChecks_tripped {u : State} (h : u.chState c = .tripped) : sampleChecks c d u = u := by
  unfold sampleChecks
  dsimp only
  rw [detectTrip_tripped h, ite_self, detectTrip_tripped h, ite_self]

theorem recordSample_chState (c e : Chan) (d : SampleData) (s : State) : (recordSample c d s).chState e = s.chState e := by
  unfold State.chState
  refine (congrArg Engine.state (vget_vset s.engines c _ _)).trans ?_
  split
  · next h =>
    rw [State.eng, h]
    rfl
  · rfl

/-! #### The readiness report -/

theorem sampled_ready (hr : d.ready ≠ (s.eng c).moduleReady) : s.sampled c d = judgeWake { recordSample c d s with
    link := { s.link with ready := vset s.link.ready c d.ready } } := if_neg fun h => hr h.symm

/-- The marked readiness is written, and a WAKING link with every module ready moves. -/
theorem judgeWake_eq (u : State) : judgeWake u =
    if u.link.state = .waking ∧ ∀ e, u.present e = true → vget u.link.ready e = true then changeLink .ready u else u := by
  refine ite_of_iff ?_
  rw [Bool.and_eq_true, decide_eq_true_eq, wakeCondition_iff]

end

section

variable {c : Chan} {d : SampleData} {ready : Vector Bool 8} {s : State}

/-- The module reports ready as the last one of a WAKING link. -/
theorem sampled_wakes (hop : s.phase = .operating) (hr : d.ready ≠ (s.eng c).moduleReady) (hl : s.link.state = .waking)
    (hready : ready = vset s.link.ready c d.ready) (hall : ∀ e, s.present e = true → vget ready e = true) :
    (s.sampled c d).link = { s.link with state := .ready, timer := none, ready := ready } ∧
    ∀ b, s.link.supply = some b → (s.sampled c d).allot.budget = min s.consts.linkRating b.available := by
  subst hready
  have operating : ({ recordSample c d s with link := { s.link with ready := vset s.link.ready c d.ready } } : State).phase =
      .operating := hop
  rw [sampled_ready hr, judgeWake_eq, if_pos ⟨hl, hall⟩]
  refine ⟨changeLink_link _ _, fun b hb => ?_⟩
  rw [changeLink_budget operating]
  exact budgetFor_ready (changeLink_state _ _) (changeLink_supply.trans hb)

theorem sampled_stays (hready : ready = (if d.ready = (s.eng c).moduleReady then s.link.ready else vset s.link.ready c d.ready))
    (h : d.ready = (s.eng c).moduleReady ∨ s.link.state ≠ .waking ∨ ∃ e, s.present e = true ∧ vget ready e = false) :
    (s.sampled c d).link = { s.link with ready := ready } := by
  by_cases hr : d.ready = (s.eng c).moduleReady
  · rw [if_pos hr] at hready
    rw [sampled_unchanged hr, hready]
    rfl
  · rw [if_neg hr] at hready
    subst hready
    rw [sampled_ready hr, judgeWake_eq, if_neg]
    rintro ⟨hl, hall⟩
    rcases h.resolve_left hr with h | ⟨e, hp, he⟩
    · exact h hl
    · exact Bool.false_ne_true (he.symm.trans (hall e hp))

end

/-! ### A whole sample -/

section

variable {c : Chan} {d : SampleData} {idm iqm : Int} {heat : Nat} {g : Guarded} {below found : Bool} {s : State}

/-- The state that a good sample leaves, its frames apart. -/
abbrev State.finished (s : State) (c : Chan) (d : SampleData) (heat : Nat) (g : Guarded) (below : Bool) : State :=
  loopAndRecord c d.angle ((s.eng c).derate && !below) (clearThermal c (s.eng c).derate below (s.heated c d heat g))

theorem finished_link : (s.finished c d heat g below).link = (s.sampled c d).link := by
  rw [State.finished, loopAndRecord_link, clearThermal_link, chargeHeat_link, sampleChecks_link]

theorem finished_budget : (s.finished c d heat g below).allot.budget = (s.sampled c d).allot.budget := by
  rw [State.finished, loopAndRecord_budget, clearThermal_allot, chargeHeat_budget, sampleChecks_budget]

/-- What the sample leaves of its own on the engine. -/
theorem finished_engine (hm : measured d.ia d.ib d.angle = (idm, iqm)) :
    ((s.finished c d heat g below).eng c).sampleTaken = true ∧ ((s.finished c d heat g below).eng c).sampleEver = true ∧
    ((s.finished c d heat g below).eng c).miss = 0 ∧ ((s.finished c d heat g below).eng c).desat = d.desat ∧
    ((s.finished c d heat g below).eng c).overtemp = d.overtemp ∧
    ((s.finished c d heat g below).eng c).moduleReady = d.ready ∧
    ((s.finished c d heat g below).eng c).idMeas = idm ∧ ((s.finished c d heat g below).eng c).iqMeas = iqm ∧
    ((s.finished c d heat g below).eng c).heat = heat ∧
    ((s.finished c d heat g below).eng c).thermalInd =
      (((s.eng c).thermalInd || heatAbove heat g.continuous g.tau) && !below) ∧
    ((s.eng c).derate = true → ((s.finished c d heat g below).eng c).derate = !below) := by
  obtain ⟨record, -⟩ := chargeHeat_record (c := c) heat (heatAbove heat g.continuous g.tau) (s.checked c d)
  have checked := checked_record (c := c) (s := s) hm
  have old : ((s.checked c d).eng c).thermalInd = (s.eng c).thermalInd := (congrArg Engine.thermalInd checked :)
  rw [checked, old] at record
  obtain ⟨p, q, v, i, j, l, n, engine⟩ := loopAndRecord_engine c d.angle ((s.eng c).derate && !below)
    (clearThermal c (s.eng c).derate below (s.heated c d heat g))
  rw [clearThermal_engine] at engine
  rw [State.finished, engine]
  cases below
  · exact ⟨(congrArg Engine.sampleTaken record :), (congrArg Engine.sampleEver record :), (congrArg Engine.miss record :),
      (congrArg Engine.desat record :), (congrArg Engine.overtemp record :), (congrArg Engine.moduleReady record :),
      (congrArg Engine.idMeas record :), (congrArg Engine.iqMeas record :), (congrArg Engine.heat record :),
      (congrArg Engine.thermalInd record :).trans (Bool.and_true _).symm, heated_derate⟩
  · refine ⟨(congrArg Engine.sampleTaken record :), (congrArg Engine.sampleEver record :), (congrArg Engine.miss record :),
      (congrArg Engine.desat record :), (congrArg Engine.overtemp record :), (congrArg Engine.moduleReady record :),
      (congrArg Engine.idMeas record :), (congrArg Engine.iqMeas record :), (congrArg Engine.heat record :),
      (Bool.and_false _).symm, fun hd => ?_⟩
    rw [hd]
    exact Bool.and_false _

end

/-- Settles O17. -/
theorem samplesOfAnIdleChannel : Obligations.SamplesOfAnIdleChannel := by
  refine ⟨fun c bs s h => ?ignored, fun c d bs idm iqm heat g ready s hp hg hgd hm hh hready => ?good,
    fun c d bs idm iqm heat g below s u hp hg hoff hx hr hgd hm hh hq hb hu => ?idle⟩
  case ignored =>
    have ignored : receiveSample c bs s = s := receiveSample_ignored fun d hd => by
      refine Bool.eq_false_iff.mpr fun hg => ?_
      obtain ⟨hop, hstarted, hpresent, hstamp, htaken⟩ := goodSample_iff.mp hg
      rcases h d hd with h | h | h | h | h
      · rw [hop] at h
        cases h
      · exact Bool.false_ne_true (h.symm.trans hstarted)
      · exact Bool.false_ne_true (h.symm.trans hpresent)
      · exact h hstamp
      · exact Bool.false_ne_true (htaken.symm.trans h)
    show done (receiveSample c bs s) = _
    rw [ignored]
    rfl
  case good =>
    obtain ⟨hop, -⟩ := goodSample_iff.mp hg
    refine ⟨settle (s.finished c d heat g (heatBelowHalf heat g.continuous g.tau)), ?_, ?_, fun hr hl hall => ?_, fun h => ?_⟩
    · rw [exec_sample_good hp hg, takeSample_eq hm hgd hh rfl]
    · rw [State.eng, settle_engines]
      exact finished_engine hm
    · have wakes := sampled_wakes hop hr hl (hready.trans (if_neg hr)) hall
      rw [settle_link, settle_allot, finished_link, finished_budget]
      exact wakes
    · rw [settle_link, finished_link]
      exact sampled_stays hready h
  case idle =>
    have unchanged : sampleChecks c d (recordSample c d s) = recordSample c d s := by
      rcases hx with ⟨hi, hd, ho⟩ | ht
      · exact sampleChecks_passed hi hd ho
      · exact sampleChecks_tripped ((recordSample_chState c c d s).trans ht)
    have gate : ((s.measuredAt c d idm iqm heat below).eng c).gateEnable = false := by
      rw [State.eng, vget_vset_self]
      exact hoff
    have ran : loopAndRecord c d.angle ((s.eng c).derate && !below) (s.measuredAt c d idm iqm heat below) = u := by
      rw [loopAndRecord_off gate, hu, State.idled, State.eng, vget_vset_self]
      dsimp only
      rw [vset_vset]
    rw [exec_sample_good hp hg, takeSample_eq hm hgd hh hb, quietSample_cleared hm hr unchanged hq, ← ran]
    split
    · rw [loopAndRecord_broadcast]
    · rfl

end Sys2Proof.Machine


namespace Sys2Proof.Machine

/-! ### A tripped group (01, R14; 07, R135) -/

/-- The group of `l` is in TRIPPED: no timer, no entries, its gates cut, its trip records filled. -/
def State.down (l : Chan) (r : TripRecord) (s : State) : Prop :=
  s.consts.isFollower l = false ∧ (s.eng l).state = .tripped ∧ (s.eng l).timer = none ∧ (s.queue l).entries = [] ∧
    ∀ e ∈ s.group l, (s.eng e).gateEnable = false ∧ (s.eng e).trip = some r

/-- The gates of a tripped group are cut. -/
def State.gatesCut (l : Chan) (s : State) : Prop :=
  s.consts.isFollower l = false ∧ (s.eng l).state = .tripped ∧ ∀ e ∈ s.group l, (s.eng e).gateEnable = false

section

variable {l c : Chan} {r : TripRecord} {s t : State}

theorem State.down.cut (h : s.down l r) : s.gatesCut l := by
  obtain ⟨single, state, -, -, group⟩ := h
  exact ⟨single, state, fun e he => (group e he).1⟩

theorem State.down.still (h : s.down l r) (hs : s.still l t) (hc : t.gatesCut l) (hk : t.consts = s.consts) : t.down l r := by
  obtain ⟨single, state, timer, empty, group⟩ := h
  obtain ⟨-, -, cut⟩ := hc
  refine ⟨by rw [hk]; exact single, hs.state.trans state, hs.timer.trans timer, hs.2.1 empty, fun e he => ⟨cut e he, ?_⟩⟩
  rw [hs.2.2 e]
  refine (group e ?_).2
  rw [State.group, ← hk]
  exact he

/-- A write to an engine outside its state, timer, gate and trip record. -/
theorem State.down.engine (h : s.down l r) {e : Engine} (hs : e.state = (s.eng c).state) (ht : e.timer = (s.eng c).timer)
    (hg : e.gateEnable = (s.eng c).gateEnable) (hr : e.trip = (s.eng c).trip) :
    ({ s with engines := vset s.engines c e } : State).down l r := by
  have field {α : Type} (f : Engine → α) (hf : f e = f (s.eng c)) (d : Chan) :
      f (vget (vset s.engines c e) d) = f (s.eng d) := by
    rw [vget_vset]
    split
    · next h => rw [hf, h]
    · rfl
  obtain ⟨single, state, timer, empty, group⟩ := h
  exact ⟨single, (field Engine.state hs l).trans state, (field Engine.timer ht l).trans timer, empty, fun d hd =>
    ⟨(field Engine.gateEnable hg d).trans (group d hd).1, (field Engine.trip hr d).trans (group d hd).2⟩⟩

theorem gatesCut_of_eq (hk : t.consts = s.consts) (hs : ∀ d, (t.eng d).state = (s.eng d).state)
    (hg : ∀ d, (t.eng d).gateEnable = (s.eng d).gateEnable) (h : s.gatesCut l) : t.gatesCut l := by
  unfold State.gatesCut State.group
  rw [hk, hs]
  obtain ⟨single, state, cut⟩ := h
  exact ⟨single, state, fun e he => (hg e).trans (cut e he)⟩

theorem gateSync_gatesCut (d : Chan) (h : s.gatesCut l) : (gateSync d s).gatesCut l := by
  obtain ⟨single, state, cut⟩ := h
  unfold State.gatesCut State.group
  rw [gateSync_consts]
  refine ⟨single, by rw [State.eng, gateSync_state]; exact state, fun e he => ?_⟩
  rw [State.eng, gateSync_gateEnable]
  split
  · next hd =>
    have lead : s.lead d = l := hd ▸ lead_of_mem_group single he
    rw [State.gateValue, State.chState, lead, state]
    simp [ChState.driving]
  · exact cut e he

/-- A move of another group leaves the cut gates. -/
theorem moveGroup_gatesCut (new : ChState) (timer : Option Nat) (hc : c ≠ l) (h : s.gatesCut l) :
    (moveGroup c new timer s).gatesCut l := by
  obtain ⟨single, state, cut⟩ := h
  have entered : (s.entered c new timer).gatesCut l := by
    refine ⟨single, ?_, fun e he => ?_⟩
    · rw [entered_engine, if_neg (Ne.symm hc)]
      exact state
    · rw [entered_gateEnable]
      exact cut e he
  have followed : (s.followed c new timer).gatesCut l :=
    gateSyncs_induct (State.gatesCut l) (fun d _ hu => gateSync_gatesCut d hu) _ _ entered
  refine gatesCut_of_eq ?_ (fun d => ?_) (fun d => ?_) followed
  · rw [moveGroup_consts, State.followed, gateSyncs_consts]
  · rw [State.eng, moveGroup_engines]
    rfl
  · rw [State.eng, moveGroup_engines]
    rfl

theorem marked_gatesCut {e : Engine} (hs : e.state = (s.eng c).state) (hg : e.gateEnable = (s.eng c).gateEnable)
    (h : s.gatesCut l) : ({ s with engines := vset s.engines c e } : State).gatesCut l := by
  refine gatesCut_of_eq (s := s) rfl (fun d => ?_) (fun d => ?_) h <;>
  · rw [State.eng, vget_vset]
    split
    · next hd => rw [← hd]; assumption
    · rfl

theorem reacts_gatesCut (l : Chan) : Reacts (State.gatesCut l) where
  write _ _ _ _ _ h := h
  envs _ _ h := h
  brakeMark _ h := marked_gatesCut rfl rfl h
  derate _ h := marked_gatesCut rfl rfl h
  hold c timer hr h := by
    refine moveGroup_gatesCut _ timer ?_ h
    rintro rfl
    obtain ⟨-, state, -⟩ := h
    rw [state] at hr
    cases hr

/-! #### Entry, and what follows it -/

theorem gated_cut (e : Engine) {on : Bool} (h : on = false) : (e.gated on).gateEnable = false := by
  subst h
  unfold Engine.gated
  split <;> rfl

theorem movedEngine_cut {e : Chan} {timer : Option Nat} (he : e ∈ s.group l) :
    (s.movedEngine l .tripped timer e).gateEnable = false := by
  have off : s.gateIn .tripped e = false := by simp [State.gateIn, ChState.driving]
  unfold State.movedEngine
  rw [if_pos he]
  split
  · exact gated_cut _ off
  · exact gated_cut _ off


theorem toTripped_down (k : FaultKind) (n : Nat) (hf : s.consts.isFollower l = false) :
    (toTripped l k n s).down l ⟨k, s.period, n⟩ := by
  have consts : (toTripped l k n s).consts = s.consts := toTripped_consts _ _ _ _
  have course := toTripped_course l k n s l
  rw [if_pos rfl] at course
  refine ⟨by rw [consts]; exact hf, (congrArg Engine.state course :), (congrArg Engine.timer course :), ?_, fun e he => ⟨?_, ?_⟩⟩
  · rw [toTripped_queue, if_pos rfl]
  · rw [State.group, consts] at he
    have flushed : (flushQueue l (fillTrips ⟨k, s.period, n⟩ (s.group l) s)).consts = s.consts := by
      rw [flushQueue_consts, fillTrips_consts]
    unfold toTripped
    dsimp only
    rw [State.eng, moveGroup_eq, broadcast_engines, moved_engines]
    refine (congrArg Engine.gateEnable (followed_engine (by rw [flushed]; exact hf) e)).trans ?_
    have member : e ∈ (flushQueue l (fillTrips ⟨k, s.period, n⟩ (s.group l) s)).group l := by
      rw [State.group, flushed]
      exact he
    exact movedEngine_cut member
  · rw [State.group, consts] at he
    rw [toTripped_trip]
    exact if_pos he

/-- What follows the entry to TRIPPED. -/
theorem detectTrip_cases {k : FaultKind} {n : Nat} (h : s.chState c ≠ .tripped) : ∃ u,
    u = takeReactions (toTripped (s.lead c) k n s) ∧
    ((detectTrip k c n s = tripReaction k c (reportDeparture u) ∧ s.chState c = .stopping) ∨
      (detectTrip k c n s = reportDeparture (tripReaction k c u) ∧ s.chState c = .stopping) ∨
      detectTrip k c n s = tripReaction k c u) := by
  refine ⟨_, rfl, ?_⟩
  unfold detectTrip
  dsimp only
  split
  · next hs => exact absurd hs h
  · next hs =>
    split
    · exact .inl ⟨rfl, hs⟩
    · exact .inr (.inl ⟨rfl, hs⟩)
  all_goals exact .inr (.inr rfl)

end

end Sys2Proof.Machine


namespace Sys2Proof.Machine

/-! ### A detected trip (01, R14; 07, R135, R141, R153) -/

section

variable {l c : Chan} {r : TripRecord} {s u : State} {k : FaultKind} {n : Nat}

theorem State.down.notRunning (h : s.down l r) : (s.eng l).state.running = false := by
  obtain ⟨-, state, -⟩ := h
  rw [state]
  rfl

theorem tripReaction_down (k : FaultKind) (c : Chan) (h : s.down l r) : (tripReaction k c s).down l r :=
  h.still ((flushQueue_still (s.lead c) s).trans (still_of_eq (broadcast_engines .fault _) (broadcast_queues .fault _)))
    ((reacts_gatesCut l).tripReaction k c h.cut) (tripReaction_consts k c s)

theorem takeReactions_down (h : s.down l r) : (takeReactions s).down l r :=
  h.still (takeReactions_still h.notRunning) ((reacts_gatesCut l).takeReactions h.cut) (takeReactions_consts s)

theorem endSafeStop_down (e : ReactionEnd) (h : s.down l r) : (endSafeStop e s).down l r :=
  h.still (endSafeStop_still e s) ((reacts_gatesCut l).endSafeStop e h.cut) (endSafeStop_consts e s)

theorem reportDeparture_down (h : s.down l r) : (reportDeparture s).down l r := by
  unfold reportDeparture
  split
  · split
    · exact takeReactions_down (endSafeStop_down _ h)
    · exact h
  · exact h

theorem reportOrdinary_down (k : FaultKind) (sc : Scope) (e : Option W16) (h : s.down l r) :
    (reportOrdinary k sc e s).down l r := takeReactions_down (s := pendReport k sc e s) h

theorem detectTrip_down (h : s.chState c ≠ .tripped) : (detectTrip k c n s).down (s.lead c) ⟨k, s.period, n⟩ := by
  obtain ⟨u, hu, hcases⟩ := detectTrip_cases (k := k) (n := n) h
  have tripped : u.down (s.lead c) ⟨k, s.period, n⟩ := hu ▸ takeReactions_down (toTripped_down k n (isFollower_lead _ c))
  rcases hcases with ⟨he, -⟩ | ⟨he, -⟩ | he
  · rw [he]
    exact tripReaction_down k c (reportDeparture_down tripped)
  · rw [he]
    exact reportDeparture_down (tripReaction_down k c tripped)
  · rw [he]
    exact tripReaction_down k c tripped

theorem tripReaction_told {q : Port} (h : (s.port q).subscribes .fault = true) :
    ((tripReaction k c s).port q).summary.getLsbD NoticeKind.fault.index = true :=
  broadcast_told (s := flushQueue (s.lead c) s) h

theorem detectTrip_told (h : s.chState c ≠ .tripped) {q : Port} (hq : (s.port q).subscribes .fault = true) :
    ((detectTrip k c n s).port q).summary.getLsbD NoticeKind.fault.index = true := by
  obtain ⟨u, hu, hcases⟩ := detectTrip_cases (k := k) (n := n) h
  have framed : s.framed u := hu ▸ (toTripped_framed s _ k n).trans (takeReactions_framed _)
  have subscribes : (u.port q).subscribes .fault = true := (framed.subscribes q _).trans hq
  rcases hcases with ⟨he, -⟩ | ⟨he, -⟩ | he
  · rw [he]
    exact tripReaction_told (((reportDeparture_framed u).subscribes q _).trans subscribes)
  · rw [he]
    exact (reportDeparture_framed _).heard (tripReaction_told subscribes)
  · rw [he]
    exact tripReaction_told subscribes

/-- With the channel not in STOPPING the trip is the last severe fault. -/
theorem detectTrip_severe (h : s.chState c ≠ .tripped) (hs : s.chState c ≠ .stopping) :
    (detectTrip k c n s).retained.severe = some ⟨k, .channel c, s.period⟩ := by
  obtain ⟨u, hu, hcases⟩ := detectTrip_cases (k := k) (n := n) h
  have period : u.period = s.period := by rw [hu, takeReactions_period, toTripped_period]
  rcases hcases with ⟨-, he⟩ | ⟨-, he⟩ | he
  · exact absurd he hs
  · exact absurd he hs
  · rw [he, ← period]
    rfl

/-- With nothing pending a trip out of STOPPING or not leaves nothing pending. -/
theorem detectTrip_pendingSet (h : s.chState c ≠ .tripped) (hs : s.chState c ≠ .stopping)
    (hp : s.react.pendingSet = []) : (detectTrip k c n s).react.pendingSet = [] := by
  obtain ⟨u, hu, hcases⟩ := detectTrip_cases (k := k) (n := n) h
  have react : (toTripped (s.lead c) k n s).react = s.react := toTripped_react _ _ _ _
  have quiet : u = toTripped (s.lead c) k n s := hu.trans (takeReactions_of_quiet (quiet_of_empty (by rw [react]; exact hp)))
  rcases hcases with ⟨-, he⟩ | ⟨-, he⟩ | he
  · exact absurd he hs
  · exact absurd he hs
  · rw [he, tripReaction_react, quiet, react, hp]

theorem State.down.chState (h : s.down (u.lead c) r) (hk : s.consts = u.consts) : s.chState c = .tripped := by
  obtain ⟨-, state, -⟩ := h
  rw [State.chState, State.lead, hk]
  exact state

end

/-! ### A sample that trips its group (04, R77, R78) -/

section

variable {c : Chan} {d : SampleData} {k : FaultKind} {detail : Nat} {s u : State}

/-- What the sample finds wrong, and its detail. -/
def SampleData.faulty (d : SampleData) (level : Nat) (k : FaultKind) (detail : Nat) : Prop :=
  (level < largestPhase d.ia d.ib ∧ k = .overcurrent ∧ detail = largestPhase d.ia d.ib) ∨
    (largestPhase d.ia d.ib ≤ level ∧ k = .bridgeFault ∧
      ((d.desat = true ∧ d.overtemp = false ∧ detail = 1) ∨ (d.desat = false ∧ d.overtemp = true ∧ detail = 2) ∨
        (d.desat = true ∧ d.overtemp = true ∧ detail = 3)))

/-- A sample that finds a fault detects it once: after an overcurrent the group is in TRIPPED. -/
theorem sampleChecks_trips (hf : d.faulty (tripLevel (vget u.consts.ceiling c)) k detail) (ht : u.chState c ≠ .tripped) :
    sampleChecks c d u = detectTrip k c detail u := by
  unfold sampleChecks
  dsimp only
  rcases hf with ⟨exceeds, rfl, rfl⟩ | ⟨within, rfl, kinds⟩
  · have down := detectTrip_down (k := .overcurrent) (n := largestPhase d.ia d.ib) ht
    have tripped := down.chState (detectTrip_consts _ _ _ _)
    rw [if_pos exceeds, detectTrip_tripped tripped, ite_self]
  · rw [if_neg (Nat.not_lt.mpr within)]
    rcases kinds with ⟨hd, ho, rfl⟩ | ⟨hd, ho, rfl⟩ | ⟨hd, ho, rfl⟩ <;> rw [hd, ho] <;> rfl

/-- The readiness report moves no channel, and what is pending or recorded stays. -/
theorem changeLink_ready_same (hop : u.phase = .operating) : (∀ e, ((changeLink .ready u).eng e).state = (u.eng e).state) ∧
    (changeLink .ready u).react = u.react ∧ (changeLink .ready u).retained = u.retained := by
  have link : (enterLink .ready u).link.state ≠ .discharged := by
    rw [enterLink_link]
    exact nofun
  have reported : (enterLink .ready u).linkReported = broadcast .linkState (enterLink .ready u) := if_neg link
  rw [changeLink, handLinkState_operating (enterLink_operating hop), reported]
  refine ⟨fun e => ?_, ?_, ?_⟩
  · rw [State.eng, setBudget_engines, broadcast_engines, enterLink_state]
    rfl
  · rw [setBudget_react, broadcast_react, enterLink_react]
  · rw [setBudget_retained, broadcast_retained, enterLink_retained]

theorem sampled_same (hop : s.phase = .operating) : (∀ e, (s.sampled c d).chState e = s.chState e) ∧
    (s.sampled c d).react = s.react ∧ (s.sampled c d).retained = s.retained := by
  by_cases hr : d.ready = (s.eng c).moduleReady
  · rw [sampled_unchanged hr]
    exact ⟨fun e => recordSample_chState c e d s, rfl, rfl⟩
  · have operating : ({ recordSample c d s with link := { s.link with ready := vset s.link.ready c d.ready } } : State).phase =
        .operating := hop
    rw [sampled_ready hr, judgeWake_eq]
    split
    · obtain ⟨state, react, retained⟩ := changeLink_ready_same operating
      refine ⟨fun e => ?_, react, retained⟩
      unfold State.chState State.lead
      rw [changeLink_consts, state]
      exact recordSample_chState c e d s
    · exact ⟨fun e => recordSample_chState c e d s, rfl, rfl⟩

theorem sampled_framed : s.framed (s.sampled c d) := by
  have recorded : s.framed (recordSample c d s) := framed_refl s
  have judged (u : State) : u.framed (judgeWake u) := by
    unfold judgeWake
    split
    · exact changeLink_framed _ _
    · exact framed_refl _
  by_cases hr : d.ready = (s.eng c).moduleReady
  · rw [sampled_unchanged hr]
    exact recorded
  · rw [sampled_ready hr]
    exact judged { recordSample c d s with link := { s.link with ready := vset s.link.ready c d.ready } }

/-! #### The rest of the sample -/

theorem chargeHeat_down {l : Chan} {r : TripRecord} (heat : Nat) (above : Bool) (h : u.down l r) :
    (chargeHeat c heat above u).down l r := by
  unfold chargeHeat
  dsimp only
  split
  · exact reportOrdinary_down _ _ _ (h.engine (e := { u.eng c with heat := heat, thermalInd := true }) rfl rfl rfl rfl)
  · exact h.engine (e := { u.eng c with heat := heat }) rfl rfl rfl rfl

theorem clearThermal_down {l : Chan} {r : TripRecord} (found below : Bool) (h : u.down l r) :
    (clearThermal c found below u).down l r := by
  unfold clearThermal
  dsimp only
  split
  · have cleared := h.engine (c := c)
      (e := { u.eng c with thermalInd := false, derate := (u.eng c).derate && !found }) rfl rfl rfl rfl
    split
    · exact cleared
    · exact cleared
  · exact h

theorem loopAndRecord_down {r : TripRecord} {l : Chan} (angle : Nat) (derate : Bool) (hc : c ∈ u.group l)
    (h : u.down l r) : (loopAndRecord c angle derate u).down l r := by
  have off : (u.eng c).gateEnable = false := by
    obtain ⟨-, -, -, -, group⟩ := h
    exact (group c hc).1
  rw [loopAndRecord_off off]
  exact h.engine (e := { u.eng c with lastDuties := Duties.zero }) rfl rfl rfl rfl

theorem chargeHeat_framed (heat : Nat) (above : Bool) (u : State) : u.framed (chargeHeat c heat above u) := by
  unfold chargeHeat
  dsimp only
  split
  · exact takeReactions_framed (pendReport .thermal (.channel c) none _)
  · exact framed_refl u

theorem clearThermal_framed (found below : Bool) (u : State) : u.framed (clearThermal c found below u) := by
  unfold clearThermal
  dsimp only
  split
  · split
    · exact broadcast_framed { u with engines := _ } .thermal
    · exact framed_refl u
  · exact framed_refl u

theorem loopAndRecord_framed (angle : Nat) (derate : Bool) (u : State) : u.framed (loopAndRecord c angle derate u) := by
  unfold loopAndRecord
  dsimp only
  split
  · exact framed_refl u
  · exact framed_refl u

/-- With nothing pending a THERMAL report leaves the last severe fault. -/
theorem chargeHeat_retained (heat : Nat) (above : Bool) (hp : u.react.pendingSet = []) :
    (chargeHeat c heat above u).retained = u.retained := by
  unfold chargeHeat
  dsimp only
  split
  · generalize hv : ({ u with engines := vset u.engines c { u.eng c with heat := heat, thermalInd := true } } : State) = v
    have pending : v.react.pendingSet = [] := by rw [← hv]; exact hp
    have retained : v.retained = u.retained := by rw [← hv]
    rw [← retained]
    by_cases ht : v.react.inService = none ∧ v.takeable ⟨.thermal, .channel c, v.period, 1, none⟩ = true
    · rw [reportOrdinary_taken rfl pending rfl ht.1 ht.2]
      rfl
    · rw [reportOrdinary_waits pending rfl (?_ : _ ∨ _)]
      rw [Classical.not_and_iff_not_or_not, Bool.not_eq_true, ← ne_eq, ← Option.isSome_iff_ne_none] at ht
      exact ht
  · rfl

end

section

variable {c : Chan} {d : SampleData} {heat : Nat} {g : Guarded} {below : Bool} {s : State}

/-- Every good sample ends in the state that its thermal step and its loop leave. -/
theorem exec_sample_finished {bs : List Byte} (hp : parseSample bs = some d) (hg : s.goodSample c d = true) :
    ∃ heat g below, exec (.sampleRecord c bs) s = .next (settle (s.finished c d heat g below)) :=
  ⟨_, _, _, (exec_sample_good hp hg).trans
    (congrArg (fun u => Host.Outcome.next (settle u)) (takeSample_eq rfl rfl rfl rfl))⟩

theorem checked_framed : s.framed (s.checked c d) := by
  have first (u : State) : u.framed (sampleChecks c d u) := by
    have tested : u.framed (if tripLevel (vget u.consts.ceiling c) < largestPhase d.ia d.ib then
        detectTrip .overcurrent c (largestPhase d.ia d.ib) u else u) := by
      split
      · exact detectTrip_framed u _ c _
      · exact framed_refl u
    unfold sampleChecks
    dsimp only
    split
    · exact tested.trans (detectTrip_framed _ _ c _)
    · exact tested
  exact sampled_framed.trans (first _)

theorem finished_framed : s.framed (s.finished c d heat g below) :=
  ((checked_framed.trans (chargeHeat_framed _ _ _)).trans (clearThermal_framed _ _ _)).trans (loopAndRecord_framed _ _ _)

theorem finished_down {r : TripRecord} (h : (s.checked c d).down (s.lead c) r) :
    (s.finished c d heat g below).down (s.lead c) r := by
  have cleared := clearThermal_down (c := c) (s.eng c).derate below
    (chargeHeat_down (c := c) heat (heatAbove heat g.continuous g.tau) h)
  refine loopAndRecord_down d.angle _ ?_ cleared
  have framed := (checked_framed (c := c) (d := d) (s := s)).trans
    ((chargeHeat_framed (c := c) heat (heatAbove heat g.continuous g.tau) _).trans (clearThermal_framed (c := c) (s.eng c).derate below _))
  rw [State.group, framed.consts]
  exact mem_group_of_lead rfl

theorem finished_retained (hp : (s.checked c d).react.pendingSet = []) :
    (s.finished c d heat g below).retained = (s.checked c d).retained := by
  rw [State.finished, loopAndRecord_retained, clearThermal_retained, chargeHeat_retained _ _ hp]

end

/-- A settled state is framed as it was. -/
theorem settle_sameFrame (s : State) : s.sameFrame (settle s) :=
  ⟨rfl, rfl, rfl, rfl, rfl, rfl, rfl, rfl, rfl, rfl, rfl, fun q => by
    rw [State.port, settle_ports_get]
    exact PortBlock.settle_sameLink _ _ _⟩

/-- Settles O20. -/
theorem overcurrentTripsTheGroup : Obligations.OvercurrentTripsTheGroup := by
  refine ⟨fun c d bs k detail s hp hg ht hf => ?sample, fun k c detail s t he => ⟨fun ht => ?again, fun ht => ?trips⟩⟩
  case again => rw [he, detectTrip_tripped ht]
  case trips =>
    have down := detectTrip_down (k := k) (n := detail) ht
    rw [he]
    have tripped := down.chState (detectTrip_consts k c detail s)
    obtain ⟨-, -, timer, empty, group⟩ := down
    refine ⟨tripped, timer, empty, fun e hm => group e ?_, detectTrip_severe ht, fun q => detectTrip_told ht,
      (detectTrip_framed s k c detail).frame⟩
    rw [State.group, detectTrip_consts]
    exact hm
  case sample =>
    obtain ⟨hop, -⟩ := goodSample_iff.mp hg
    obtain ⟨state, react, retained⟩ := sampled_same (c := c) (d := d) hop
    obtain ⟨-, -, -, consts, -, -, period, -⟩ := (sampled_framed (c := c) (d := d) (s := s)).frame
    have untripped : (s.sampled c d).chState c ≠ .tripped := by rw [state]; exact ht
    have checked : s.checked c d = detectTrip k c detail (s.sampled c d) :=
      sampleChecks_trips (by rw [consts]; exact hf) untripped
    have lead : (s.sampled c d).lead c = s.lead c := by rw [State.lead, consts]; rfl
    have down := detectTrip_down (k := k) (n := detail) untripped
    rw [← checked, lead, period] at down
    obtain ⟨heat, g, below, finished⟩ := exec_sample_finished hp hg
    have framed := finished_framed (c := c) (d := d) (heat := heat) (g := g) (below := below) (s := s)
    have ended := finished_down (heat := heat) (g := g) (below := below) down
    have tripped := ended.chState framed.consts
    obtain ⟨-, -, timer, empty, group⟩ := ended
    refine ⟨_, finished, tripped, timer, empty, fun e he => group e ?_, fun hpend hs => ?_, ?_⟩
    · rw [State.group, framed.consts]
      exact he
    · have moving : (s.sampled c d).chState c ≠ .stopping := by rw [state]; exact hs
      have empty := detectTrip_pendingSet (k := k) (n := detail) untripped moving (by rw [react]; exact hpend)
      rw [← checked] at empty
      rw [settle_retained, finished_retained empty, checked, detectTrip_severe untripped moving, period]
    · exact framed.frame.trans (settle_sameFrame _)

end Sys2Proof.Machine


namespace Sys2Proof.Machine

/-! ### What the bytes of a frame or record spell (12, R188) -/

theorem beBytes_length (k n : Nat) : (beBytes k n).length = k := by
  induction k with
  | zero => rfl
  | succ k ih => rw [beBytes, List.length_cons, ih]

theorem beBytes_two (n : Nat) : beBytes 2 n = [BitVec.ofNat 8 (n / 256), BitVec.ofNat 8 n] := by
  simp [beBytes]

theorem ofBytes_beBytes_two {n : Nat} (small : n < 65536) : ofBytes (beBytes 2 n) = n := by
  rw [beBytes_two, ofBytes_pair, BitVec.toNat_ofNat, BitVec.toNat_ofNat]
  omega

theorem ofBytes_pair_lt (a b : Byte) : ofBytes [a, b] < 65536 := by
  rw [ofBytes_pair]
  have := a.isLt
  have := b.isLt
  omega

/-- A number that two bytes hold is written as the two bytes it is read from. -/
theorem beBytes_two_eq_iff {n : Nat} {a b : Byte} :
    beBytes 2 n = [a, b] ∧ n < 65536 ↔ n = ofBytes [a, b] := by
  constructor
  · rintro ⟨bytes, small⟩
    rw [← bytes, ofBytes_beBytes_two small]
  · intro spelled
    exact spelled ▸ ⟨beBytes_ofBytes_two a b, ofBytes_pair_lt a b⟩

theorem beBytes_word_eq_iff {x : W16} {a b : Byte} :
    beBytes 2 x.toNat = [a, b] ↔ x = BitVec.ofNat 16 (ofBytes [a, b]) := by
  have small : x.toNat < 65536 := x.isLt
  rw [← and_iff_left (a := beBytes 2 x.toNat = [a, b]) small, beBytes_two_eq_iff]
  constructor
  · intro spelled
    rw [← spelled, BitVec.ofNat_toNat, BitVec.setWidth_eq]
  · intro written
    rw [written, BitVec.toNat_ofNat]
    exact Nat.mod_eq_of_lt (ofBytes_pair_lt a b)

theorem intBytes_eq_iff {i : Int} {a b : Byte} :
    intBytes i = [a, b] ∧ -32768 ≤ i ∧ i ≤ 32767 ↔ i = signed16 (ofBytes [a, b]) := by
  have small := ofBytes_pair_lt a b
  have written : intBytes i = [a, b] ↔ (i % 65536).toNat = ofBytes [a, b] := by
    have residue : (i % 65536).toNat < 65536 := by omega
    rw [intBytes, ← beBytes_two_eq_iff, and_iff_left residue]
  rw [written, signed16]
  split <;> omega

/-- The last two bytes of a checked list are the check of those before them. -/
theorem checkOk_append_pair (body : List Byte) (x y : Byte) :
    checkOk (body ++ [x, y]) = true ↔ body ++ [x, y] = withCheck body := by
  have count : (body ++ [x, y]).length - 2 = body.length := by simp
  have long : 2 ≤ (body ++ [x, y]).length := by simp
  rw [checkOk, Bool.and_eq_true, decide_eq_true_eq, decide_eq_true_eq, and_iff_right long, count, List.drop_left,
    List.take_left, withCheck, List.append_cancel_left_eq]
  constructor
  · intro spelled
    rw [← spelled, beBytes_ofBytes_two]
  · intro bytes
    rw [bytes, ofBytes_beBytes_two (crc16 body).isLt]

theorem withCheck_eq_append_pair (body : List Byte) : ∃ x y, withCheck body = body ++ [x, y] :=
  ⟨_, _, congrArg (body ++ ·) (beBytes_two _)⟩

theorem withCheck_length (body : List Byte) : (withCheck body).length = body.length + 2 := by
  rw [withCheck, List.length_append, beBytes_length]

theorem checkOk_withCheck (body : List Byte) : checkOk (withCheck body) = true := by
  obtain ⟨x, y, pair⟩ := withCheck_eq_append_pair body
  rw [pair, checkOk_append_pair, pair]

/-- A list checks exactly when it is all but its last two bytes with the check of those. -/
theorem checkOk_iff (bs : List Byte) : checkOk bs = true ↔ bs = withCheck (bs.take (bs.length - 2)) := by
  constructor
  · intro checked
    have long : 2 ≤ bs.length := by
      rw [checkOk, Bool.and_eq_true, decide_eq_true_eq] at checked
      exact checked.1
    have tail : (bs.drop (bs.length - 2)).length = 2 := by
      rw [List.length_drop]
      omega
    obtain ⟨x, y, pair⟩ := pair_of_length tail
    have parts : bs = bs.take (bs.length - 2) ++ [x, y] := by rw [← pair, List.take_append_drop]
    have checkedParts := (checkOk_append_pair (bs.take (bs.length - 2)) x y).mp (parts ▸ checked)
    exact parts.trans checkedParts
  · intro written
    rw [written]
    exact checkOk_withCheck _

/-! ### The REQUEST frame (12, R188, R190) -/

theorem parseFrame_cons (kind len n1 n0 code : Byte) (rest : List Byte) :
    parseFrame (kind :: len :: n1 :: n0 :: code :: rest) =
      if len.toNat ≤ 120 ∧ 3 ≤ len.toNat ∧ rest.length + 5 = 4 + len.toNat ∧
          checkOk (kind :: len :: n1 :: n0 :: code :: rest) = true ∧ kind = 1#8 then
        some { number := BitVec.ofNat 16 (ofBytes [n1, n0]), code := code.toNat, fields := rest.take (len.toNat - 3) }
      else none := rfl

/-- A frame's bytes before its check. -/
theorem requestFrame_eq (f : Frame) : requestFrame f =
    withCheck (1#8 :: BitVec.ofNat 8 (f.fields.length + 3) :: (beBytes 2 f.number.toNat ++
      BitVec.ofNat 8 f.code :: f.fields)) := by
  have count : (beBytes 2 f.number.toNat ++ BitVec.ofNat 8 f.code :: f.fields).length = f.fields.length + 3 := by
    rw [List.length_append, beBytes_length, List.length_cons]
    omega
  rw [requestFrame, frameBytes, count]

theorem parseFrame_written {bs : List Byte} {f : Frame} (h : parseFrame bs = some f) :
    bs = requestFrame f ∧ f.code < 256 ∧ f.fields.length ≤ 117 := by
  match bs, h with
  | kind :: len :: n1 :: n0 :: code :: rest, h =>
    rw [parseFrame_cons] at h
    obtain ⟨⟨short, long, count, checked, request⟩, read⟩ := Option.ite_none_right_eq_some.mp h
    subst request
    have fields : (rest.take (len.toNat - 3)).length = len.toNat - 3 := by
      rw [List.length_take]
      omega
    have lengthByte : BitVec.ofNat 8 (len.toNat - 3 + 3) = len := by
      rw [Nat.sub_add_cancel long, BitVec.ofNat_toNat, BitVec.setWidth_eq]
    have codeByte : BitVec.ofNat 8 code.toNat = code := by rw [BitVec.ofNat_toNat, BitVec.setWidth_eq]
    have body : (1#8 :: len :: n1 :: n0 :: code :: rest).take ((1#8 :: len :: n1 :: n0 :: code :: rest).length - 2) =
        1#8 :: len :: n1 :: n0 :: code :: rest.take (len.toNat - 3) := by
      have reach : (1#8 :: len :: n1 :: n0 :: code :: rest).length - 2 = len.toNat - 3 + 5 := by
        simp only [List.length_cons]
        omega
      rw [reach]
      rfl
    rw [checkOk_iff, body] at checked
    have frame := Option.some.inj read
    rw [← frame, requestFrame_eq]
    dsimp only
    rw [fields, lengthByte, codeByte, beBytes_word_eq_iff.mpr rfl]
    exact ⟨checked, code.isLt, by omega⟩
  | [], h | [_], h | [_, _], h | [_, _, _], h | [_, _, _, _], h => nomatch h

theorem parseFrame_requestFrame {f : Frame} (hcode : f.code < 256) (hfields : f.fields.length ≤ 117) :
    parseFrame (requestFrame f) = some f := by
  have checked := checkOk_withCheck (1#8 :: BitVec.ofNat 8 (f.fields.length + 3) :: (beBytes 2 f.number.toNat ++
    BitVec.ofNat 8 f.code :: f.fields))
  have number := (beBytes_word_eq_iff (x := f.number)).mp (beBytes_two _)
  have lengthByte : (BitVec.ofNat 8 (f.fields.length + 3)).toNat = f.fields.length + 3 := by
    rw [BitVec.toNat_ofNat]
    omega
  have codeByte : (BitVec.ofNat 8 f.code).toNat = f.code := by
    rw [BitVec.toNat_ofNat]
    omega
  have count (check : List Byte) (two : check.length = 2) : (f.fields ++ check).length + 5 =
      4 + (BitVec.ofNat 8 (f.fields.length + 3)).toNat := by
    rw [List.length_append, two]
    omega
  rw [requestFrame_eq]
  rw [withCheck, beBytes_two f.number.toNat] at checked ⊢
  refine (parseFrame_cons _ _ _ _ _ _).trans ?_
  rw [if_pos ⟨by omega, by omega, count _ (beBytes_length _ _), checked, rfl⟩, ← number, lengthByte, codeByte, Nat.add_sub_cancel]
  exact congrArg (fun fields => some { f with fields := fields }) List.take_left

/-! ### The records (12, R188, R193) -/

theorem parseSample_list (kind s1 s0 a1 a0 b1 b0 t1 t0 flags x y : Byte) :
    parseSample [kind, s1, s0, a1, a0, b1, b0, t1, t0, flags, x, y] =
      if kind = 2#8 ∧ checkOk [kind, s1, s0, a1, a0, b1, b0, t1, t0, flags, x, y] = true ∧ flags.toNat < 8 then
        some { stamp := BitVec.ofNat 16 (ofBytes [s1, s0]), ia := signed16 (ofBytes [a1, a0])
               ib := signed16 (ofBytes [b1, b0]), angle := ofBytes [t1, t0]
               desat := flags.getLsbD 0, overtemp := flags.getLsbD 1, ready := flags.getLsbD 2 }
      else none := rfl

theorem parseSupply_list (kind s1 s0 v1 v0 c1 c0 status x y : Byte) :
    parseSupply [kind, s1, s0, v1, v0, c1, c0, status, x, y] =
      if kind = 4#8 ∧ checkOk [kind, s1, s0, v1, v0, c1, c0, status, x, y] = true ∧
          ofBytes [c1, c0] ≤ 32767 ∧ status.toNat < 2 then
        some { stamp := BitVec.ofNat 16 (ofBytes [s1, s0]), voltage := ofBytes [v1, v0]
               available := ofBytes [c1, c0], mains := status.getLsbD 0 }
      else none := rfl

/-- Three flags in one byte. -/
def flagByte3 (a b c : Bool) : Byte := flagByte a ||| (flagByte b <<< 1) ||| (flagByte c <<< 2)

theorem flagByte3_eq_iff {x : Byte} {a b c : Bool} :
    flagByte3 a b c = x ↔ x.toNat < 8 ∧ a = x.getLsbD 0 ∧ b = x.getLsbD 1 ∧ c = x.getLsbD 2 := by
  revert x a b c
  decide

theorem flagByte_eq_iff {x : Byte} {a : Bool} : flagByte a = x ↔ x.toNat < 2 ∧ a = x.getLsbD 0 := by
  revert x a
  decide

theorem withCheck_eq_iff {bs body : List Byte} :
    bs = withCheck body ↔ checkOk bs = true ∧ bs.take (bs.length - 2) = body := by
  constructor
  · rintro rfl
    refine ⟨checkOk_withCheck body, ?_⟩
    rw [withCheck_length, Nat.add_sub_cancel, withCheck, List.take_left]
  · rintro ⟨checked, rfl⟩
    exact (checkOk_iff bs).mp checked

theorem pair_append_eq_iff {field rest tail : List Byte} {a b : Byte} (two : field.length = 2) :
    a :: b :: rest = field ++ tail ↔ field = [a, b] ∧ rest = tail := by
  obtain ⟨x, y, rfl⟩ := pair_of_length two
  simp only [List.cons_append, List.nil_append, List.cons.injEq, and_true, and_assoc, eq_comm]

theorem sampleBytes_length (d : SampleData) : (sampleBytes d).length = 12 := by
  simp only [sampleBytes, withCheck_length, List.length_cons, List.length_append, beBytes_length, intBytes, List.length_nil]

theorem supplyBytes_length (d : SupplyData) : (supplyBytes d).length = 10 := by
  simp only [supplyBytes, withCheck_length, List.length_cons, List.length_append, beBytes_length, List.length_nil]

/-- A sample record's twelve bytes, field by field. -/
theorem sampleBytes_eq_iff {d : SampleData} {kind s1 s0 a1 a0 b1 b0 t1 t0 flags x y : Byte} :
    [kind, s1, s0, a1, a0, b1, b0, t1, t0, flags, x, y] = sampleBytes d ↔
      checkOk [kind, s1, s0, a1, a0, b1, b0, t1, t0, flags, x, y] = true ∧ kind = 2#8 ∧
      beBytes 2 d.stamp.toNat = [s1, s0] ∧ intBytes d.ia = [a1, a0] ∧ intBytes d.ib = [b1, b0] ∧
      beBytes 2 d.angle = [t1, t0] ∧ flagByte3 d.desat d.overtemp d.ready = flags := by
  rw [sampleBytes, withCheck_eq_iff]
  refine and_congr_right fun _ => ?_
  have two (i : Int) : (intBytes i).length = 2 := beBytes_length _ _
  simp only [List.length_cons, List.length_nil, Nat.reduceAdd, Nat.reduceSub, List.take_succ_cons, List.take_zero,
    List.cons.injEq, List.append_assoc, pair_append_eq_iff (beBytes_length 2 _), pair_append_eq_iff (two _), flagByte3,
    and_true, eq_comm (a := flags)]

theorem supplyBytes_eq_iff {d : SupplyData} {kind s1 s0 v1 v0 c1 c0 status x y : Byte} :
    [kind, s1, s0, v1, v0, c1, c0, status, x, y] = supplyBytes d ↔
      checkOk [kind, s1, s0, v1, v0, c1, c0, status, x, y] = true ∧ kind = 4#8 ∧
      beBytes 2 d.stamp.toNat = [s1, s0] ∧ beBytes 2 d.voltage = [v1, v0] ∧ beBytes 2 d.available = [c1, c0] ∧
      flagByte d.mains = status := by
  rw [supplyBytes, withCheck_eq_iff]
  refine and_congr_right fun _ => ?_
  simp only [List.length_cons, List.length_nil, Nat.reduceAdd, Nat.reduceSub, List.take_succ_cons, List.take_zero,
    List.cons.injEq, List.append_assoc, pair_append_eq_iff (beBytes_length 2 _), and_true, eq_comm (a := status)]

theorem parseSample_list_iff {d : SampleData} {kind s1 s0 a1 a0 b1 b0 t1 t0 flags x y : Byte} :
    parseSample [kind, s1, s0, a1, a0, b1, b0, t1, t0, flags, x, y] = some d ↔
      [kind, s1, s0, a1, a0, b1, b0, t1, t0, flags, x, y] = sampleBytes d ∧
      -32768 ≤ d.ia ∧ d.ia ≤ 32767 ∧ -32768 ≤ d.ib ∧ d.ib ≤ 32767 ∧ d.angle < 65536 := by
  obtain ⟨stamp, ia, ib, angle, desat, overtemp, ready⟩ := d
  rw [parseSample_list, Option.ite_none_right_eq_some, sampleBytes_eq_iff, beBytes_word_eq_iff, flagByte3_eq_iff]
  simp only [Option.some.injEq, SampleData.mk.injEq, eq_comm (b := stamp), eq_comm (b := ia), eq_comm (b := ib),
    eq_comm (b := angle), eq_comm (b := desat), eq_comm (b := overtemp), eq_comm (b := ready), ← intBytes_eq_iff,
    ← beBytes_two_eq_iff]
  constructor
  · rintro ⟨⟨kinds, checked, flag⟩, stamps, ⟨aBytes, aLow, aHigh⟩, ⟨bBytes, bLow, bHigh⟩, ⟨angles, angleHigh⟩, flags⟩
    exact ⟨⟨checked, kinds, stamps, aBytes, bBytes, angles, flag, flags⟩, aLow, aHigh, bLow, bHigh, angleHigh⟩
  · rintro ⟨⟨checked, kinds, stamps, aBytes, bBytes, angles, flag, flags⟩, aLow, aHigh, bLow, bHigh, angleHigh⟩
    exact ⟨⟨kinds, checked, flag⟩, stamps, ⟨aBytes, aLow, aHigh⟩, ⟨bBytes, bLow, bHigh⟩, ⟨angles, angleHigh⟩, flags⟩

theorem parseSupply_list_iff {d : SupplyData} {kind s1 s0 v1 v0 c1 c0 status x y : Byte} :
    parseSupply [kind, s1, s0, v1, v0, c1, c0, status, x, y] = some d ↔
      [kind, s1, s0, v1, v0, c1, c0, status, x, y] = supplyBytes d ∧ d.voltage < 65536 ∧ d.available ≤ 32767 := by
  obtain ⟨stamp, voltage, available, mains⟩ := d
  have small : beBytes 2 available = [c1, c0] ∧ available ≤ 32767 ↔ available = ofBytes [c1, c0] ∧ available ≤ 32767 := by
    rw [← beBytes_two_eq_iff]
    exact ⟨fun ⟨h, le⟩ => ⟨⟨h, by omega⟩, le⟩, fun ⟨⟨h, _⟩, le⟩ => ⟨h, le⟩⟩
  have within : ofBytes [c1, c0] ≤ 32767 ∧ available = ofBytes [c1, c0] ↔
      available = ofBytes [c1, c0] ∧ available ≤ 32767 :=
    ⟨fun ⟨le, h⟩ => ⟨h, h ▸ le⟩, fun ⟨h, le⟩ => ⟨h ▸ le, h⟩⟩
  rw [parseSupply_list, Option.ite_none_right_eq_some, supplyBytes_eq_iff, beBytes_word_eq_iff, flagByte_eq_iff]
  simp only [Option.some.injEq, SupplyData.mk.injEq, eq_comm (b := stamp), eq_comm (b := voltage),
    eq_comm (b := available), eq_comm (b := mains), ← beBytes_two_eq_iff (n := voltage)]
  constructor
  · rintro ⟨⟨kinds, checked, low, flag⟩, stamps, ⟨volts, voltHigh⟩, current, mains⟩
    obtain ⟨amps, ampHigh⟩ := small.mpr (within.mp ⟨low, current⟩)
    exact ⟨⟨checked, kinds, stamps, volts, amps, flag, mains⟩, voltHigh, ampHigh⟩
  · rintro ⟨⟨checked, kinds, stamps, volts, amps, flag, mains⟩, voltHigh, ampHigh⟩
    obtain ⟨low, current⟩ := within.mpr (small.mp ⟨amps, ampHigh⟩)
    exact ⟨⟨kinds, checked, low, flag⟩, stamps, ⟨volts, voltHigh⟩, current, mains⟩

theorem parseSample_iff (bs : List Byte) (d : SampleData) : parseSample bs = some d ↔
    bs = sampleBytes d ∧ -32768 ≤ d.ia ∧ d.ia ≤ 32767 ∧ -32768 ≤ d.ib ∧ d.ib ≤ 32767 ∧ d.angle < 65536 := by
  by_cases twelve : bs.length = 12
  · match bs, twelve with
    | [_, _, _, _, _, _, _, _, _, _, _, _], _ => exact parseSample_list_iff
  · constructor
    · intro read
      unfold parseSample at read
      split at read
      · exact absurd rfl twelve
      · nomatch read
    · rintro ⟨rfl, _⟩
      exact absurd (sampleBytes_length d) twelve

theorem parseSupply_iff (bs : List Byte) (d : SupplyData) : parseSupply bs = some d ↔
    bs = supplyBytes d ∧ d.voltage < 65536 ∧ d.available ≤ 32767 := by
  by_cases ten : bs.length = 10
  · match bs, ten with
    | [_, _, _, _, _, _, _, _, _, _], _ => exact parseSupply_list_iff
  · constructor
    · intro read
      unfold parseSupply at read
      split at read
      · exact absurd rfl ten
      · nomatch read
    · rintro ⟨rfl, _⟩
      exact absurd (supplyBytes_length d) ten

/-- Settles O16: a list checks exactly when its last two bytes are the check of the others (`checkOk_iff`), and each
field is written as the bytes it is read from. -/
theorem validFramesAndRecordsReadBack : Obligations.ValidFramesAndRecordsReadBack := by
  unfold Obligations.ValidFramesAndRecordsReadBack
  refine ⟨fun bs f => ⟨parseFrame_written, ?_⟩, parseSample_iff, parseSupply_iff⟩
  rintro ⟨rfl, code, fields⟩
  exact parseFrame_requestFrame code fields

end Sys2Proof.Machine


namespace Sys2Proof.Machine

/-! ### What the works of a period start leave alone (01, R1, R7) -/

/-- A port keeps what only masters write of it, and whether it has its signal. -/
def PortBlock.keepsTo (a b : PortBlock) : Prop :=
  b.inbound = a.inbound ∧ b.overrun = a.overrun ∧ b.damaged = a.damaged ∧ b.subscribed = a.subscribed ∧
    b.pacingMs = a.pacingMs ∧ (b.link = .down ↔ a.link = .down)

/-- What only masters and pins write is as it was. -/
def State.undisturbed (s t : State) : Prop :=
  t.phase = s.phase ∧ t.safetyPort = s.safetyPort ∧ t.resetting = s.resetting ∧ t.consts = s.consts ∧
    t.signals = s.signals ∧ t.pins = s.pins ∧ t.pending = s.pending ∧ t.retained.cause = s.retained.cause ∧
    ∀ q, (s.port q).keepsTo (t.port q)

section

variable {s t u : State}

theorem PortBlock.keepsTo.trans {a b c : PortBlock} (h : a.keepsTo b) (h' : b.keepsTo c) : a.keepsTo c := by
  obtain ⟨inbound, overrun, damaged, subscribed, pacing, link⟩ := h
  obtain ⟨inbound', overrun', damaged', subscribed', pacing', link'⟩ := h'
  exact ⟨inbound'.trans inbound, overrun'.trans overrun, damaged'.trans damaged, subscribed'.trans subscribed,
    pacing'.trans pacing, link'.trans link⟩

theorem PortBlock.keepsTo_refl (a : PortBlock) : a.keepsTo a := ⟨rfl, rfl, rfl, rfl, rfl, Iff.rfl⟩

theorem State.undisturbed.trans (h : s.undisturbed t) (h' : t.undisturbed u) : s.undisturbed u := by
  obtain ⟨phase, safety, resetting, consts, signals, pins, pending, cause, ports⟩ := h
  obtain ⟨phase', safety', resetting', consts', signals', pins', pending', cause', ports'⟩ := h'
  exact ⟨phase'.trans phase, safety'.trans safety, resetting'.trans resetting, consts'.trans consts,
    signals'.trans signals, pins'.trans pins, pending'.trans pending, cause'.trans cause,
    fun q => (ports q).trans (ports' q)⟩

theorem State.sameFrame.undisturbed (h : s.sameFrame t) : s.undisturbed t := by
  obtain ⟨phase, safety, resetting, consts, signals, pins, -, -, -, pending, cause, ports⟩ := h
  refine ⟨phase, safety, resetting, consts, signals, pins, pending, cause, fun q => ?_⟩
  obtain ⟨link, -, inbound, overrun, damaged, subscribed, pacing⟩ := ports q
  exact ⟨inbound, overrun, damaged, subscribed, pacing, by rw [link]⟩

theorem State.framed.undisturbed (h : s.framed t) : s.undisturbed t := h.frame.undisturbed

variable (s)

theorem undisturbed_refl : s.undisturbed s :=
  ⟨rfl, rfl, rfl, rfl, rfl, rfl, rfl, rfl, fun _ => PortBlock.keepsTo_refl _⟩

/-- One port alone is written, and keeps what its masters wrote. -/
theorem undisturbed_port (p : Port) {b : PortBlock} (h : (s.port p).keepsTo b) :
    s.undisturbed { s with ports := vset s.ports p b } := by
  refine ⟨rfl, rfl, rfl, rfl, rfl, rfl, rfl, rfl, fun q => ?_⟩
  show (vget s.ports q).keepsTo (vget (vset s.ports p b) q)
  rw [vget_vset]
  split
  · next hq => exact hq ▸ h
  · exact PortBlock.keepsTo_refl _

/-! #### The steps of an engine -/

theorem reportOrdinary_framed (k : FaultKind) (sc : Scope) (e : Option W16) : s.framed (reportOrdinary k sc e s) :=
  takeReactions_framed (pendReport k sc e s)

theorem reportBrakes_framed (wrong : Feedback) (g : List Chan) : s.framed (reportBrakes wrong g s) :=
  reportBrakes_induct s.framed wrong (fun _ u hu => hu.trans (reportOrdinary_framed u _ _ _)) g s (framed_refl s)

theorem missStep_framed (first : Bool) (c : Chan) : s.framed (missStep first c s) := by
  unfold missStep
  dsimp only
  split
  · exact detectTrip_framed { s with engines := vset s.engines c ((s.eng c).countMiss first) } _ _ _
  · exact framed_refl s

theorem missSteps_framed (first : Bool) (g : List Chan) : s.framed (missSteps first g s) :=
  missSteps_induct s.framed first (fun c u hu => hu.trans (missStep_framed u first c)) g s (framed_refl s)

theorem rampStep_framed (l : Chan) : s.framed (rampStep l s) := by
  unfold rampStep
  dsimp only
  split
  · exact framed_refl s
  · exact framed_refl s

theorem toRamping_framed (l : Chan) : s.framed (toRamping l s) := moveGroup_framed _ _ _ _

theorem timerStep_framed (l : Chan) : s.framed (timerStep l s) := by
  unfold timerStep
  dsimp only
  split
  case h_1 =>
    split
    · exact (moveGroup_framed s l _ _).trans (takeReactions_framed _)
    · split
      · exact ((reportBrakes_framed s _ _).trans (toHolding_framed _ l)).trans (takeReactions_framed _)
      · exact framed_refl s
  case h_2 =>
    split
    · exact framed_refl s
    · split
      · exact toRamping_framed s l
      · split
        · exact reportBrakes_framed { s with engines := vset s.engines l { s.eng l with timer := none, holdFault := true } } _ _
        · exact framed_refl s
  case h_3 =>
    split
    · exact (rampStep_framed s l).trans (toOff_framed _ l)
    · exact rampStep_framed s l
  case h_4 =>
    split
    · exact ((rampStep_framed s l).trans (toOff_framed _ l)).trans (reportDeparture_framed _)
    · exact rampStep_framed s l
  case h_5 | h_6 | h_7 => exact framed_refl s

theorem lowWater_framed (l : Chan) (n : Nat) : s.framed (lowWater l n s) := by
  unfold lowWater
  dsimp only
  split
  · split
    · exact handTo_framed s _ _
    · exact framed_refl s
  · exact framed_refl s

theorem closeHandover_framed (l : Chan) : s.framed (closeHandover l s) := by
  unfold closeHandover
  split
  · exact takeReactions_framed (dropHandover l s)
  · exact framed_refl s

theorem takeEntry_framed (l : Chan) (x : Entry) : s.framed (takeEntry l x s) :=
  (lowWater_framed { s with
      queues := vset s.queues l ((s.queue l).take s.period)
      engines := vset s.engines l { s.eng l with
        active := x.toDemand (s.eng l).idTarget, idTarget := (x.toDemand (s.eng l).idTarget).id } } l _).trans
    (closeHandover_framed _ l)

theorem countGap_framed (l : Chan) : s.framed (countGap l s) := by
  unfold countGap
  dsimp only
  split
  · exact reportOrdinary_framed { s with queues := vset s.queues l ((s.queue l).gapped (s.env l).opens.starve) } _ _ _
  · exact framed_refl s

theorem queueStep_framed (l : Chan) : s.framed (queueStep l s) := by
  have running : s.framed (match s.headAt l with
      | some x => takeEntry l x s
      | none => if (s.auRec l).handover.isSome then s else countGap l s) := by
    split
    · exact takeEntry_framed s l _
    · split
      · exact framed_refl s
      · exact countGap_framed s l
  unfold queueStep
  split
  case h_1 | h_2 => exact running
  case h_3 =>
    split
    · exact framed_refl s
    · exact framed_refl s
  all_goals exact framed_refl s

theorem substitute_framed (c : Chan) : s.framed (substitute c s) := by
  unfold substitute
  dsimp only
  split
  · exact framed_refl s
  · exact framed_refl s

theorem laterSteps_framed (l : Chan) : s.framed (laterSteps l s) :=
  (timerStep_framed s l).trans (queueStep_framed _ l)

theorem engineStart_framed (first : Bool) (l : Chan) : s.framed (engineStart first l s) :=
  substitutes_induct s.framed (fun c u hu => hu.trans (substitute_framed u c)) _ _
    ((missSteps_framed s first (s.group l)).trans (laterSteps_framed _ l))

theorem takeHeld_framed (l : Chan) : s.framed (takeHeld l s) := by
  unfold takeHeld
  split
  · exact takeReactions_framed { s with react := { s.react with untilTake := vset s.react.untilTake l false } }
  · exact framed_refl s

theorem overdueEngine_framed (l : Chan) : s.framed (overdueEngine l s) := by
  unfold overdueEngine
  split
  · exact laterSteps_framed s l
  · exact framed_refl s

/-! #### The expiries -/

theorem preemptByHead_framed (l : Chan) : s.framed (preemptByHead l s) := by
  unfold preemptByHead
  split
  · split
    · exact displace_framed s l _
    · exact framed_refl s
  · exact framed_refl s

theorem lockExpiryOf_framed (l : Chan) : s.framed (lockExpiryOf l s) := by
  unfold lockExpiryOf
  dsimp only
  split
  · refine State.framed.trans ?_ ((preemptByHead_framed _ l).trans (takeReactions_framed _))
    split
    · exact handTo_framed { s with auth := vset s.auth l { s.auRec l with lock := none } } _ _
    · exact framed_refl s
  · exact framed_refl s

theorem handoverExpiryOf_framed (l : Chan) : s.framed (handoverExpiryOf l s) := by
  unfold handoverExpiryOf
  split
  · split
    · exact reportOrdinary_framed (dropHandover l s) _ _ _
    · exact framed_refl s
  · exact framed_refl s

theorem handoverAtStart_framed (l : Chan) : s.framed (handoverAtStart l s) := by
  unfold handoverAtStart
  split
  · exact handoverExpiryOf_framed { s with react := { s.react with untilTake := vset s.react.untilTake l true } } l
  · exact handoverExpiryOf_framed s l

theorem proposalExpiryOf_framed (l : Chan) : s.framed (proposalExpiryOf l s) := by
  unfold proposalExpiryOf
  split
  · split
    · exact endProposal_framed s l _
    · exact framed_refl s
  · exact framed_refl s

theorem chargeExpiry_framed : s.framed (chargeExpiry s) := by
  unfold chargeExpiry
  split
  · exact linkFault_framed s _
  · exact framed_refl s

theorem settleExpiry_framed : s.framed (settleExpiry s) := by
  unfold settleExpiry
  split
  · exact changeLink_framed s _
  · exact framed_refl s

theorem wakeExpiry_framed : s.framed (wakeExpiry s) := by
  unfold wakeExpiry
  split
  · exact linkFault_framed s _
  · exact framed_refl s

theorem linkTimerExpiry_framed : s.framed (linkTimerExpiry s) := by
  unfold linkTimerExpiry
  split
  · exact chargeExpiry_framed s
  · exact settleExpiry_framed s
  · exact wakeExpiry_framed s
  all_goals exact framed_refl s

theorem supplyCheck_framed (first : Bool) : s.framed (supplyCheck first s) := by
  unfold supplyCheck
  dsimp only
  split
  · exact framed_refl s
  · split
    · split
      · exact linkFault_framed { s with link := { s.link with supplyTaken := false, supplyMiss := s.link.supplyMiss + 1 } } _
      · exact framed_refl s
    · exact framed_refl s

theorem pacingExpiry_undisturbed (p : Port) : s.undisturbed (pacingExpiry p s) := by
  unfold pacingExpiry
  split
  · exact undisturbed_port s p (PortBlock.keepsTo_refl _)
  · exact undisturbed_refl s

theorem silenceExpiry_undisturbed (p : Port) : s.undisturbed (silenceExpiry p s) := by
  unfold silenceExpiry
  dsimp only
  split
  · next expired =>
    obtain ⟨up, -⟩ := expired
    have present : (s.port p).link ≠ .down := by
      rw [up]
      decide
    have silent : (s.port p).keepsTo { s.port p with link := .silent, silence := none } :=
      ⟨rfl, rfl, rfl, rfl, rfl, iff_of_false (fun isDown => nomatch isDown) present⟩
    exact (undisturbed_port s p silent).trans (reportOrdinary_framed _ _ _ _).undisturbed
  · exact undisturbed_refl s

theorem recordLevel_framed (b : Binding) (i : Input) (level : Bool) : s.framed (recordLevel b i level s) := by
  cases b with
  | none | safeStop | brakeFb _ | wake => exact framed_refl s

theorem judgeWake_framed : s.framed (judgeWake s) := by
  unfold judgeWake
  split
  · exact changeLink_framed s _
  · exact framed_refl s

theorem wakeLink_framed : s.framed (wakeLink s) := by
  unfold wakeLink
  split
  · exact (changeLink_framed s _).trans (judgeWake_framed _)
  · exact framed_refl s

theorem actOnActive_framed (b : Binding) : s.framed (actOnActive b s) := by
  unfold actOnActive
  split
  · split
    · exact framed_refl s
    · exact detectSafeStop_framed s
  · exact wakeLink_framed s
  · exact framed_refl s
  · exact framed_refl s

theorem changeLevel_undisturbed (i : Input) (level : Bool) : s.undisturbed (changeLevel i level s) := by
  have changed : s.undisturbed { s with inputs := vset s.inputs i ((s.inp i).changed level (!s.inConfig)) } :=
    undisturbed_refl s
  refine changed.trans (State.framed.undisturbed ?_)
  have told (u : State) (x : Bool) : u.framed (if x then broadcast .input u else u) := by
    split
    · exact broadcast_framed u _
    · exact framed_refl u
  unfold changeLevel
  dsimp only
  generalize { s with inputs := vset s.inputs i ((s.inp i).changed level (!s.inConfig)) } = u
  have recorded := (told u (level && !s.inConfig)).trans (recordLevel_framed _ (s.inputConfig i).binding i level)
  split
  · exact recorded.trans (actOnActive_framed _ _)
  · exact recorded

theorem debounceExpiry_undisturbed (i : Input) : s.undisturbed (debounceExpiry i s) := by
  unfold debounceExpiry
  split
  · exact changeLevel_undisturbed s i _
  · exact undisturbed_refl s

/-! #### The works -/

theorem settle_undisturbed : s.undisturbed (settle s) := (settle_sameFrame s).undisturbed

theorem overdueWork_undisturbed (w : Work) : s.undisturbed (overdueWork w s) := by
  cases w with
  | engine c => exact (overdueEngine_framed s c).undisturbed
  | supply => exact undisturbed_refl s
  | lock c => exact (lockExpiryOf_framed s c).undisturbed
  | handover c => exact (handoverExpiryOf_framed s c).undisturbed
  | proposal c => exact (proposalExpiryOf_framed s c).undisturbed
  | linkTimer => exact (linkTimerExpiry_framed s).undisturbed
  | silence p => exact silenceExpiry_undisturbed s p
  | pacing p => exact pacingExpiry_undisturbed s p
  | debounce i => exact debounceExpiry_undisturbed s i

theorem runWork_undisturbed (first : Bool) (w : Work) : s.undisturbed (runWork first w s) := by
  cases w with
  | engine c =>
    refine State.framed.undisturbed (State.framed.trans ?_ (takeHeld_framed _ c))
    split
    · exact engineStart_framed s first c
    · exact framed_refl s
  | supply => exact (supplyCheck_framed s first).undisturbed
  | lock c => exact (lockExpiryOf_framed s c).undisturbed
  | handover c => exact (handoverAtStart_framed s c).undisturbed
  | proposal c => exact (proposalExpiryOf_framed s c).undisturbed
  | linkTimer => exact (linkTimerExpiry_framed s).undisturbed
  | silence p => exact silenceExpiry_undisturbed s p
  | pacing p => exact pacingExpiry_undisturbed s p
  | debounce i => exact debounceExpiry_undisturbed s i

theorem leaveWork_undisturbed (first : Bool) (w : Work) : s.undisturbed (leaveWork first w s) := by
  cases w with
  | engine c =>
    refine State.framed.undisturbed (State.framed.trans ?_ (takeHeld_framed _ c))
    split
    · split
      · exact missSteps_framed s first _
      · exact engineStart_framed s first c
    · exact framed_refl s
  | supply => exact (supplyCheck_framed s first).undisturbed
  | lock _ | handover _ | proposal _ | linkTimer | silence _ | pacing _ | debounce _ => exact undisturbed_refl s

theorem overdueWorks_undisturbed (ws : List Work) : s.undisturbed (overdueWorks ws s) :=
  overdueWorks_induct s.undisturbed (fun w u hu => hu.trans (overdueWork_undisturbed u w))
    (fun u hu => hu.trans (settle_undisturbed u)) ws s (undisturbed_refl s)

theorem runWorks_undisturbed (first : Bool) (ws : List Work) : s.undisturbed (runWorks first ws s) :=
  runWorks_induct s.undisturbed first (fun w u hu => hu.trans (runWork_undisturbed u first w))
    (fun u hu => hu.trans (settle_undisturbed u)) ws s (undisturbed_refl s)

theorem leaveWorks_undisturbed (first : Bool) (ws : List Work) : s.undisturbed (leaveWorks first ws s) :=
  leaveWorks_induct s.undisturbed first (fun w u hu => hu.trans (leaveWork_undisturbed u first w))
    (fun u hu => hu.trans (settle_undisturbed u)) ws s (undisturbed_refl s)

theorem takeHelds_undisturbed (g : List Chan) : s.undisturbed (takeHelds g s) :=
  takeHelds_induct s.undisturbed (fun c u hu => hu.trans (takeHeld_framed u c).undisturbed) g s (undisturbed_refl s)

end

end Sys2Proof.Machine


namespace Sys2Proof.Machine

/-! ### The order of a period start's works (01, R7, log 3) -/

theorem mem_allWorks (w : Work) : w ∈ allWorks := by
  simp only [allWorks, List.mem_append, List.mem_map, List.mem_cons]
  cases w with
  | debounce i => simp [mem_allInputs]
  | engine c | lock c | handover c | proposal c => simp [mem_allChans]
  | silence p | pacing p => simp [mem_allPorts]
  | supply | linkTimer => simp

theorem allWorks_nodup : allWorks.Nodup := by decide

theorem periodOrderOk_iff {order later : List Work} :
    periodOrderOk order later = true ↔ order.Nodup ∧ later.Nodup ∧ ∀ w ∈ order, w ∉ later := by
  simp [periodOrderOk, and_assoc]

theorem eraseDups_of_nodup {l : List Work} (h : l.Nodup) : l.eraseDups = l := by
  induction l with
  | nil => rfl
  | cons w rest ih =>
    obtain ⟨fresh, nodup⟩ := List.nodup_cons.mp h
    have others : rest.filter (fun x => !x == w) = rest := by
      refine List.filter_eq_self.mpr fun x hx => ?_
      have distinct : x ≠ w := fun same => fresh (same ▸ hx)
      simpa using distinct
    rw [List.eraseDups_cons, others, ih nodup]

section

variable {order later : List Work} (ok : periodOrderOk order later = true)
include ok

theorem order_prefix_works : order <+: worksInOrder order later := by
  obtain ⟨nodup, -, -⟩ := periodOrderOk_iff.mp ok
  rw [worksInOrder, eraseDups_of_nodup nodup]
  exact List.prefix_append _ _

theorem worksInOrder_nodup : (worksInOrder order later).Nodup := by
  obtain ⟨nodup, -, -⟩ := periodOrderOk_iff.mp ok
  rw [worksInOrder, eraseDups_of_nodup nodup]
  refine List.nodup_append.mpr ⟨nodup, List.Pairwise.filter _ allWorks_nodup, fun w ordered x rest same => ?_⟩
  have unordered := (List.mem_filter.mp rest).2
  rw [← same] at unordered
  simp [ordered] at unordered

theorem mem_worksInOrder (w : Work) : w ∈ worksInOrder order later ↔ w ∉ later := by
  obtain ⟨nodup, -, apart⟩ := periodOrderOk_iff.mp ok
  rw [worksInOrder, eraseDups_of_nodup nodup, List.mem_append, List.mem_filter, and_iff_right (mem_allWorks w)]
  by_cases ordered : w ∈ order
  · simp [ordered, apart w ordered]
  · simp [ordered]

theorem later_left : later.eraseDups.filter (fun w => !order.contains w) = later := by
  obtain ⟨-, nodup, apart⟩ := periodOrderOk_iff.mp ok
  rw [eraseDups_of_nodup nodup]
  refine List.filter_eq_self.mpr fun w left => ?_
  have unordered : w ∉ order := fun ordered => apart w ordered left
  simpa using unordered

end

/-! ### Works taken one by one -/

theorem takeHelds_eq_foldl : ∀ (g : List Chan) (s : State), takeHelds g s = g.foldl (fun x c => takeHeld c x) s
  | [], _ => rfl
  | _ :: rest, _ => takeHelds_eq_foldl rest _

theorem missSteps_eq_foldl (first : Bool) : ∀ (g : List Chan) (s : State),
    missSteps first g s = g.foldl (fun x c => missStep first c x) s
  | [], _ => rfl
  | _ :: rest, _ => missSteps_eq_foldl first rest _

theorem substitutes_eq_foldl : ∀ (g : List Chan) (s : State),
    substitutes g s = g.foldl (fun x c => substitute c x) s
  | [], _ => rfl
  | _ :: rest, _ => substitutes_eq_foldl rest _

/-- The period marks, the last sent first. -/
theorem sendMarks_eq : ∀ (g : List Chan) (s : State), sendMarks g s =
    { s with wire := ((g.filter fun c => s.present c).map fun c => .bridge c (periodMark s.stamp16)).reverse ++ s.wire }
  | [], _ => rfl
  | c :: rest, s => by
    rw [sendMarks, sendMarks_eq rest]
    by_cases present : s.present c = true
    · rw [if_pos present, List.filter_cons_of_pos present, List.map_cons, List.reverse_cons, List.append_assoc]
      rfl
    · rw [if_neg present, List.filter_cons_of_neg present]

theorem periodStart_eq {order later : List Work} (ok : periodOrderOk order later = true) (s : State) :
    periodStart order later s = allChans.foldl (fun x c => takeHeld c x)
      (leaveWorks (!s.started) later (runWorks (!s.started) (worksInOrder order later)
        (sendMarks allChans (advance (overdueWorks allWorks s))))) := by
  rw [periodStart, takeHelds_eq_foldl, later_left ok]

/-! ### The counts of a period start (01, R1, R2) -/

theorem advance_eq (s : State) : advance s = { s with
    period := if s.started then s.period + 1 else 0, started := true
    auth := (advance s).auth, engines := (advance s).engines, envs := (advance s).envs
    link := { s.link with timer := s.link.timer.map (· - 1) }, inputs := (advance s).inputs
    ports := (advance s).ports } := rfl

theorem advance_eng (s : State) (c : Chan) : (advance s).eng c = { s.eng c with timer := tickCount (s.eng c).timer } := by
  have ticked : (advance s).engines = vmap allChans (fun _ e => { e with timer := tickCount e.timer }) s.engines := rfl
  rw [State.eng, ticked, vget_vmap_chans]
  rfl

theorem advance_auRec (s : State) (c : Chan) : (advance s).auRec c = (s.auRec c).tick := by
  have ticked : (advance s).auth = vmap allChans (fun _ r => r.tick) s.auth := rfl
  rw [State.auRec, ticked, vget_vmap_chans]
  rfl

theorem advance_env (s : State) (c : Chan) : (advance s).env c = (s.env c).tick := by
  have ticked : (advance s).envs = vmap allChans (fun _ e => e.tick) s.envs := rfl
  rw [State.env, ticked, vget_vmap_chans]
  rfl

theorem advance_inp (s : State) (i : Input) : (advance s).inp i = { s.inp i with debounce := tickCount (s.inp i).debounce } := by
  have ticked : (advance s).inputs = vmap allInputs (fun _ b => { b with debounce := tickCount b.debounce }) s.inputs := rfl
  rw [State.inp, ticked, vget_vmap_inputs]
  rfl

theorem advance_port (s : State) (p : Port) : (advance s).port p = (s.port p).tick := by
  have ticked : (advance s).ports = vmap allPorts (fun _ b => b.tick) s.ports := rfl
  rw [State.port, ticked, vget_vmap_ports]
  rfl

theorem advance_undisturbed (s : State) : s.undisturbed (advance s) := by
  refine ⟨rfl, rfl, rfl, rfl, rfl, rfl, rfl, rfl, fun q => ?_⟩
  rw [advance_port]
  exact ⟨rfl, rfl, rfl, rfl, rfl, Iff.rfl⟩

theorem sendMarks_undisturbed (g : List Chan) (s : State) : s.undisturbed (sendMarks g s) := by
  rw [sendMarks_eq]
  exact undisturbed_refl s

theorem periodStart_undisturbed (order later : List Work) (s : State) : s.undisturbed (periodStart order later s) :=
  ((((overdueWorks_undisturbed s allWorks).trans (advance_undisturbed _)).trans (sendMarks_undisturbed allChans _)).trans
    ((runWorks_undisturbed _ _ _).trans (leaveWorks_undisturbed _ _ _))).trans (takeHelds_undisturbed _ allChans)

theorem periodStart_period (order later : List Work) (s : State) :
    (periodStart order later s).period = if s.started then s.period + 1 else 0 := by
  simp [periodStart, sendMarks_eq, advance]

theorem periodStart_started (order later : List Work) (s : State) : (periodStart order later s).started = true := by
  simp [periodStart, sendMarks_eq, advance]

end Sys2Proof.Machine


namespace Sys2Proof.Machine

section

variable {s : State} {c : Chan} {first : Bool}

/-! ### An engine's work (01, R7; 04, R74) -/

theorem headAt_eq_none_iff : s.headAt c = none ↔ ∀ x, (s.queue c).entries.head? = some x → x.stamp ≠ s.period := by
  rw [State.headAt, Option.filter_eq_none_iff]
  simp only [decide_eq_true_eq, ne_eq]

theorem headAt_isNone_iff :
    (s.headAt c).isNone = true ↔ ∀ x, (s.queue c).entries.head? = some x → x.stamp ≠ s.period := by
  rw [Option.isNone_iff_eq_none, headAt_eq_none_iff]

theorem canWait_iff : s.canWait first c = true ↔ (s.eng c).timer = some 0 ∧
    (∀ d ∈ s.group c, first = true ∨ (s.eng d).sampleTaken = true) ∧
    ∀ x, (s.queue c).entries.head? = some x → x.stamp ≠ s.period := by
  have taken (d : Chan) : (!s.missed first d) = true ↔ first = true ∨ (s.eng d).sampleTaken = true := by
    rw [State.missed, Bool.not_and, Bool.not_not, Bool.not_not, Bool.or_eq_true]
  rw [State.canWait, Bool.and_eq_true, Bool.and_eq_true, decide_eq_true_eq, List.all_eq_true, headAt_isNone_iff, and_assoc]
  simp only [taken]

theorem engineStart_eq : engineStart first c s =
    ((s.group c).filter fun d => !first && !(s.eng d).sampleTaken).foldl (fun x d => substitute d x)
      (queueStep c (timerStep c ((s.group c).foldl (fun x d => missStep first d x) s))) := by
  rw [engineStart, substitutes_eq_foldl, laterSteps, missSteps_eq_foldl]
  rfl

theorem runWork_engine (served : s.served c = true) : runWork first (.engine c) s = takeHeld c (engineStart first c s) :=
  congrArg (takeHeld c) (if_pos served)

theorem leaveWork_engine (served : s.served c = true) : leaveWork first (.engine c) s = takeHeld c
    (if s.canWait first c = true then missSteps first (s.group c) s else engineStart first c s) :=
  congrArg (takeHeld c) (if_pos served)

/-! ### A missed period (04, R74) -/

theorem missStep_taken (h : first = true ∨ (s.eng c).sampleTaken = true) : missStep first c s =
    { s with engines := vset s.engines c { s.eng c with sampleTaken := false } } := by
  have taken : (first || (s.eng c).sampleTaken) = true := by rwa [Bool.or_eq_true]
  have counted : (s.eng c).countMiss first = { s.eng c with sampleTaken := false } := if_pos taken
  have unmissed : (!first && !(s.eng c).sampleTaken) = false := by rw [← Bool.not_or, taken, Bool.not_true]
  unfold missStep
  dsimp only
  rw [unmissed, counted]
  rfl

theorem missStep_missed (h : (s.eng c).sampleTaken = false) {u : State} (counted : u = { s with
      engines := vset s.engines c { s.eng c with sampleTaken := false, miss := min 2 ((s.eng c).miss + 1) } }) :
    missStep false c s = if 1 ≤ (s.eng c).miss then detectTrip .sampleLost c 2 u else u := by
  have marked : (s.eng c).countMiss false = { s.eng c with sampleTaken := false, miss := min 2 ((s.eng c).miss + 1) } := by
    rw [Engine.countMiss, h]
    rfl
  unfold missStep
  dsimp only
  rw [h, marked, ← counted]
  exact ite_of_iff (by simp)

theorem substitute_ever {gates : Bool} (ever : (s.eng c).sampleEver = true) (h : (s.eng c).gateEnable = gates) :
    substitute c s = sendGate c s.stamp16 (if gates then (s.eng c).lastDuties else Duties.zero) gates s := by
  subst h
  exact if_pos ever

/-- With the gates on, the last duties are sent again. -/
theorem substitute_on (ever : (s.eng c).sampleEver = true) (gates : (s.eng c).gateEnable = true) : substitute c s =
    { s with wire := .bridge c (gateRecord (s.period.setWidth 16) (s.eng c).lastDuties true
      (decide (s.link.state = .parked))) :: s.wire } := by
  have same : vset s.engines c { s.eng c with lastDuties := (s.eng c).lastDuties } = s.engines := vset_vget_self _ _
  rw [substitute_ever ever gates, if_pos rfl, sendGate, same]
  rfl

theorem substitute_off (ever : (s.eng c).sampleEver = true) (gates : (s.eng c).gateEnable = false) : substitute c s =
    { s with
      engines := vset s.engines c { s.eng c with lastDuties := ⟨0, 0, 0⟩ }
      wire := .bridge c (gateRecord (s.period.setWidth 16) ⟨0, 0, 0⟩ false (decide (s.link.state = .parked))) ::
        s.wire } :=
  substitute_ever ever gates

/-! ### Expiries as commands of their own (log 4) -/

theorem exec_chargeTimerExpiry (h : s.link.state = .charging) :
    exec .chargeTimerExpiry s = .next (settle (runWork first .linkTimer s)) := by
  have work : runWork first .linkTimer s = chargeExpiry s := by
    rw [runWork, linkTimerExpiry, h]
  rw [work]
  rfl

theorem exec_settleTimerExpiry (h : s.link.state = .settling) :
    exec .settleTimerExpiry s = .next (settle (runWork first .linkTimer s)) := by
  have work : runWork first .linkTimer s = settleExpiry s := by
    rw [runWork, linkTimerExpiry, h]
  rw [work]
  rfl

theorem exec_wakeTimerExpiry (h : s.link.state = .waking) :
    exec .wakeTimerExpiry s = .next (settle (runWork first .linkTimer s)) := by
  have work : runWork first .linkTimer s = wakeExpiry s := by
    rw [runWork, linkTimerExpiry, h]
  rw [work]
  rfl

/-- The deadline of a handover meets a take to come on its channel. -/
def State.deadlineAhead (s : State) (c : Chan) : Bool :=
  (s.auRec c).handover.any (fun h => decide (h.left = 0)) && s.takeToCome c

theorem handoverAtStart_eq : handoverAtStart c s = if s.deadlineAhead c = true then
    handoverExpiryOf c { s with react := { s.react with untilTake := vset s.react.untilTake c true } }
    else handoverExpiryOf c s := rfl

theorem deadlineAhead_false (h : (s.eng c).state.running = false ∨ (∀ h, (s.auRec c).handover = some h → h.left ≠ 0) ∨
    ∀ x, (s.queue c).entries.head? = some x → x.stamp ≠ s.period) : s.deadlineAhead c = false := by
  rw [State.deadlineAhead, State.takeToCome]
  rcases h with idle | lasting | empty
  · rw [idle, Bool.false_and, Bool.and_false]
  · have unexpired : (s.auRec c).handover.any (fun h => decide (h.left = 0)) = false := by
      cases open_ : (s.auRec c).handover with
      | none => rfl
      | some h => exact decide_eq_false (lasting h open_)
    rw [unexpired, Bool.false_and]
  · rw [headAt_eq_none_iff.mpr empty, Option.isSome_none, Bool.and_false, Bool.and_false]

theorem deadlineAhead_true {h : Handover} {x : Entry} (running : (s.eng c).state.running = true)
    (handover : (s.auRec c).handover = some h) (expired : h.left = 0)
    (head : (s.queue c).entries.head? = some x) (due : x.stamp = s.period) : s.deadlineAhead c = true := by
  have here : s.headAt c = some x := by
    rw [State.headAt, head]
    exact if_pos (decide_eq_true due)
  rw [State.deadlineAhead, State.takeToCome, running, handover, here]
  exact Bool.and_eq_true_iff.mpr ⟨decide_eq_true expired, rfl⟩

theorem exec_handoverDeadline_alone (h : (s.eng c).state.running = false ∨
    (∀ h, (s.auRec c).handover = some h → h.left ≠ 0) ∨
    ∀ x, (s.queue c).entries.head? = some x → x.stamp ≠ s.period) :
    exec (.handoverDeadline c) s = .next (settle (runWork first (.handover c) s)) := by
  have work : runWork first (.handover c) s = handoverExpiryOf c s := by
    rw [runWork, handoverAtStart_eq, deadlineAhead_false h]
    rfl
  rw [work]
  rfl

theorem exec_handoverDeadline_ahead {h : Handover} {x : Entry} (running : (s.eng c).state.running = true)
    (handover : (s.auRec c).handover = some h) (expired : h.left = 0)
    (head : (s.queue c).entries.head? = some x) (due : x.stamp = s.period) :
    exec (.handoverDeadline c) { s with react := { s.react with untilTake := vset s.react.untilTake c true } } =
      .next (settle (runWork first (.handover c) s)) := by
  have work : runWork first (.handover c) s =
      handoverExpiryOf c { s with react := { s.react with untilTake := vset s.react.untilTake c true } } := by
    rw [runWork, handoverAtStart_eq, deadlineAhead_true running handover expired head due, if_pos rfl]
  rw [work]
  rfl

end

/-! ### A period start (01, R1) -/

theorem exec_periodStart_config {s : State} (order later : List Work) (h : s.phase = .config) :
    exec (.periodStart order later) s = .next s :=
  if_pos (by rw [State.inConfig, h]; rfl)

theorem exec_periodStart_operating {s : State} (order later : List Work) (h : s.phase = .operating) :
    exec (.periodStart order later) s = .next (settle (periodStart order later s)) :=
  if_neg (by rw [State.inConfig, h]; decide)

theorem settled_periodStart (order later : List Work) (s : State) :
    s.undisturbed (settle (periodStart order later s)) :=
  (periodStart_undisturbed order later s).trans (settle_undisturbed _)

theorem periodStart_fields (order later : List Work) {s : State} (hop : s.phase = .operating) :
    ∃ t, exec (.periodStart order later) s = .next t ∧
      t.period = (if s.started then s.period + 1 else 0) ∧ t.started = true ∧ s.undisturbed t :=
  ⟨_, exec_periodStart_operating order later hop, (settle_period _).trans (periodStart_period order later s),
    (settle_started _).trans (periodStart_started order later s), settled_periodStart order later s⟩

theorem periodStart_works {order later : List Work} (ok : periodOrderOk order later = true) {s : State}
    (hop : s.phase = .operating) : ∃ ws u v, u = overdueWorks allWorks s ∧ v = advance u ∧
      order <+: ws ∧ ws.Nodup ∧ (∀ w, w ∈ ws ↔ w ∉ later) ∧
      exec (.periodStart order later) s = .next (settle (allChans.foldl (fun x c => takeHeld c x)
        (leaveWorks (!s.started) later (runWorks (!s.started) ws
          { v with wire := ((allChans.filter fun c => s.present c).map fun c =>
              .bridge c (periodMark (v.period.setWidth 16))).reverse ++ v.wire })))) := by
  have counted := (overdueWorks_undisturbed s allWorks).trans (advance_undisturbed _)
  have present : (advance (overdueWorks allWorks s)).present = s.present := by
    obtain ⟨-, -, -, consts, -⟩ := counted
    funext c
    rw [State.present, consts, State.present]
  refine ⟨worksInOrder order later, _, _, rfl, rfl, order_prefix_works ok, worksInOrder_nodup ok,
    mem_worksInOrder ok, ?_⟩
  rw [exec_periodStart_operating order later hop, periodStart_eq ok, sendMarks_eq, present]
  rfl

theorem engineWork {s u v : State} {c : Chan} {first : Bool} (served : s.served c = true)
    (misses : u = (s.group c).foldl (fun x d => missStep first d x) s)
    (started : v = ((s.group c).filter fun d => !first && !(s.eng d).sampleTaken).foldl (fun x d => substitute d x)
      (queueStep c (timerStep c u))) :
    runWork first (.engine c) s = takeHeld c v ∧
    leaveWork first (.engine c) s = takeHeld c
      (if (s.eng c).timer = some 0 ∧ (∀ d ∈ s.group c, first = true ∨ (s.eng d).sampleTaken = true) ∧
        (∀ x, (s.queue c).entries.head? = some x → x.stamp ≠ s.period) then u else v) := by
  have start : engineStart first c s = v := by rw [started, misses, engineStart_eq]
  have missed : missSteps first (s.group c) s = u := by rw [misses, missSteps_eq_foldl]
  rw [runWork_engine served, leaveWork_engine served, start, missed]
  exact ⟨rfl, congrArg (takeHeld c) (ite_of_iff canWait_iff)⟩

theorem takeHeld_iff (c : Chan) (s : State) : (vget s.react.untilTake c = false → takeHeld c s = s) ∧
    (vget s.react.untilTake c = true → takeHeld c s =
      takeReactions { s with react := { s.react with untilTake := vset s.react.untilTake c false } }) :=
  ⟨fun none => if_neg (ne_true_of_eq_false none), fun held => if_pos held⟩

/-- Settles O10: the works of a period start disturb nothing that only masters and pins write
(`periodStart_undisturbed`), they are taken in the order they are given (`worksInOrder`), and each command of the clock
does the work it is named for. -/
theorem periodStartAdvancesTheCount : Obligations.PeriodStartAdvancesTheCount := by
  refine ⟨fun order later s ok => ⟨exec_periodStart_config order later, fun hop =>
      ⟨periodStart_fields order later hop, periodStart_works ok hop⟩⟩, ?counts,
    fun first w rest s => ⟨rfl, rfl, rfl, rfl⟩, fun first c s u v => engineWork, takeHeld_iff,
    fun first s c p i => ⟨rfl, rfl, rfl, rfl, rfl, exec_chargeTimerExpiry, exec_settleTimerExpiry, exec_wakeTimerExpiry,
      exec_handoverDeadline_alone, fun h x => exec_handoverDeadline_ahead⟩,
    fun first c s u counted => ⟨missStep_taken, fun later taken => ?missed⟩,
    fun c s => ⟨fun never => if_neg (ne_true_of_eq_false never), fun ever =>
      ⟨substitute_on ever, substitute_off ever⟩⟩⟩
  case counts =>
    intro s v counted
    rw [counted]
    exact ⟨advance_eq s, fun c => ⟨advance_eng s c, advance_auRec s c, advance_env s c⟩, advance_inp s, advance_port s⟩
  case missed =>
    rw [later]
    exact missStep_missed taken counted

end Sys2Proof.Machine
